-- ==== Sys2Proof/Word.lean ====
section
/-! DEFINITION. The one word type of the part: the byte of the office link (spec/10, section 10.1). -/

namespace Sys2Proof

/-- A byte as it passes over the office link (R171). -/
abbrev Byte := BitVec 8

end Sys2Proof
end

