-- ==== Sys2Proof/Syntax.lean ====
section
/-! DEFINITION. The commands and events of the part: one constructor for each row of spec/opcode_table.json.

A row of the office link (PING to READ_RECEIVE, and BAD_FORM) carries the BODY OF ITS FRAME, byte for byte, as
section 10.3 lays it out: so every size and every value a host can send is an operand (R174). The other rows carry what
the event is about: a byte, a channel, a slot, a handle, a ship, a received symbol. -/

namespace Sys2Proof

/-- Channels 0 to 7. -/
abbrev ChannelNo := Fin 8
/-- Message descriptors (handles) 0 to 255. -/
abbrev Handle := Fin 256
/-- Broadcast slots 0 to 63. -/
abbrev SlotNo := Fin 64
/-- Bulletin areas 0 to 31. -/
abbrev AreaNo := Fin 32
/-- Pattern watches 0 to 3. -/
abbrev WatchNo := Fin 4
/-- Store blocks 0 to 1,023. -/
abbrev BlockNo := Fin 1024
/-- The body of a frame (section 10.1). -/
abbrev Body := List Byte

inductive Instr where
  /-- The reset pin (R180). -/
  | powerOnReset
  /-- A byte from the host arrives at the frame receiver (R171). -/
  | officeLinkByte (b : Byte)
  /-- The inter-byte gap of a frame in reception runs out (R172). -/
  | gapTimeout
  /-- The last check byte of the frame in transmission has been sent (R175). -/
  | frameTransmitEnd
  /-- 01H, no body (R179). -/
  | ping (body : Body)
  /-- 02H, no body (R181). -/
  | restart (body : Body)
  /-- 03H, clear flag (R179). -/
  | readLink (body : Body)
  /-- 04H, category set, channel set (R177). -/
  | setNotices (body : Body)
  /-- 05H, day (2), ms of day (4) (R5). -/
  | setClock (body : Body)
  /-- 06H, no body (R7). -/
  | readClock (body : Body)
  /-- 07H, Nb (2) (R27, R28). -/
  | setSplit (body : Body)
  /-- 08H, area, first block (2), last block (2) (R30). -/
  | defineArea (body : Body)
  /-- 09H, area (R31). -/
  | clearArea (body : Body)
  /-- 0AH, channel, reserve (2), cap (2) (R40). -/
  | setAllowance (body : Body)
  /-- 0BH, no body (R43). -/
  | readStore (body : Body)
  /-- 0CH, grain (2) (R45). -/
  | setLoadGrain (body : Body)
  /-- 0DH, channel, number (2), destination (3), class, declared length (2), expiry presence, expiry day (2),
  expiry ms of day (4), confirm (R46, R47). -/
  | declareMessage (body : Body)
  /-- 0EH, area, declared length (2) (R48, R49). -/
  | openBulletin (body : Body)
  /-- 0FH, one byte for each symbol (R53, R54). -/
  | text (body : Body)
  /-- 10H, no body (R59). -/
  | abandonLoad (body : Body)
  /-- 11H, handle (R79). -/
  | readMessage (body : Body)
  /-- 12H, channel, list (R80). -/
  | listQueue (body : Body)
  /-- 13H, handle (R76). -/
  | cancel (body : Body)
  /-- 14H, handle (R78). -/
  | discard (body : Body)
  /-- 15H, handle (R74). -/
  | requeue (body : Body)
  /-- 16H, slot, channel set, anchor (4), period (2), area, window (4) (R85). -/
  | setSlot (body : Body)
  /-- 17H, slot (R86). -/
  | enableSlot (body : Body)
  /-- 18H, slot (R87). -/
  | disableSlot (body : Body)
  /-- 19H, slot (R87). -/
  | clearSlot (body : Body)
  /-- 1AH, slot (R88). -/
  | readSlot (body : Body)
  /-- 1BH, channel (R103). -/
  | readPending (body : Body)
  /-- 1CH, channel (R133). -/
  | readInterleaver (body : Body)
  /-- 1DH, channel (R137). -/
  | openChannel (body : Body)
  /-- 1EH, channel and the ten settings (R135). -/
  | setChannel (body : Body)
  /-- 1FH, channel (R136). -/
  | readChannel (body : Body)
  /-- 20H, channel (R143). -/
  | restore (body : Body)
  /-- 21H, channel (R144). -/
  | closeChannel (body : Body)
  /-- 22H, channel (R146). -/
  | resetChannel (body : Body)
  /-- 23H, channel (R148). -/
  | readStats (body : Body)
  /-- 24H, channel (R148). -/
  | clearStats (body : Body)
  /-- 25H, watch, channel set, value count, minimum length, then code and care flag of each value (R159). -/
  | setWatch (body : Body)
  /-- 26H, watch (R159). -/
  | clearWatch (body : Body)
  /-- 27H, watch (R159). -/
  | readWatch (body : Body)
  /-- 28H, channel (R162). -/
  | releaseCapture (body : Body)
  /-- 29H, channel (R162). -/
  | readCapture (body : Body)
  /-- 2AH, channel, ship (3) (R167). -/
  | clearHold (body : Body)
  /-- 2BH, channel, clear flag (R168). -/
  | readReceive (body : Body)
  /-- The running clock passes 86,399,999 ms of day (R2). -/
  | midnightRollover
  /-- The running clock stands at the last millisecond of day 65,535 (R3). -/
  | clockStopped
  /-- Station time has reached an ENABLED entry's next-due (R89). -/
  | slotOccurrence (slot : SlotNo)
  /-- Station time has reached the deadline of the WAITING request of `slot` due at `due` on an unkeyed channel (R93). -/
  | requestDeadlineUnkeyed (channel : ChannelNo) (slot : SlotNo) (due : Nat)
  /-- Station time has passed the expiry of a READY, never-keyed message (R75). -/
  | messageExpiry (handle : Handle)
  /-- Elapsed time has reached the ack due of an AWAIT-ACK message (R70). -/
  | ackTimerRunsOut (handle : Handle)
  /-- Elapsed time has reached the ends-at of a RUNNING hold record (R166). -/
  | holdExpiry (channel : ChannelNo) (ship : Nat)
  /-- The key-up limit runs out in KEY-UP (R139). -/
  | keyUpLimit (channel : ChannelNo)
  /-- Station time has reached S - G - key-up limit of the channel's next occurrence (R138 cause 3). -/
  | slotKeyUpThreshold (channel : ChannelNo)
  /-- The transmitter-ready input becomes present (R139). -/
  | transmitterReadyArrives (channel : ChannelNo)
  /-- The transmitter-ready input becomes absent (R141). -/
  | transmitterReadyDrops (channel : ChannelNo)
  /-- The character period of the line symbol being keyed ends (R18). -/
  | lineSymbolCompletes (channel : ChannelNo)
  /-- A symbol with its mutilation mark arrives at the receive input (R152). -/
  | receivedSymbol (channel : ChannelNo) (code : Nat) (mutilated : Bool)
  /-- A frame whose kind is not one of the 43 command kinds (R174). -/
  | badForm (kind : Byte) (body : Body)
deriving DecidableEq, Repr

end Sys2Proof
end

