-- ==== Sys2Proof/Config.lean ====
section
/-! DEFINITION. The fixed sizes and codes of the part, and the one value the manual leaves free. -/

namespace Sys2Proof.Config

/-- Part code carried by PING and STARTED (R179, R180): 4C38H. -/
def partCode : Nat := 0x4C38

/-- Revision of parts described by this manual (R179): 01H. -/
def revision : Nat := 1

/-- Milliseconds of one day (R2). -/
def dayMs : Nat := 86400000

/-- The last absolute station time, the last millisecond of day 65,535 (section 1.1). -/
def lastStationTime : Nat := 5662310399999

/-- Symbol cells of one block (section 3.1). -/
def blockCells : Nat := 64

/-- Blocks of the text store (section 3.1). -/
def blocks : Nat := 1024

/-- Store split after power-on reset and after RESTART (R26). -/
def resetSplit : Nat := 256

/-- Places of the notice queue (R178). -/
def noticePlaces : Nat := 64

/-- Places of the command input buffer (R173). -/
def bufferPlaces : Nat := 4

/-- Largest body length of a frame (section 10.1). -/
def maxBody : Nat := 512

/-- Longest inter-byte gap allowed inside a frame, in milliseconds (R172). -/
def gapLimit : Nat := 50

/-- THE FREE VALUE. Where the manual lets several like events of one moment be taken "in any order" (R75: expiries of
one SET-CLOCK; R89: occurrences of one millisecond), the order is that of these ranks, of which nothing is known.
It also orders the due events of a step without a command (notes/assumptions/3.md, 7.md).
The first argument is the count of such choices made so far, the second the number of the handle or slot. -/
opaque orderRank : Nat → Nat → Nat

end Sys2Proof.Config
end

