-- ==== Sys2Proof/Machine/State.lean ====
section
/-! DEFINITION. Everything the manual gives the part, as plain data, and the part as it stands after power-on reset.
INVENTORY.md lists each field with its rule and reset value. -/

namespace Sys2Proof.Machine

/-! ### Names for fixed sets of values -/

/-- Reasons a step of the part can stop with a fault: NONE. The manual describes no event that stops the part, so the
type has no constructor (safe: a claim cannot rest on a stop that cannot happen). -/
inductive Fault
deriving DecidableEq, Repr

/-- Reasons a command can have no meaning in the model. -/
inductive Refusal
  /-- Raised by Dispatch.exec alone, for a row of the table without a meaning. No arm raises it now. Safe. -/
  | notModelled (mnemonic : String)
deriving DecidableEq, Repr

/-- Refusal reasons of commands (section 10.3). -/
inductive Reason
  | badForm | range | state | busy | overlap | duplicate | notFound | tableFull | loadOpen | noLoad | overCredit
  | clockUnset
deriving DecidableEq, Repr

/-- States of a bulletin area (section 3.2). -/
inductive AreaState | undefined | empty | loading | ready
deriving DecidableEq, Repr

/-- States of a message descriptor (section 5.1). -/
inductive MsgState | free | loading | ready | active | parked | suspended | awaitAck | unconfirmed
deriving DecidableEq, Repr

/-- Traffic classes (section 5.1). -/
inductive MsgClass | relay | urgent | ordinary
deriving DecidableEq, Repr

/-- States of a slot entry (section 6.1). -/
inductive SlotState | empty | disabled | enabled
deriving DecidableEq, Repr

/-- States of a bulletin request (section 6.3). -/
inductive ReqState | waiting | onAir
deriving DecidableEq, Repr

/-- Outcomes of a bulletin request (R99). -/
inductive BulletinOutcome | onTime | late | restarted | missed | interrupted | noText
deriving DecidableEq, Repr

/-- Channel states (section 8.1). -/
inductive ChanState | offline | standby | keyUp | onAir | closing | faulted
deriving DecidableEq, Repr

/-- Fault reasons of a channel (R136). -/
inductive FaultReason | keyUpFailed | transmitterDropped
deriving DecidableEq, Repr

/-- Line case of a keyer (R19). -/
inductive LineCase | unknown | letters | figures
deriving DecidableEq, Repr

/-- Why a message is parked (R123). -/
inductive ParkReason | relay | bulletin | budget
deriving DecidableEq, Repr

/-- Purposes of a suspension marker (section 7.1); PARK keeps the reason its PARKED notice gives (R132). -/
inductive Purpose | park (reason : ParkReason) | hold | cancel | close | bulletinCut
deriving DecidableEq, Repr

/-- Causes of a SUSPENDED notice (R132). -/
inductive SuspendCause | hold | close | reset
deriving DecidableEq, Repr

/-- States of the call parser (section 9.2). -/
inductive ParserState | hunt | phasing | ident | body | skip
deriving DecidableEq, Repr

/-- States of a hold record (section 9.6). -/
inductive HoldState | pending | running
deriving DecidableEq, Repr

/-- The two forms of a call delivered to the Message Table (R158). -/
inductive CallForm | ack | repeat
deriving DecidableEq, Repr

/-- States of the frame receiver (section 10.2). -/
inductive RxPhase | hunt | length | kind | body | check
deriving DecidableEq, Repr

/-- Notice categories (section 10.5). -/
inductive Category | load | message | bulletin | channel | receive | clock | link
deriving DecidableEq, Repr

/-- Notice events (section 10.5). -/
inductive Event
  | started | noticesLost | day | clockStopped | credit | load
  | done | sent | unconfirmed | acked | ackedLate | repeated | repeatRefused | expired | cancelled
  | parked | suspended | resumed | outcome | overrunWrap
  | keyed | unkeyed | fault | closed | counterWrap
  | capture | unmatched | hold | holdLost | holdEnded
deriving DecidableEq, Repr

/-! ### Records of the office link -/

/-- One field of a record body (section 10.1): a number in `width` bytes, or an optional field. -/
inductive Field
  | num (width n : Nat)
  | opt (width : Nat) (n : Option Nat)
deriving DecidableEq, Repr

/-- A notice record (section 10.5): its category follows from its event. -/
structure Notice where
  event : Event
  channel : Option ChannelNo
  stamp : Nat
  fields : List Field
deriving DecidableEq, Repr

/-- The answer to one command (R174). -/
inductive Reply
  | accept (fields : List Field)
  | refuse (reason : Reason)
deriving DecidableEq, Repr

/-- A record of the transmitter's output (R175): a reply with the kind of its command, or a notice. -/
inductive Record
  | reply (kind : Byte) (r : Reply)
  | notice (n : Notice)
deriving DecidableEq, Repr

/-- A received frame waiting in the command input buffer (R173). -/
structure Frame where
  kind : Byte
  body : Body
deriving DecidableEq, Repr

/-- The frame receiver (R171): its state, the length, kind and body bytes recorded so far in line order, the check
bytes recorded so far, and the elapsed time of the last byte taken (R172). -/
structure Receiver where
  phase : RxPhase
  bytes : List Byte
  check : List Byte
  lastAt : Nat
deriving DecidableEq, Repr

/-- The Office Link (chapter 10). -/
structure Link where
  rx : Receiver
  /-- the command input buffer, oldest first (R173) -/
  buffer : List Frame
  /-- the transmitter's output list; its notices are the notice queue (R175, R178) -/
  output : List Record
  /-- the record whose frame is on the line; none when the transmitter is free (R175) -/
  sending : Option Record
  /-- RESTART has been taken and its ACCEPT not yet sent to its last byte (R181) -/
  restarting : Bool
  /-- category mask, bit n for category code n (R177) -/
  categories : BitVec 8
  /-- channel mask, bit n for channel n (R177) -/
  channels : BitVec 8
  pendingLoss : Nat
  badCrc : Nat
  overlength : Nat
  gapTimeouts : Nat
  bufferFull : Nat
  noticesLost : Nat
deriving DecidableEq, Repr

/-! ### Records of the other blocks -/

/-- The Station Clock (chapter 1). -/
structure Clock where
  day : Nat
  ms : Nat
  isSet : Bool
  running : Bool
  elapsed : Nat
deriving DecidableEq, Repr

/-- One bulletin area record (section 3.2). -/
structure Area where
  state : AreaState
  first : Nat
  last : Nat
  capacity : Nat
  length : Nat
  onAir : Nat
deriving DecidableEq, Repr

/-- The cells of the text store: address `block * 64 + cell`, in the canonical form of Machine/Memory.lean. -/
abbrev Memory := List Host.Cell

/-- The Text Store (chapter 3); each channel's reserve and cap stand in its `Channel`. -/
structure Store where
  split : Nat
  free : List BlockNo
  areas : Vector Area 32
  cells : Memory
deriving DecidableEq, Repr

/-- The target of an open load (section 4.1). -/
inductive LoadTarget
  | telex (handle : Handle) (channel : ChannelNo)
  | bulletin (area : AreaNo)
deriving DecidableEq, Repr

/-- The load record while it is filled (section 4.1). -/
structure OpenLoad where
  target : LoadTarget
  clamped : Nat
  received : Nat
  outstanding : Nat
  stored : Nat
  stripped : Nat
  substituted : Nat
  truncated : Bool
  waiting : Bool
deriving DecidableEq, Repr

/-- The Load Unit (chapter 4). -/
structure LoadUnit where
  current : Option OpenLoad
  grain : Nat
deriving DecidableEq, Repr

/-- One message descriptor (section 5.1). -/
structure Descriptor where
  state : MsgState
  channel : ChannelNo
  number : Nat
  dest : Nat
  cls : MsgClass
  length : Nat
  resume : Nat
  chain : List BlockNo
  confirm : Bool
  expiry : Option Nat
  repeats : Nat
  truncated : Bool
  stripped : Nat
  substituted : Nat
  segments : Nat
  firstKeyed : Option Nat
  doneTime : Option Nat
  ackDue : Option Nat
  cancelRequested : Bool
deriving DecidableEq, Repr

/-- One slot entry (section 6.1). The fields of an EMPTY entry have no meaning. -/
structure Slot where
  state : SlotState
  channels : BitVec 8
  anchor : Nat
  period : Nat
  area : AreaNo
  window : Nat
  nextDue : Option Nat
deriving DecidableEq, Repr

/-- One bulletin request (section 6.3). -/
structure Request where
  slot : SlotNo
  area : AreaNo
  due : Nat
  deadline : Nat
  state : ReqState
  restarts : Nat
  firstStart : Option Nat
deriving DecidableEq, Repr

/-- What a suspension marker closes (section 7.1). -/
inductive Closes
  | message (handle : Handle)
  | request (slot : SlotNo) (due : Nat) (area : AreaNo)
deriving DecidableEq, Repr

/-- The item in progress on a channel (section 7.1). `keyed` counts the fixed symbols of a header or a marker that have
completed, shifts not counted. -/
inductive Item
  | noItem
  | idle
  | header (handle : Handle) (cost keyed endPos : Nat) (cut : Option Nat)
  | segment (handle : Handle) (start endPos : Nat) (cut : Option Nat)
  | marker (closes : Closes) (purpose : Purpose) (keyed : Nat)
  | relay (handle : Handle)
  | bulletin (slot : SlotNo) (due : Nat) (area : AreaNo) (pos : Nat) (cut : Option Nat)
deriving DecidableEq, Repr

/-- The record of the last fit test (R118): S_n absent when the budget is unlimited, the planned end absent when the
candidate did not fit. -/
structure FitRecord where
  time : Nat
  nextDue : Option Nat
  margin : Option Int
  budget : Option Int
  handle : Handle
  planned : Option Nat
deriving DecidableEq, Repr

/-- The ten channel settings (section 8.2). -/
structure Settings where
  period : Nat
  guard : Nat
  keyUpLimit : Nat
  hangTime : Nat
  quantum : Nat
  minSegment : Nat
  urgentRun : Nat
  ackTimeout : Nat
  phasingRun : Nat
  copies : Nat
deriving DecidableEq, Repr

/-- The channel statistics (R147), the overrun count of R100 among them. -/
structure Stats where
  lineSymbols : Nat
  shifts : Nat
  idles : Nat
  segments : Nat
  markers : Nat
  done255 : Nat
  done1023 : Nat
  done4095 : Nat
  done8192 : Nat
  onTime : Nat
  late : Nat
  restarted : Nat
  missed : Nat
  interrupted : Nat
  noText : Nat
  overrun : Nat
deriving DecidableEq, Repr

/-- The call parser (section 9.2); `ident` is the identity of the call whose body is being read. -/
structure Parser where
  state : ParserState
  run : Nat
  digits : List Nat
  ident : Nat
  body : List Nat
  damaged : Bool
deriving DecidableEq, Repr

/-- One hold record (section 9.6): `count` has its meaning while PENDING, `endsAt` while RUNNING. -/
structure Hold where
  ship : Nat
  state : HoldState
  count : Nat
  endsAt : Nat
deriving DecidableEq, Repr

/-- One capture record (section 9.5): pattern n, or none for kind CALL. -/
structure Capture where
  pattern : Option WatchNo
  ident : Nat
  arrival : Nat
  bodyLength : Nat
  symbols : List Nat
  damaged : Bool
deriving DecidableEq, Repr

/-- The receive counters of a channel (R168). -/
structure RxCounts where
  symbols : Nat
  mutilated : Nat
  accepted : Nat
  rejected : Nat
  holdsTaken : Nat
  holdsLost : Nat
  acksMatched : Nat
  repeatsMatched : Nat
  unmatched : Nat
  latched : Nat
  capturesLost : Nat
deriving DecidableEq, Repr

/-- The fields of a SET pattern watch (section 9.4). -/
structure Pattern where
  channels : BitVec 8
  values : List (Nat × Bool)
  minLength : Nat
deriving DecidableEq, Repr

/-- All that belongs to one channel: its port, Keyer, Interleaver and Receive Watch, its lists in the Message Table, its
pending list in the Schedule and its allowance in the Text Store. -/
structure Channel where
  state : ChanState
  /-- the transmitter-ready input (R134), a level that the outside sets -/
  ready : Bool
  settings : Settings
  lineCase : LineCase
  /-- elapsed time at which the key request last rose (R138) -/
  keyRise : Nat
  /-- elapsed time at which the line symbol being keyed completes: the symbol clock (R139) -/
  symbolEnd : Nat
  /-- elapsed time at which the present idle run began (R140) -/
  idleSince : Option Nat
  faultReason : Option FaultReason
  stats : Stats
  relayQ : List Handle
  urgentQ : List Handle
  ordinaryQ : List Handle
  active : Option Handle
  sent : List Handle
  reserve : Nat
  cap : Nat
  requests : List Request
  item : Item
  /-- the urgent-run counter k (R104) -/
  urgentRun : Nat
  lastFit : Option FitRecord
  parser : Parser
  holds : List Hold
  latch : Option Capture
  rx : RxCounts
deriving DecidableEq, Repr

end Sys2Proof.Machine

namespace Sys2Proof.Machine

structure State where
  clock : Clock
  store : Store
  loadUnit : LoadUnit
  descs : Vector Descriptor 256
  slots : Vector Slot 64
  channels : Vector Channel 8
  watches : Vector (Option Pattern) 4
  link : Link
  /-- THE MODEL'S OWN: notices formed in the present step and not yet offered to the Office Link; empty between steps -/
  outbox : List Notice
  /-- THE MODEL'S OWN: how many free orders have been drawn (Config.orderRank) -/
  choices : Nat
  /-- THE MODEL'S OWN: the commands that wait to be stepped, first in, first out -/
  pending : List Instr
deriving DecidableEq, Repr

/-! ### Reset values -/

/-- R1, R8, R180. -/
def Clock.reset : Clock := ⟨0, 0, false, true, 0⟩

/-- R29: an UNDEFINED area. -/
def Area.reset : Area := ⟨.undefined, 0, 0, 0, 0, 0⟩

/-- The blocks Nb to 1,023 in ascending order (R28, R35). -/
def poolBlocks (split : Nat) : List BlockNo := (List.finRange 1024).drop split

/-- R26, R29, R35: split 256, every pool block free; no cell written. -/
def Store.reset : Store := ⟨Config.resetSplit, poolBlocks Config.resetSplit, Vector.replicate 32 Area.reset, []⟩

/-- R44: no load open, grain 128. -/
def LoadUnit.reset : LoadUnit := ⟨none, 128⟩

/-- R61: a FREE descriptor. Its other fields have no meaning, and stand at zero (DESIGN CHOICE,
notes/assumptions/5.md). -/
def Descriptor.reset : Descriptor :=
  ⟨.free, 0, 0, 0, .relay, 0, 0, [], false, none, 0, false, 0, 0, 0, none, none, none, false⟩

/-- R83: an EMPTY slot entry. Its fields have no meaning, and stand at zero (DESIGN CHOICE, notes/assumptions/5.md). -/
def Slot.reset : Slot := ⟨.empty, 0, 0, 0, 0, 0, none⟩

/-- The default settings (section 8.2, R135). -/
def Settings.reset : Settings := ⟨150, 2000, 1000, 10000, 128, 16, 3, 300, 6, 3⟩

/-- R147. -/
def Stats.reset : Stats := ⟨0, 0, 0, 0, 0, 0, 0, 0, 0, 0, 0, 0, 0, 0, 0, 0⟩

/-- R151: the parser in HUNT, holding no call. -/
def Parser.reset : Parser := ⟨.hunt, 0, [], 0, [], false⟩

/-- R168. -/
def RxCounts.reset : RxCounts := ⟨0, 0, 0, 0, 0, 0, 0, 0, 0, 0, 0⟩

/-- A channel after power-on reset (R134, R135, R19, R64 to R66, R39, R91, R104, R151), its ready input at a level
(DESIGN CHOICE, notes/assumptions/24.md). -/
def Channel.reset (ready : Bool) : Channel where
  state := .offline
  ready := ready
  settings := Settings.reset
  lineCase := .unknown
  keyRise := 0
  symbolEnd := 0
  idleSince := none
  faultReason := none
  stats := Stats.reset
  relayQ := []
  urgentQ := []
  ordinaryQ := []
  active := none
  sent := []
  reserve := 0
  cap := 768
  requests := []
  item := .noItem
  urgentRun := 0
  lastFit := none
  parser := Parser.reset
  holds := []
  latch := none
  rx := RxCounts.reset

/-- The frame receiver looking for a start byte. -/
def Receiver.reset : Receiver := ⟨.hunt, [], [], 0⟩

/-- The STARTED notice (R180, R181): its reason (0 POWER-ON, 1 RESTART), the part code and the revision. -/
def startedNotice (reason stamp : Nat) : Notice :=
  ⟨.started, none, stamp, [.num 1 reason, .num 2 Config.partCode, .num 1 Config.revision]⟩

/-- The Office Link after a reset (R180) that has formed its STARTED notice: the transmitter was free and the output
list empty, so the notice is the record on the line (R175; DEDUCED, notes/assumptions/6.md). -/
def Link.reset (reason stamp : Nat) : Link where
  rx := Receiver.reset
  buffer := []
  output := []
  sending := some (.notice (startedNotice reason stamp))
  restarting := false
  categories := 0x7F
  channels := 0xFF
  pendingLoss := 0
  badCrc := 0
  overlength := 0
  gapTimeouts := 0
  bufferFull := 0
  noticesLost := 0

/-- The part right after power-on reset (R180), its eight ready inputs absent, no command waiting. -/
def State.reset : State where
  clock := Clock.reset
  store := Store.reset
  loadUnit := LoadUnit.reset
  descs := Vector.replicate 256 Descriptor.reset
  slots := Vector.replicate 64 Slot.reset
  channels := Vector.replicate 8 (Channel.reset false)
  watches := Vector.replicate 4 none
  link := Link.reset 0 0
  outbox := []
  choices := 0
  pending := []

end Sys2Proof.Machine
end

