-- ==== Sys2Proof/Machine/Flags.lean ====
section
/-! DEFINITION. The symbol classes, word boundaries and line case of chapter 2, the fixed line sequences, and the
saturating and wrapping counts. -/

namespace Sys2Proof.Machine

/-! ### Symbol codes (section 2.1) -/

def symIdle : Nat := 0
def symSpace : Nat := 1
def symCR : Nat := 2
def symLF : Nat := 3
def symLtrs : Nat := 4
def symFigs : Nat := 5
def symPhasing : Nat := 6
/-- The substitute (section 2.1). -/
def symQuery : Nat := 46
/-- The figures digit d (codes 33 to 42). -/
def symDigit (d : Nat) : Nat := 33 + d
/-- Letter number n of the alphabet, A being 0 (codes 7 to 32). -/
def symLetter (n : Nat) : Nat := 7 + n

/-- The case a case-bound symbol belongs to; none for neutral and line control symbols (R11). -/
def caseOf (y : Nat) : Option LineCase :=
  if 7 ≤ y ∧ y ≤ 32 then some .letters else if 33 ≤ y ∧ y ≤ 63 then some .figures else none

/-- SPACE, CR and LF end a word (R14). -/
def endsWord (y : Nat) : Bool := y == symSpace || y == symCR || y == symLF

/-- The shift keyed before a symbol in a line case: LTRS, FIGS or none (R20). -/
def shiftFor (c : LineCase) (y : Nat) : Option Nat :=
  match caseOf y with
  | some .letters => if c = .letters then none else some symLtrs
  | some .figures => if c = .figures then none else some symFigs
  | _ => none

/-- The line case after a shift completes (R19). -/
def caseAfterShift (c : LineCase) (sh : Nat) : LineCase :=
  if sh = symLtrs then .letters else if sh = symFigs then .figures else c

/-- The running case after a symbol (R21 steps 1 to 3). -/
def caseAfter (c : LineCase) (y : Nat) : LineCase := (caseOf y).getD c

/-- The shift count of a stretch of text from a starting case (R21). -/
def shiftCount (c : LineCase) : List Nat → Nat
  | [] => 0
  | y :: ys => (if (shiftFor c y).isSome then 1 else 0) + shiftCount (caseAfter c y) ys

/-- The ending case of a stretch of text (R21). -/
def endingCase (c : LineCase) : List Nat → LineCase
  | [] => c
  | y :: ys => endingCase (caseAfter c y) ys

/-! ### Fixed line sequences (section 2.5) -/

/-- The suspension marker (R23). -/
def markerSymbols : List Nat := [symCR, symLF, symLF]

/-- The five figures digits of a number, with leading zeros (R24). -/
def fiveDigits (n : Nat) : List Nat :=
  [n / 10000 % 10, n / 1000 % 10, n / 100 % 10, n / 10 % 10, n % 10].map symDigit

/-- The symbols of the resume header of message number n, without its shifts (R24): CR, LF, C, T, D, SPACE, the number,
CR, LF. -/
def headerSymbols (n : Nat) : List Nat :=
  [symCR, symLF, symLetter 2, symLetter 19, symLetter 3, symSpace] ++ fiveDigits n ++ [symCR, symLF]

/-- The cost of a resume header in line symbols, by the line case before it (R24). -/
def headerCost (c : LineCase) : Nat := if c = .letters then 14 else 15

/-! ### Cleaning (section 2.3) -/

/-- What is stored for a received byte: itself, nothing, or the query (R16). -/
def cleaned (b : Nat) : Option Nat :=
  if b ≤ 3 ∨ (7 ≤ b ∧ b ≤ 63) then some b else if b ≤ 6 then none else some symQuery

/-- LTRS, FIGS and PHASING are stripped (R16). -/
def isStripped (b : Nat) : Bool := decide (4 ≤ b ∧ b ≤ 6)

/-- Codes of 64 and above are substituted (R16). -/
def isSubstituted (b : Nat) : Bool := decide (64 ≤ b)

/-! ### Counts -/

/-- One more, saturating at `top` (section "Numbers" of the introduction). -/
def satSucc (top n : Nat) : Nat := if n < top then n + 1 else top

/-- 255, the largest value of a one-byte count. -/
def max8 : Nat := 255
/-- 65,535. -/
def max16 : Nat := 65535
/-- 4,294,967,295. -/
def max32 : Nat := 4294967295

/-- ceil(x / y) (section "Numbers"). -/
def ceilDiv (x y : Nat) : Nat := (x + y - 1) / y

end Sys2Proof.Machine
end

