-- ==== Sys2Proof/Machine/Memory.lean ====
section
/-! DEFINITION. The cells of the text store as an addressed memory (section 3.1): block b, cell i has the address
b * 64 + i, from 0 to 65,535. A list of (address, code) pairs, addresses strictly rising, no entry equal to what an
unlisted address reads as. -/

namespace Sys2Proof.Machine

/-- What a cell nothing has written reads as: code 0. No rule reads such a cell (R32, R36 read below the stored
length alone). DESIGN CHOICE, notes/assumptions/2.md. -/
def Memory.unwritten : Byte := 0

/-- The code in a cell. -/
def Memory.read : Memory → Nat → Byte
  | [], _ => Memory.unwritten
  | (b, v) :: m, a => if a = b then v else Memory.read m a

/-- A pair put in front, unless an unlisted address reads so anyway. -/
def Memory.cons (a : Nat) (v : Byte) (m : Memory) : Memory := if v = Memory.unwritten then m else (a, v) :: m

/-- Writes one cell, keeping the canonical form. -/
def Memory.write : Memory → Nat → Byte → Memory
  | [], a, v => Memory.cons a v []
  | (b, w) :: m, a, v =>
    if a < b then Memory.cons a v ((b, w) :: m)
    else if a = b then Memory.cons a v m
    else (b, w) :: Memory.write m a v

/-- The canonical form: addresses strictly rising, no entry that reads as an unlisted address does. -/
def Memory.wf : Memory → Bool
  | [] => true
  | [(_, v)] => decide (v ≠ Memory.unwritten)
  | (a, v) :: (b, w) :: m => decide (v ≠ Memory.unwritten) && decide (a < b) && Memory.wf ((b, w) :: m)

/-- The address of cell `i mod 64` of the block that holds index `i` of a text whose block is `b` (R32, R36). -/
def cellAddress (b i : Nat) : Nat := b * Config.blockCells + i % Config.blockCells

end Sys2Proof.Machine
end

