-- ==== Sys2Proof/WellFormed.lean ====
section
/-! DEFINITION. Which commands and events can occur at all: what the frame layout, the line alphabet and the number
ranges of the manual admit as operands. -/

namespace Sys2Proof

/-- One of the 43 command kinds 01H to 2BH (R174). -/
def isCommandKind (k : Byte) : Bool := decide (1 ≤ k.toNat ∧ k.toNat ≤ 0x2B)

/-- A frame's body holds 0 to 512 bytes (section 10.1; R171 discards a longer frame). -/
def bodyFits (body : Body) : Bool := decide (body.length ≤ Config.maxBody)

/-- The ship identities that can call: 1 to 99,999 (R154). -/
def isShip (n : Nat) : Bool := decide (1 ≤ n ∧ n ≤ 99999)

/-- The line alphabet has the 64 codes 0 to 63 (section 2.1). -/
def isSymbolCode (n : Nat) : Bool := decide (n < 64)

/-- The well-formed commands and events. -/
def Instr.wellFormed : Instr → Bool
  | .powerOnReset | .officeLinkByte _ | .gapTimeout | .frameTransmitEnd => true
  | .ping b | .restart b | .readLink b | .setNotices b | .setClock b | .readClock b | .setSplit b | .defineArea b
  | .clearArea b | .setAllowance b | .readStore b | .setLoadGrain b | .declareMessage b | .openBulletin b | .text b
  | .abandonLoad b | .readMessage b | .listQueue b | .cancel b | .discard b | .requeue b | .setSlot b | .enableSlot b
  | .disableSlot b | .clearSlot b | .readSlot b | .readPending b | .readInterleaver b | .openChannel b | .setChannel b
  | .readChannel b | .restore b | .closeChannel b | .resetChannel b | .readStats b | .clearStats b | .setWatch b
  | .clearWatch b | .readWatch b | .releaseCapture b | .readCapture b | .clearHold b | .readReceive b => bodyFits b
  | .midnightRollover | .clockStopped | .slotOccurrence _ => true
  | .requestDeadlineUnkeyed _ _ due => decide (due ≤ Config.lastStationTime)
  | .messageExpiry _ | .ackTimerRunsOut _ => true
  | .holdExpiry _ ship => isShip ship
  | .keyUpLimit _ | .slotKeyUpThreshold _ | .transmitterReadyArrives _ | .transmitterReadyDrops _
  | .lineSymbolCompletes _ => true
  | .receivedSymbol _ code _ => isSymbolCode code
  | .badForm k b => !isCommandKind k && bodyFits b

end Sys2Proof
end

