-- ==== Sys2Proof/Machine/Operands.lean ====
section
/-! DEFINITION. The encodings of section 10.1: the fields of command bodies, reply bodies and notices, the positions and
codes of enumerated values, and the frame with its check (R170). -/

namespace Sys2Proof.Machine

/-! ### Numbers in bodies -/

/-- A number sent most significant byte first. -/
def be (bs : List Byte) : Nat := bs.foldl (fun acc b => acc * 256 + b.toNat) 0

/-- A number in `width` bytes, most significant byte first. -/
def toBe : Nat → Nat → List Byte
  | 0, _ => []
  | w + 1, n => toBe w (n / 256) ++ [BitVec.ofNat 8 n]

/-- The bytes of one field. -/
def Field.bytes : Field → List Byte
  | .num w n => toBe w n
  | .opt w (some n) => 1 :: toBe w n
  | .opt w none => 0 :: toBe w 0

/-- The bytes of a sequence of fields. -/
def fieldBytes (fs : List Field) : List Byte := fs.flatMap Field.bytes

/-- A difference that may be negative, in six bytes, two's complement. DESIGN CHOICE, notes/assumptions/12.md. -/
def signed48 (i : Int) : Nat := (i % 281474976710656).toNat

/-! ### Named fields: counts of at most 255 in one byte, durations in six, where the manual names no width (DEDUCED,
notes/assumptions/9.md) -/

def Field.flag (b : Bool) : Field := .num 1 b.toNat
def Field.channel (c : ChannelNo) : Field := .num 1 c.val
def Field.handle (h : Handle) : Field := .num 1 h.val
def Field.optHandle (h : Option Handle) : Field := .opt 1 (h.map Fin.val)
def Field.ship (n : Nat) : Field := .num 3 n
def Field.time (t : Nat) : Field := .num 6 t
def Field.optTime (t : Option Nat) : Field := .opt 6 t

/-- A field of a reply variant that carries it (R174). -/
def Field.has (width n : Nat) : Field := .opt width (some n)

/-- An optional list: a presence byte, then the number of entries and the entries; no entries when absent. DEDUCED,
notes/assumptions/11.md. -/
def optList (xs : Option (List (List Field))) : List Field :=
  match xs with
  | some ys => .num 1 1 :: .num 2 ys.length :: ys.flatten
  | none => [.num 1 0, .num 2 0]

/-- A list: the number of entries, then each entry. -/
def listField (xs : List (List Field)) : List Field := .num 2 xs.length :: xs.flatten

/-! ### Enumerated values: positions in the list that defines them, or explicit codes (where the list is prose, DEDUCED,
notes/assumptions/10.md) -/

/-- Refusal reasons (section 10.3). -/
def Reason.code : Reason → Nat
  | .badForm => 0x01 | .range => 0x02 | .state => 0x03 | .busy => 0x04 | .overlap => 0x05 | .duplicate => 0x06
  | .notFound => 0x07 | .tableFull => 0x08 | .loadOpen => 0x09 | .noLoad => 0x0A | .overCredit => 0x0B
  | .clockUnset => 0x0C

def AreaState.code : AreaState → Nat
  | .undefined => 0 | .empty => 1 | .loading => 2 | .ready => 3

def MsgState.code : MsgState → Nat
  | .free => 0 | .loading => 1 | .ready => 2 | .active => 3 | .parked => 4 | .suspended => 5 | .awaitAck => 6
  | .unconfirmed => 7

def MsgClass.code : MsgClass → Nat
  | .relay => 0 | .urgent => 1 | .ordinary => 2

def SlotState.code : SlotState → Nat
  | .empty => 0 | .disabled => 1 | .enabled => 2

def ReqState.code : ReqState → Nat
  | .waiting => 0 | .onAir => 1

def BulletinOutcome.code : BulletinOutcome → Nat
  | .onTime => 0 | .late => 1 | .restarted => 2 | .missed => 3 | .interrupted => 4 | .noText => 5

def ChanState.code : ChanState → Nat
  | .offline => 0 | .standby => 1 | .keyUp => 2 | .onAir => 3 | .closing => 4 | .faulted => 5

def FaultReason.code : FaultReason → Nat
  | .keyUpFailed => 0 | .transmitterDropped => 1

def LineCase.code : LineCase → Nat
  | .unknown => 0 | .letters => 1 | .figures => 2

def ParkReason.code : ParkReason → Nat
  | .relay => 0 | .bulletin => 1 | .budget => 2

def Purpose.code : Purpose → Nat
  | .park _ => 0 | .hold => 1 | .cancel => 2 | .close => 3 | .bulletinCut => 4

def SuspendCause.code : SuspendCause → Nat
  | .hold => 0 | .close => 1 | .reset => 2

def ParserState.code : ParserState → Nat
  | .hunt => 0 | .phasing => 1 | .ident => 2 | .body => 3 | .skip => 4

def HoldState.code : HoldState → Nat
  | .pending => 0 | .running => 1

/-- ACK 0, REPEAT 1, the order in which R158 names the forms of an UNMATCHED notice; the table of section 9.3, which has
HOLD too, would give 1 and 2 (DEDUCED, notes/assumptions/10.md). -/
def CallForm.code : CallForm → Nat
  | .ack => 0 | .repeat => 1

def RxPhase.code : RxPhase → Nat
  | .hunt => 0 | .length => 1 | .kind => 2 | .body => 3 | .check => 4

/-- The item kinds in the order of R133. -/
def Item.code : Item → Nat
  | .noItem => 0 | .idle => 1 | .header .. => 2 | .segment .. => 3 | .marker .. => 4 | .relay _ => 5 | .bulletin .. => 6

/-- Notice categories (section 10.5). -/
def Category.code : Category → Nat
  | .load => 0 | .message => 1 | .bulletin => 2 | .channel => 3 | .receive => 4 | .clock => 5 | .link => 6

/-- Notice events (section 10.5). -/
def Event.code : Event → Nat
  | .started => 0x01 | .noticesLost => 0x02 | .day => 0x10 | .clockStopped => 0x11 | .credit => 0x20 | .load => 0x21
  | .done => 0x30 | .sent => 0x31 | .unconfirmed => 0x32 | .acked => 0x33 | .ackedLate => 0x34 | .repeated => 0x35
  | .repeatRefused => 0x36 | .expired => 0x37 | .cancelled => 0x38 | .parked => 0x39 | .suspended => 0x3A
  | .resumed => 0x3B | .outcome => 0x40 | .overrunWrap => 0x41 | .keyed => 0x50 | .unkeyed => 0x51 | .fault => 0x52
  | .closed => 0x53 | .counterWrap => 0x54 | .capture => 0x60 | .unmatched => 0x61 | .hold => 0x62 | .holdLost => 0x63
  | .holdEnded => 0x64

/-- The category of each event (section 10.5). -/
def Event.category : Event → Category
  | .started | .noticesLost => .link
  | .day | .clockStopped => .clock
  | .credit | .load => .load
  | .done | .sent | .unconfirmed | .acked | .ackedLate | .repeated | .repeatRefused | .expired | .cancelled | .parked
  | .suspended | .resumed => .message
  | .outcome | .overrunWrap => .bulletin
  | .keyed | .unkeyed | .fault | .closed | .counterWrap => .channel
  | .capture | .unmatched | .hold | .holdLost | .holdEnded => .receive

/-! ### Frames -/

/-- One bit through the check register (R170): shift toward the top, combine with 1021H when the bit shifted out
differs from the data bit. -/
def crcBit (reg : BitVec 16) (d : Bool) : BitVec 16 :=
  if reg.getLsbD 15 = d then reg <<< 1 else (reg <<< 1) ^^^ 0x1021

/-- One byte, most significant bit first (R170). -/
def crcByte (reg : BitVec 16) (b : Byte) : BitVec 16 :=
  ([7, 6, 5, 4, 3, 2, 1, 0].map b.getLsbD).foldl crcBit reg

/-- The check over body length, kind and body (R170). -/
def crc (bs : List Byte) : BitVec 16 := bs.foldl crcByte 0xFFFF

/-- Body length, kind and body in line order: what the check covers. -/
def frameCore (kind : Byte) (body : Body) : List Byte := toBe 2 body.length ++ kind :: body

/-- A whole frame on the line: start byte, length, kind, body, check (section 10.1). -/
def frameBytes (kind : Byte) (body : Body) : List Byte :=
  0xA5 :: frameCore kind body ++ toBe 2 (crc (frameCore kind body)).toNat

/-- Frame kind of an ACCEPT. -/
def kindAccept : Byte := 0x80
/-- Frame kind of a REFUSE. -/
def kindRefuse : Byte := 0x81
/-- Frame kind of a notice. -/
def kindNotice : Byte := 0xC0

/-- The body of a notice frame (section 10.5). -/
def Notice.body (n : Notice) : Body :=
  fieldBytes ([.num 1 n.event.category.code, .num 1 (n.channel.elim 0xFF Fin.val), .num 1 n.event.code,
    .num 4 n.stamp] ++ n.fields)

/-- The kind and body of a record's frame (R174, section 10.5). -/
def Record.frame : Record → Frame
  | .reply k (.accept fs) => ⟨kindAccept, k :: fieldBytes fs⟩
  | .reply k (.refuse r) => ⟨kindRefuse, [k, BitVec.ofNat 8 r.code]⟩
  | .notice n => ⟨kindNotice, n.body⟩

/-- The bytes a record puts on the line. -/
def Record.lineBytes (r : Record) : List Byte := frameBytes r.frame.kind r.frame.body

/-! ### Fields of command bodies -/

/-- A yes/no flag or a presence byte; any other value is refused RANGE (R174 step 3). -/
def flagOf (b : Byte) : Option Bool := if b = 0 then some false else if b = 1 then some true else none

/-- A channel number; above 7 none. -/
def channelOf (b : Byte) : Option ChannelNo := if h : b.toNat < 8 then some ⟨b.toNat, h⟩ else none

/-- A slot number; above 63 none. -/
def slotOf (b : Byte) : Option SlotNo := if h : b.toNat < 64 then some ⟨b.toNat, h⟩ else none

/-- An area number; above 31 none. -/
def areaOf (b : Byte) : Option AreaNo := if h : b.toNat < 32 then some ⟨b.toNat, h⟩ else none

/-- A watch number; above 3 none. -/
def watchOf (b : Byte) : Option WatchNo := if h : b.toNat < 4 then some ⟨b.toNat, h⟩ else none

/-- Every byte is a handle. -/
def handleOf (b : Byte) : Handle := ⟨b.toNat, b.isLt⟩

/-- A class; a value beyond the list none. -/
def classOf (b : Byte) : Option MsgClass :=
  if b = 0 then some .relay else if b = 1 then some .urgent else if b = 2 then some .ordinary else none

end Sys2Proof.Machine
end

