-- ==== Sys2Proof/Machine/Ops.lean ====
section
/-! DEFINITION. The named operations over the state that the blocks share: access, time, notices, the text store and its
pool (chapter 3), credit (section 4.4), and the moves of messages between their places (chapter 5). -/

namespace Sys2Proof.Machine

/-! ### Access -/

def vget {α : Type} {n : Nat} (v : Vector α n) (i : Fin n) : α := v[i.val]'i.isLt
def vput {α : Type} {n : Nat} (v : Vector α n) (i : Fin n) (x : α) : Vector α n := v.set i.val x i.isLt

def State.chan (s : State) (c : ChannelNo) : Channel := vget s.channels c
def State.setChan (s : State) (c : ChannelNo) (x : Channel) : State := { s with channels := vput s.channels c x }
def State.modChan (s : State) (c : ChannelNo) (f : Channel → Channel) : State := s.setChan c (f (s.chan c))

def State.desc (s : State) (h : Handle) : Descriptor := vget s.descs h
def State.setDesc (s : State) (h : Handle) (d : Descriptor) : State := { s with descs := vput s.descs h d }
def State.modDesc (s : State) (h : Handle) (f : Descriptor → Descriptor) : State := s.setDesc h (f (s.desc h))

def State.slot (s : State) (i : SlotNo) : Slot := vget s.slots i
def State.setSlot (s : State) (i : SlotNo) (e : Slot) : State := { s with slots := vput s.slots i e }

def State.area (s : State) (a : AreaNo) : Area := vget s.store.areas a
def State.setArea (s : State) (a : AreaNo) (x : Area) : State :=
  { s with store := { s.store with areas := vput s.store.areas a x } }

def State.watch (s : State) (w : WatchNo) : Option Pattern := vget s.watches w
def State.setWatch (s : State) (w : WatchNo) (p : Option Pattern) : State := { s with watches := vput s.watches w p }

def State.modStats (s : State) (c : ChannelNo) (f : Stats → Stats) : State :=
  s.modChan c fun ch => { ch with stats := f ch.stats }

def State.modRx (s : State) (c : ChannelNo) (f : RxCounts → RxCounts) : State :=
  s.modChan c fun ch => { ch with rx := f ch.rx }

/-- All channels in ascending order. -/
def allChannels : List ChannelNo := List.finRange 8

/-- A channel set, one bit for each channel (section 10.1). -/
def inSet (set : BitVec 8) (c : ChannelNo) : Bool := set.getLsbD c.val

/-- The channels of a set in ascending order. -/
def channelsOf (set : BitVec 8) : List ChannelNo := allChannels.filter (inSet set)

/-! ### Time (chapter 1) -/

/-- The absolute station time (section 1.1). -/
def State.now (s : State) : Nat := s.clock.day * Config.dayMs + s.clock.ms

/-- The projected station time of a boundary `d` of elapsed time away (R9). -/
def State.project (s : State) (d : Nat) : Nat :=
  if s.clock.running then min (s.now + d) Config.lastStationTime else s.now

/-! ### Notices (R176) -/

/-- Forms a notice, stamped with the present ms of day. It is offered to the Office Link when the step ends. -/
def State.emit (s : State) (e : Event) (ch : Option ChannelNo) (fields : List Field) : State :=
  { s with outbox := s.outbox ++ [⟨e, ch, s.clock.ms, fields⟩] }

/-! ### Orders the manual leaves free -/

/-- Inserts by key, in front of the entries of no smaller key. -/
def insertBy {α : Type} (key : α → Nat) (x : α) : List α → List α
  | [] => [x]
  | y :: ys => if key x ≤ key y then x :: y :: ys else y :: insertBy key x ys

/-- The list in the order of a key. -/
def sortBy {α : Type} (key : α → Nat) : List α → List α
  | [] => []
  | x :: xs => insertBy key x (sortBy key xs)

/-- Some order of the numbers of `xs`, of which nothing is known (Config.orderRank). -/
def freeOrder {n : Nat} (draw : Nat) (xs : List (Fin n)) : List (Fin n) :=
  sortBy (fun x => Config.orderRank draw x.val) xs

/-- Counts one drawing of a free order. -/
def State.drawn (s : State) : State := { s with choices := s.choices + 1 }

/-! ### The text store -/

/-- The pool size 1,024 - Nb (R26). -/
def State.poolSize (s : State) : Nat := Config.blocks - s.store.split

/-- F, the length of the free list (R35). -/
def State.freeCount (s : State) : Nat := s.store.free.length

/-- U_c, the blocks in the chains of the channel's descriptors (R37). -/
def State.use (s : State) (c : ChannelNo) : Nat :=
  (s.descs.toList.map fun d => if d.channel = c then d.chain.length else 0).sum

/-- The unused reserves of the channels other than c (R41). -/
def State.othersUnused (s : State) (c : ChannelNo) : Nat :=
  (allChannels.map fun d => if d = c then 0 else (s.chan d).reserve - s.use d).sum

/-- usable(c) (R41); subtraction of naturals stops at 0, as the rule's max(0, ...) does. -/
def State.usable (s : State) (c : ChannelNo) : Nat :=
  min ((s.chan c).cap - s.use c) (s.freeCount - s.othersUnused c)

/-- The address of index i of a message's text (R36). -/
def chainAddress (chain : List BlockNo) (i : Nat) : Nat := cellAddress (chain.getD (i / Config.blockCells) 0).val i

/-- The address of index i of an area's text (R32). -/
def areaAddress (first i : Nat) : Nat := cellAddress (first + i / Config.blockCells) i

/-- The text symbol of a message at index i (R36). -/
def State.textSymbol (s : State) (h : Handle) (i : Nat) : Nat := (s.store.cells.read (chainAddress (s.desc h).chain i)).toNat

/-- The text symbol of an area at index i (R32). -/
def State.areaSymbol (s : State) (a : AreaNo) (i : Nat) : Nat := (s.store.cells.read (areaAddress (s.area a).first i)).toNat

/-- The symbols of a text at indices x to x + n - 1. -/
def stretch (symbol : Nat → Nat) (x n : Nat) : List Nat := (List.range' x n).map symbol

/-- The following word boundary of a text of length L from position x: the smallest boundary e with x < e < L (R15). -/
def followingBoundary (symbol : Nat → Nat) (L x : Nat) : Option Nat :=
  ((List.range' (x + 1) (L - (x + 1))).find? fun e => endsWord (symbol (e - 1)))

/-- The on-air count falls by one (R33). -/
def State.leaveArea (s : State) (a : AreaNo) : State := s.setArea a { s.area a with onAir := (s.area a).onAir - 1 }

/-- The on-air count rises by one (R33). -/
def State.enterArea (s : State) (a : AreaNo) : State := s.setArea a { s.area a with onAir := (s.area a).onAir + 1 }

/-! ### Credit (section 4.4) -/

def State.setLoad (s : State) (l : Option OpenLoad) : State := { s with loadUnit := { s.loadUnit with current := l } }

/-- The symbols the next grant would give (R50 step 1). -/
def State.grantNeed (s : State) (l : OpenLoad) : Nat := min s.loadUnit.grain (l.clamped - l.received)

/-- The blocks the next grant needs (R50 step 2). -/
def State.grantBlocks (s : State) (l : OpenLoad) (h : Handle) : Nat :=
  ceilDiv (l.received + s.grantNeed l) Config.blockCells - (s.desc h).chain.length

/-- Blocks from the front of the free list to the tail of a chain (R36). -/
def State.takeBlocks (s : State) (h : Handle) (n : Nat) : State :=
  let s1 := s.modDesc h fun d => { d with chain := d.chain ++ s.store.free.take n }
  { s1 with store := { s1.store with free := s.store.free.drop n } }

/-- Judges a credit grant of the open telex load (R50); every grant but a declaration's first sends CREDIT (R52). -/
def State.judgeGrant (s : State) (notify : Bool) : State :=
  match s.loadUnit.current with
  | none => s
  | some l =>
    match l.target with
    | .bulletin _ => s
    | .telex h c =>
      if s.grantBlocks l h ≤ s.usable c then
        let s1 := (s.takeBlocks h (s.grantBlocks l h)).setLoad
          (some { l with outstanding := s.grantNeed l, waiting := false })
        if notify then
          s1.emit .credit (some c) [.handle h, .num 2 (s.grantNeed l), .num 2 l.received, .num 2 l.clamped]
        else s1
      else s.setLoad (some { l with waiting := true })

/-- Judges a waiting grant again (R42, R51). -/
def State.rejudgeGrant (s : State) : State :=
  match s.loadUnit.current with
  | some l => if l.waiting then s.judgeGrant true else s
  | none => s

/-! ### Places of messages (section 5.2) -/

def Channel.queue (ch : Channel) : MsgClass → List Handle
  | .relay => ch.relayQ
  | .urgent => ch.urgentQ
  | .ordinary => ch.ordinaryQ

def Channel.setQueue (ch : Channel) (k : MsgClass) (q : List Handle) : Channel :=
  match k with
  | .relay => { ch with relayQ := q }
  | .urgent => { ch with urgentQ := q }
  | .ordinary => { ch with ordinaryQ := q }

/-- Takes a handle out of whichever list of the channel holds it (R63). -/
def Channel.detach (ch : Channel) (h : Handle) : Channel :=
  { ch with
    relayQ := ch.relayQ.filter (· ≠ h)
    urgentQ := ch.urgentQ.filter (· ≠ h)
    ordinaryQ := ch.ordinaryQ.filter (· ≠ h)
    active := if ch.active = some h then none else ch.active
    sent := ch.sent.filter (· ≠ h) }

def State.detach (s : State) (h : Handle) : State := s.modChan (s.desc h).channel (·.detach h)

/-- Moves a message to the head of its class queue (R64), in the state its return gives it. -/
def State.toHead (s : State) (h : Handle) (f : Descriptor → Descriptor) : State :=
  let d := s.desc h
  ((s.detach h).modDesc h f).modChan d.channel fun ch => ch.setQueue d.cls (h :: ch.queue d.cls)

/-- The message becomes SUSPENDED at the head of its class queue, keeping r (R82, R124). -/
def State.suspend (s : State) (h : Handle) : State := s.toHead h fun d => { d with state := .suspended }

/-- The message becomes READY with r = 0 at the head of its class queue, its timer cancelled (R73, R74, R82). -/
def State.requeueReady (s : State) (h : Handle) : State :=
  s.toHead h fun d => { d with state := .ready, resume := 0, ackDue := none }

/-- Returns blocks to the back of the free list (R38). -/
def State.returnBlocks (s : State) (bs : List BlockNo) : State :=
  { s with store := { s.store with free := s.store.free ++ bs } }

/-- Frees a descriptor: it leaves its place, its whole chain goes back, and it is FREE (R38, R61). -/
def State.freeMessage (s : State) (h : Handle) : State :=
  ((s.detach h).returnBlocks (s.desc h).chain).setDesc h Descriptor.reset

/-- The fields every MESSAGE notice of R81 begins with. -/
def State.messageFields (s : State) (h : Handle) : List Field :=
  [.handle h, .num 2 (s.desc h).number, .ship (s.desc h).dest]

/-- Frees a message, sends its notice after the freeing, and has a waiting grant judged after both (R81, R42). The CREDIT
of such a grant so stands before the other notices that the event still forms (DESIGN CHOICE, notes/assumptions/8.md). -/
def State.freeWith (s : State) (h : Handle) (e : Event) (fields : List Field) : State :=
  ((s.freeMessage h).emit e (some (s.desc h).channel) (s.messageFields h ++ fields)).rejudgeGrant

/-- Frees a message without a notice, as a command's reply reports it (R81). -/
def State.freeSilent (s : State) (h : Handle) : State := (s.freeMessage h).rejudgeGrant

/-- A deferred cancel ends: the message is freed, outcome CANCELLED (R77). -/
def State.freeCancelled (s : State) (h : Handle) : State :=
  s.freeWith h .cancelled [.num 2 (s.desc h).resume, .num 2 (s.desc h).length]

/-- The SUSPENDED notice (R132, R149). -/
def State.suspendedNotice (s : State) (h : Handle) (cause : SuspendCause) : State :=
  s.emit .suspended (some (s.desc h).channel)
    [.handle h, .num 2 (s.desc h).number, .num 1 cause.code, .num 2 (s.desc h).resume, .ship (s.desc h).dest]

/-! ### Expiry (section 5.6) -/

/-- A message that station time has expired: READY, never keyed, its expiry passed (R75, R10). -/
def State.expired (s : State) (h : Handle) : Bool :=
  match (s.desc h).expiry with
  | some e => decide ((s.desc h).state = .ready) && (s.desc h).firstKeyed.isNone && decide (e < s.now)
  | none => false

/-- The message is freed with outcome EXPIRED (R75). -/
def State.expire (s : State) (h : Handle) : State := s.freeWith h .expired [.time ((s.desc h).expiry.getD 0)]

/-- All messages station time has expired, freed in an order that is left free (R75). -/
def State.expireAll (s : State) : State :=
  (freeOrder s.choices ((List.finRange 256).filter s.expired)).foldl State.expire s.drawn

/-! ### Holds (section 9.6) -/

/-- A destination with a record, PENDING or RUNNING, in the channel's hold table (R163). -/
def Channel.isHeld (ch : Channel) (ship : Nat) : Bool := ch.holds.any (·.ship == ship)

/-- The end of a segment to a ship: its PENDING record begins to run (R165); its count, which then has no meaning, stays
(notes/assumptions/5.md). -/
def State.segmentEnds (s : State) (c : ChannelNo) (ship : Nat) : State :=
  s.modChan c fun ch =>
    { ch with
      holds := ch.holds.map fun r =>
        if r.ship = ship ∧ r.state = .pending then
          { r with state := .running, endsAt := s.clock.elapsed + r.count * 1000 }
        else r }

/-- The remaining seconds of a hold record (R163). -/
def State.remaining (s : State) (r : Hold) : Nat :=
  match r.state with
  | .pending => r.count
  | .running => ceilDiv (r.endsAt - s.clock.elapsed) 1000

end Sys2Proof.Machine
end

