-- ==== Sys2Proof/Machine/ScheduleOps.lean ====
section
/-! DEFINITION. The Broadcast Schedule's shared operations (chapter 6): occurrence times, placing, ending and judging
requests. -/

namespace Sys2Proof.Machine

/-! ### Occurrence times -/

/-- The period of an entry in milliseconds (R84). -/
def Slot.periodMs (e : Slot) : Nat := e.period * 60000

/-- The earliest occurrence of an entry at or after an absolute time (R84). -/
def Slot.earliest (e : Slot) (x : Nat) : Nat :=
  let q := e.periodMs
  let b := e.anchor % q
  if x ≤ b then b else b + ceilDiv (x - b) q * q

/-- Next-due as computed from the present station time; absent unless ENABLED (R83, R84). -/
def State.recomputed (s : State) (e : Slot) : Slot :=
  { e with nextDue := if e.state = .enabled then some (e.earliest s.now) else none }

/-- The next-due of every ENABLED entry computed from the new time (R101). -/
def State.recomputeAll (s : State) : State :=
  { s with slots := s.slots.map fun e => if e.state = .enabled then s.recomputed e else e }

/-- An ENABLED entry that names a channel. -/
def Slot.names (e : Slot) (c : ChannelNo) : Bool := decide (e.state = .enabled) && inSet e.channels c

/-- The smaller of two times, either of which may be absent. -/
def minOpt : Option Nat → Option Nat → Option Nat
  | some a, some b => some (min a b)
  | some a, none => some a
  | none, b => b

/-- The smallest of a list of times; absent for an empty list. -/
def earliestOf (ts : List Nat) : Option Nat := ts.foldr (fun t acc => minOpt (some t) acc) none

/-- The channel's next occurrence (R92). -/
def State.nextOccurrence (s : State) (c : ChannelNo) : Option Nat :=
  earliestOf ((s.slots.toList.filter (·.names c)).filterMap (·.nextDue))

/-! ### Outcomes (section 6.6) -/

def Stats.countOutcome (t : Stats) (o : BulletinOutcome) : Stats :=
  match o with
  | .onTime => { t with onTime := satSucc max32 t.onTime }
  | .late => { t with late := satSucc max32 t.late }
  | .restarted => { t with restarted := satSucc max32 t.restarted }
  | .missed => { t with missed := satSucc max32 t.missed }
  | .interrupted => { t with interrupted := satSucc max32 t.interrupted }
  | .noText => { t with noText := satSucc max32 t.noText }

/-- The outcomes that advance the overrun count (R100). -/
def BulletinOutcome.overruns : BulletinOutcome → Bool
  | .missed | .interrupted | .noText => true
  | .onTime | .late | .restarted => false

/-- Advances the overrun count, 15 wrapping to 0 with its notice (R100). -/
def State.advanceOverrun (s : State) (c : ChannelNo) : State :=
  if (s.chan c).stats.overrun < 15 then s.modStats c fun t => { t with overrun := t.overrun + 1 }
  else (s.modStats c fun t => { t with overrun := 0 }).emit .overrunWrap (some c) []

/-- Records one outcome on a channel: its OUTCOME notice, its count and, unless `quiet`, the overrun count
(R99, R100, R147). -/
def State.recordOutcome (s : State) (c : ChannelNo) (q : Request) (o : BulletinOutcome) (lateness : Option Nat)
    (quiet : Bool) : State :=
  let s1 := (s.emit .outcome (some c)
    [.num 1 o.code, .num 1 q.slot.val, .num 1 q.area.val, .time q.due, .time q.deadline, .opt 6 lateness,
      .num 1 q.restarts]).modStats c (·.countOutcome o)
  if o.overruns && !quiet then s1.advanceOverrun c else s1

/-- The request for one occurrence of one slot. -/
def Request.isFor (q : Request) (slot : SlotNo) (due : Nat) : Bool := decide (q.slot = slot) && decide (q.due = due)

/-- Takes a request out of the pending list (R91). -/
def State.dropRequest (s : State) (c : ChannelNo) (q : Request) : State :=
  s.modChan c fun ch => { ch with requests := ch.requests.filter fun r => !r.isFor q.slot q.due }

/-- A request ends with an outcome and leaves the list (R99). -/
def State.endRequest (s : State) (c : ChannelNo) (q : Request) (o : BulletinOutcome) (lateness : Option Nat)
    (quiet : Bool) : State :=
  (s.dropRequest c q).recordOutcome c q o lateness quiet

/-- The lateness fixed at a first start (R95). -/
def Request.lateness (q : Request) : Option Nat := q.firstStart.map (· - q.due)

/-- The outcome of a request that ends without completing (R93, R94, R98, R109): MISSED if it never started,
INTERRUPTED otherwise. -/
def Request.brokenOutcome (q : Request) : BulletinOutcome := if q.firstStart.isNone then .missed else .interrupted

/-- A request ends without completing. -/
def State.endBroken (s : State) (c : ChannelNo) (q : Request) (quiet : Bool) : State :=
  s.endRequest c q q.brokenOutcome q.lateness quiet

/-- Ends each of some requests without completing, in list order. -/
def State.endAllBroken (s : State) (c : ChannelNo) (quiet : Bool) (qs : List Request) : State :=
  qs.foldl (fun s q => s.endBroken c q quiet) s

/-! ### Placing requests (section 6.3) -/

/-- The order of a pending list: by S, then by slot number (R91). -/
def Request.before (p q : Request) : Bool :=
  decide (p.due < q.due) || (decide (p.due = q.due) && decide (p.slot.val < q.slot.val))

/-- A request put at the place the order gives it (R91). -/
def insertRequest (q : Request) : List Request → List Request
  | [] => [q]
  | p :: ps => if q.before p then q :: p :: ps else p :: insertRequest q ps

/-- The largest number of requests in a pending list (R91). -/
def pendingPlaces : Nat := 4

/-- The request an occurrence S of an entry makes on a channel (section 6.3). -/
def State.newRequest (s : State) (i : SlotNo) (due : Nat) (c : ChannelNo) : Request :=
  ⟨i, (s.slot i).area, due, due + (s.slot i).window + (s.chan c).settings.period, .waiting, 0, none⟩

/-- Places the request of an occurrence on a channel (R90). -/
def State.placeRequest (s : State) (i : SlotNo) (due : Nat) (c : ChannelNo) : State :=
  let q := s.newRequest i due c
  let ch := s.chan c
  if ch.state = .offline then s.recordOutcome c q .missed none false
  else if ch.requests.any (·.isFor i due) then s
  else if pendingPlaces ≤ ch.requests.length then s.recordOutcome c q .missed none false
  else s.setChan c { ch with requests := insertRequest q ch.requests }

/-- Station time has reached the next-due of an ENABLED entry (R89). -/
def State.slotDue (s : State) (i : SlotNo) : Bool :=
  match (s.slot i).nextDue with
  | some due => decide ((s.slot i).state = .enabled) && decide (due ≤ s.now)
  | none => false

/-- Takes one occurrence: its requests are placed and next-due becomes S + q (R89). The channels of the set come in
ascending order, and so do their OUTCOME notices (DESIGN CHOICE, notes/assumptions/8.md). -/
def State.takeOccurrence (s : State) (i : SlotNo) : State :=
  match (s.slot i).nextDue with
  | none => s
  | some due =>
    let s1 := (channelsOf (s.slot i).channels).foldl (fun s c => s.placeRequest i due c) s
    s1.setSlot i { s1.slot i with nextDue := some (due + (s.slot i).periodMs) }

/-- Takes some occurrences of one moment, in an order that is left free (R89). -/
def State.takeOccurrences (s : State) (is : List SlotNo) : State :=
  (freeOrder s.choices is).foldl State.takeOccurrence s.drawn

/-- All occurrences that are due. -/
def State.dueSlots (s : State) : List SlotNo := (List.finRange 64).filter s.slotDue

/-- The occurrences that are due and name a channel (R92). -/
def State.dueSlotsNaming (s : State) (c : ChannelNo) : List SlotNo :=
  s.dueSlots.filter fun i => inSet (s.slot i).channels c

/-- The channels that taking some occurrences may give work to. -/
def State.channelsNamed (s : State) (is : List SlotNo) : List ChannelNo :=
  allChannels.filter fun c => is.any fun i => inSet (s.slot i).channels c

/-! ### Deadlines (section 6.4) -/

/-- The states in which a deadline is judged against station time (R93). -/
def ChanState.unkeyed : ChanState → Bool
  | .standby | .keyUp | .faulted => true
  | .offline | .onAir | .closing => false

/-- The states in which symbols are keyed (section 8.1). -/
def ChanState.keyed : ChanState → Bool
  | .onAir | .closing => true
  | .offline | .standby | .keyUp | .faulted => false

/-- On an unkeyed channel a WAITING request whose D station time has reached has lost its chance (R93). -/
def State.deadlinePassed (s : State) (c : ChannelNo) (q : Request) : Bool :=
  (s.chan c).state.unkeyed && decide (q.state = .waiting) && decide (q.deadline ≤ s.now)

/-- Ends the requests of an unkeyed channel whose D station time has reached (R93, R102). -/
def State.endPassed (s : State) (c : ChannelNo) : State :=
  s.endAllBroken c false ((s.chan c).requests.filter (s.deadlinePassed c))

/-- At a symbol boundary of a keyed channel, ends the WAITING requests the next boundary would be too late for (R94). The
next boundary's station time is projected (R9), so on a stopped clock, and at the clock's end, it is no later than the
clock can go (DEDUCED, notes/assumptions/19.md). -/
def State.judgeBoundary (s : State) (c : ChannelNo) : State :=
  if (s.chan c).state.keyed then
    s.endAllBroken c false ((s.chan c).requests.filter fun q =>
      decide (q.state = .waiting) && decide (q.deadline ≤ s.project (s.chan c).settings.period))
  else s

/-! ### A request on the air (section 6.5) -/

/-- Changes the request of one occurrence. -/
def State.modRequest (s : State) (c : ChannelNo) (slot : SlotNo) (due : Nat) (f : Request → Request) : State :=
  s.modChan c fun ch => { ch with requests := ch.requests.map fun q => if q.isFor slot due then f q else q }

/-- A request is broken off: it is WAITING again, its restarts rise, the area is left (R97). -/
def State.returnRequest (s : State) (c : ChannelNo) (slot : SlotNo) (due : Nat) (a : AreaNo) : State :=
  (s.modRequest c slot due fun q => { q with state := .waiting, restarts := satSucc max8 q.restarts }).leaveArea a

/-- The outcome of a bulletin keyed to its end (R96). -/
def Request.completeOutcome (q : Request) (period : Nat) : BulletinOutcome :=
  if q.restarts = 0 then (if (q.lateness.getD 0) < period then .onTime else .late) else .restarted

/-- The last area symbol has been keyed (R96). -/
def State.bulletinEnds (s : State) (c : ChannelNo) (slot : SlotNo) (due : Nat) (a : AreaNo) : State :=
  let s1 := s.leaveArea a
  match (s.chan c).requests.find? (·.isFor slot due) with
  | some q => s1.endRequest c q (q.completeOutcome (s.chan c).settings.period) q.lateness false
  | none => s1

end Sys2Proof.Machine
end

