-- ==== Sys2Proof/Machine/FitTest.lean ====
section
/-! DEFINITION. The fit test (section 7.3): budget, candidate ends, cost and plan; and the trial plan for key-up (R120). -/

namespace Sys2Proof.Machine

/-- S_n: the earliest of the S of the WAITING requests and the next occurrence (R115). -/
def State.nextBulletin (s : State) (c : ChannelNo) : Option Nat :=
  minOpt (earliestOf (((s.chan c).requests.filter fun q => decide (q.state = .waiting)).map (·.due)))
    (s.nextOccurrence c)

/-- The margin S_n - G - t (R115). -/
def margin (due guard t : Nat) : Int := (due : Int) - guard - t

/-- The candidate ends of a plan (R116), ascending. `window` holds the min(Q, rem) text symbols from r on. -/
def candidateEnds (window : List Nat) (r L Q : Nat) : List Nat :=
  ((List.range window.length).filter fun i =>
    endsWord (window.getD i 0) || decide (r + i + 1 = L)
      || (decide (i + 1 = Q) && decide (r + Q < L) && !window.any endsWord)).map (r + · + 1)

/-- The candidate ends that qualify; every one when none is long enough (R116). -/
def qualifyingEnds (window : List Nat) (r L Q M : Nat) : List Nat :=
  let ends := candidateEnds window r L Q
  let long := ends.filter fun e => decide (min M Q ≤ e - r) || decide (e = L)
  if long.isEmpty then ends else long

/-- The cost of a candidate end (R117). -/
def endCost (window : List Nat) (r L : Nat) (h : Nat) (start : LineCase) (e : Nat) : Nat :=
  h + (e - r) + shiftCount start (window.take (e - r)) + (if e = L then 0 else 3)

/-- The plan: the largest qualifying end whose cost is within the budget, absent when none fits (R118). -/
def planEnd (window : List Nat) (r L Q M h : Nat) (start : LineCase) (budget : Option Int) : Option Nat :=
  ((qualifyingEnds window r L Q M).filter fun e =>
    match budget with
    | none => true
    | some b => decide ((endCost window r L h start e : Int) ≤ b)).getLast?

/-- The fit test of a message at station time t from a line case (R115 to R118). A negative margin fits nothing. -/
def State.fitTest (s : State) (c : ChannelNo) (h : Handle) (t : Nat) (header : Bool) (lc : LineCase) : FitRecord :=
  let set := (s.chan c).settings
  let d := s.desc h
  let cost := if header then headerCost lc else 0
  let start := if header then LineCase.figures else lc
  let window := stretch (s.textSymbol h) d.resume (min set.quantum (d.length - d.resume))
  let plan := planEnd window d.resume d.length set.quantum set.minSegment cost start
  match s.nextBulletin c with
  | none => ⟨t, none, none, none, h, plan none⟩
  | some due =>
    let m := margin due set.guard t
    let b := m / (set.period : Int)
    ⟨t, some due, some m, some b, h, if m < 0 then none else plan (some b)⟩

/-- A message is resuming when it is PARKED or SUSPENDED, and is then keyed with a header (R63). -/
def Descriptor.resuming (d : Descriptor) : Bool := decide (d.state = .parked) || decide (d.state = .suspended)

/-- The oldest eligible message of a queue (R111): nearest the head, its ship not held. -/
def State.oldestEligible (s : State) (c : ChannelNo) (q : List Handle) : Option Handle :=
  q.find? fun h => !(s.chan c).isHeld (s.desc h).dest

/-- The choice of case 4 (R111). -/
def State.chooseNew (s : State) (c : ChannelNo) : Option Handle :=
  let ch := s.chan c
  let u := s.oldestEligible c ch.urgentQ
  let o := s.oldestEligible c ch.ordinaryQ
  if ch.urgentRun < ch.settings.urgentRun ∧ u.isSome then u else if o.isSome then o else u

/-- The PARKED message of the active slot. -/
def State.parkedMessage (s : State) (c : ChannelNo) : Option Handle :=
  (s.chan c).active.filter fun h => decide ((s.desc h).state = .parked)

/-- The telex candidate that cases 3 and 4 would take, a parked message whose ship is held counting as returned
(R110, R111, R120). -/
def State.trialCandidate (s : State) (c : ChannelNo) : Option Handle :=
  match s.parkedMessage c with
  | some h => if (s.chan c).isHeld (s.desc h).dest then s.chooseNew c else some h
  | none => s.chooseNew c

/-- The trial plan for key-up: does the candidate fit at the projected start (R120)? -/
def State.trialFits (s : State) (c : ChannelNo) : Bool :=
  match s.trialCandidate c with
  | some h =>
    (s.fitTest c h (s.project (s.chan c).settings.keyUpLimit) (s.desc h).resuming .unknown).planned.isSome
  | none => false

/-- Station time has reached S - G - key-up limit for the channel's next occurrence (R138 cause 3). -/
def State.thresholdReached (s : State) (c : ChannelNo) : Bool :=
  match s.nextOccurrence c with
  | some due => decide (due ≤ s.now + (s.chan c).settings.guard + (s.chan c).settings.keyUpLimit)
  | none => false

/-- A key-up cause exists (R138). -/
def State.keyUpCause (s : State) (c : ChannelNo) : Bool :=
  !(s.chan c).relayQ.isEmpty || (s.chan c).requests.any (fun q => decide (q.state = .waiting))
    || s.thresholdReached c || s.trialFits c

end Sys2Proof.Machine
end

