-- ==== Sys2Proof/Machine/Interleaver.lean ====
section
/-! DEFINITION. The Channel Interleaver (chapter 7): settling, selection, starts, cuts and the end of markers; with the
hang rule (R140) and the reaching of OFFLINE (R145), which a decision point can bring about. -/

namespace Sys2Proof.Machine

/-! ### Beginning items -/

/-- An item other than IDLE fill begins; it ends the idle run (R140). -/
def State.beginItem (s : State) (c : ChannelNo) (it : Item) : State :=
  s.modChan c fun ch => { ch with item := it, idleSince := none }

/-- A suspension marker begins (R23). -/
def State.beginMarker (s : State) (c : ChannelNo) (what : Closes) (p : Purpose) : State :=
  s.beginItem c (.marker what p 0)

/-- The length of the present idle run (R140). -/
def State.idleRun (s : State) (c : ChannelNo) : Nat :=
  match (s.chan c).idleSince with
  | some b => s.clock.elapsed - b
  | none => 0

/-- IDLE fill begins, and with it an idle run if none is in progress (R22, R140). -/
def State.beginIdle (s : State) (c : ChannelNo) : State :=
  s.modChan c fun ch => { ch with item := .idle, idleSince := some (ch.idleSince.getD s.clock.elapsed) }

/-- The key goes off by the hang rule (R140). -/
def State.unkey (s : State) (c : ChannelNo) : State :=
  (s.modChan c fun ch => { ch with state := .standby, item := .noItem, idleSince := none }).emit .unkeyed (some c)
    [.time (s.idleRun c)]

/-- Selection has chosen IDLE fill: it is keyed, unless the idle run has lasted the hang time and no key-up cause
exists (R140). -/
def State.idleOrUnkey (s : State) (c : ChannelNo) : State :=
  if (s.chan c).settings.hangTime ≤ s.idleRun c ∧ s.keyUpCause c = false then s.unkey c else s.beginIdle c

/-! ### Starting telex -/

/-- Replaces the last fit test record (R118). -/
def State.recordFit (s : State) (c : ChannelNo) (f : FitRecord) : State :=
  s.modChan c fun ch => { ch with lastFit := some f }

/-- The urgent-run counter after a message of a class starts from a queue (R111). -/
def Channel.nextRun (ch : Channel) (k : MsgClass) : Nat :=
  if k = .urgent then min (ch.urgentRun + 1) ch.settings.urgentRun else 0

/-- A candidate whose plan fits starts (R114): it is ACTIVE in the active slot, and its header or its segment begins.
`fresh` says that it came from a queue in case 4. -/
def State.startTelex (s : State) (c : ChannelNo) (h : Handle) (e : Nat) (fresh : Bool) : State :=
  let d := s.desc h
  let lc := (s.chan c).lineCase
  let s1 := if fresh then
      s.modChan c fun ch => { ch.detach h with active := some h, urgentRun := ch.nextRun d.cls }
    else s
  let s2 := s1.modDesc h fun d => { d with state := .active }
  if d.resuming then
    (s2.beginItem c (.header h (headerCost lc) 0 e none)).emit .resumed (some c)
      [.handle h, .num 2 d.number, .num 2 d.resume, .num 1 (headerCost lc), .num 2 e]
  else s2.beginItem c (.segment h d.resume e none)

/-- One telex candidate is tried (R113): it starts if it fits, otherwise IDLE fill is chosen. -/
def State.tryTelex (s : State) (c : ChannelNo) (h : Handle) (fresh : Bool) : State :=
  let f := s.fitTest c h s.now (s.desc h).resuming (s.chan c).lineCase
  let s1 := s.recordFit c f
  match f.planned with
  | some e => s1.startTelex c h e fresh
  | none => s1.idleOrUnkey c

/-- Case 4 and, when it yields nothing, case 5 (R111, R113). -/
def State.selectNew (s : State) (c : ChannelNo) : State :=
  if (s.chan c).active.isSome then s.idleOrUnkey c
  else
    match s.chooseNew c with
    | some h => s.tryTelex c h true
    | none => s.idleOrUnkey c

/-- Case 3 (R110), passing to case 4 when the parked message is returned to its queue. -/
def State.selectTelex (s : State) (c : ChannelNo) : State :=
  match s.parkedMessage c with
  | some h =>
    if (s.chan c).isHeld (s.desc h).dest then ((s.suspend h).suspendedNotice h .hold).selectNew c
    else s.tryTelex c h false
  | none => s.selectNew c

/-! ### Starting relays and bulletins -/

/-- The head relay starts (R108). -/
def State.startRelay (s : State) (c : ChannelNo) (h : Handle) : State :=
  (s.modDesc h fun d => { d with state := .active, resume := 0 }).beginItem c (.relay h)

/-- A due request starts on a READY area (R95, R131). -/
def State.startBulletin (s : State) (c : ChannelNo) (q : Request) : State :=
  ((s.modRequest c q.slot q.due fun q =>
    { q with state := .onAir, firstStart := some (q.firstStart.getD s.now) }).enterArea q.area).beginItem c
      (.bulletin q.slot q.due q.area 0 none)

/-- Case 2 (R109): the due WAITING requests in list order, until one starts or none is left. -/
def State.startDue (s : State) (c : ChannelNo) : List Request → State
  | [] => s.selectTelex c
  | q :: qs =>
    if q.state = .waiting ∧ q.due ≤ s.now then
      if q.deadline ≤ s.now then (s.endBroken c q false).startDue c qs
      else if (s.area q.area).state = .ready then s.startBulletin c q
      else (s.endRequest c q .noText (some (s.now - q.due)) false).startDue c qs
    else s.startDue c qs

/-- Selection on an ON-AIR channel (R107): case 1, then case 2 and what follows it. -/
def State.select (s : State) (c : ChannelNo) : State :=
  match (s.chan c).relayQ with
  | h :: _ => s.startRelay c h
  | [] => s.startDue c (s.chan c).requests

/-! ### Settling an unfinished message -/

/-- At a decision point the active slot holds an unfinished message when its message is ACTIVE (R121). -/
def State.unfinished (s : State) (c : ChannelNo) : Option Handle :=
  (s.chan c).active.filter fun h => decide ((s.desc h).state = .active)

/-- Settles an unfinished message (R123, orders 1 to 6). -/
def State.settle (s : State) (c : ChannelNo) (h : Handle) : State :=
  let ch := s.chan c
  let d := s.desc h
  if d.cancelRequested then s.beginMarker c (.message h) .cancel
  else if ch.state = .closing then s.beginMarker c (.message h) .close
  else if ch.isHeld d.dest then s.beginMarker c (.message h) .hold
  else if !ch.relayQ.isEmpty then s.beginMarker c (.message h) (.park .relay)
  else if ch.requests.any (fun q => decide (q.state = .waiting ∧ q.due ≤ s.now ∧ s.now < q.deadline)) then
    s.beginMarker c (.message h) (.park .bulletin)
  else
    let f := s.fitTest c h s.now false ch.lineCase
    let s1 := s.recordFit c f
    match f.planned with
    | some e => s1.beginItem c (.segment h d.resume e none)
    | none => s1.beginMarker c (.message h) (.park .budget)

/-! ### Reaching OFFLINE -/

/-- A PARKED message returns SUSPENDED with cause CLOSE (R145 step 2). -/
def State.closeParked (s : State) (c : ChannelNo) : State :=
  match s.parkedMessage c with
  | some h => (s.suspend h).suspendedNotice h .close
  | none => s

/-- A channel reaches OFFLINE (R145). -/
def State.reachOffline (s : State) (c : ChannelNo) : State :=
  let wasClosing := decide ((s.chan c).state = .closing)
  let s1 := s.modChan c fun ch =>
    { ch with state := .offline, item := .noItem, idleSince := none, faultReason := none }
  let s2 := s1.closeParked c
  let s3 := s2.endAllBroken c false (s2.chan c).requests
  let s4 := s3.modChan c fun ch => { ch with parser := Parser.reset }
  if wasClosing then s4.emit .closed (some c) [] else s4

/-! ### Decision points -/

/-- A decision point (R105): the due occurrences that name the channel are taken (R92); then an unfinished message is
settled, or the marker of a bulletin that stopped at its cut point begins, or the next item is selected. A CLOSING
channel that begins nothing reaches OFFLINE. -/
def State.atDecision (s : State) (c : ChannelNo) (cutBulletin : Option Closes) : State :=
  let s1 := s.takeOccurrences (s.dueSlotsNaming c)
  match s1.unfinished c with
  | some h => s1.settle c h
  | none =>
    match cutBulletin with
    | some what => s1.beginMarker c what .bulletinCut
    | none => if (s1.chan c).state = .closing then s1.reachOffline c else s1.select c

/-- A decision point with the judgement of deadlines that follows the Interleaver's choice (R94). -/
def State.decisionPoint (s : State) (c : ChannelNo) (cutBulletin : Option Closes) : State :=
  (s.atDecision c cutBulletin).judgeBoundary c

/-! ### Cuts (section 7.5) -/

/-- The planned end and the cut point of a segment after a cut request with resume point x (R125). -/
def cutSegment (symbol : Nat → Nat) (L x e : Nat) (cut : Option Nat) : Nat × Option Nat :=
  match followingBoundary symbol L x with
  | some b => if b < e then (b, some b) else (e, cut)
  | none => (e, cut)

/-- A cut request that reaches a SEGMENT or a HEADER (R125). -/
def State.cutTelex (s : State) (c : ChannelNo) : State :=
  match (s.chan c).item with
  | .segment h start e cut =>
    let p := cutSegment (s.textSymbol h) (s.desc h).length (s.desc h).resume e cut
    s.modChan c fun ch => { ch with item := .segment h start p.1 p.2 }
  | .header h cost keyed e cut =>
    let p := cutSegment (s.textSymbol h) (s.desc h).length (s.desc h).resume e cut
    s.modChan c fun ch => { ch with item := .header h cost keyed p.1 p.2 }
  | .noItem | .idle | .marker _ _ _ | .relay _ | .bulletin _ _ _ _ _ => s

/-- A cut request that reaches a BULLETIN (R125); a cut point once fixed stays. -/
def State.cutBulletin (s : State) (c : ChannelNo) : State :=
  match (s.chan c).item with
  | .bulletin slot due a pos none =>
    s.modChan c fun ch =>
      { ch with item := .bulletin slot due a pos (followingBoundary (s.areaSymbol a) (s.area a).length pos) }
  | .bulletin _ _ _ _ (some _) | .noItem | .idle | .marker _ _ _ | .relay _ | .header _ _ _ _ _
  | .segment _ _ _ _ => s

/-- A RELAY descriptor becomes READY on a channel (R126, R127); on a CLOSING channel it requests no cut (R144). -/
def State.relayReady (s : State) (c : ChannelNo) : State :=
  if (s.chan c).state = .onAir then (s.cutTelex c).cutBulletin c else s

/-- A CANCEL of the ACTIVE message of a channel is accepted (R128): a cut of its segment, or purpose CANCEL for the
marker that closes it. -/
def State.cancelActive (s : State) (c : ChannelNo) (h : Handle) : State :=
  match (s.chan c).item with
  | .marker (.message g) _ keyed =>
    if g = h then s.modChan c fun ch => { ch with item := .marker (.message h) .cancel keyed } else s
  | .segment g _ _ _ => if g = h then s.cutTelex c else s
  | .header g _ _ _ _ => if g = h then s.cutTelex c else s
  | .marker (.request _ _ _) _ _ | .noItem | .idle | .relay _ | .bulletin _ _ _ _ _ => s

/-! ### The end of a marker -/

/-- A marker completes (R124, R145): what its purpose asks. -/
def State.markerEnds (s : State) (c : ChannelNo) (what : Closes) (p : Purpose) : State :=
  match what with
  | .request slot due a => s.returnRequest c slot due a
  | .message h =>
    match p with
    | .park reason =>
      (s.modDesc h fun d => { d with state := .parked }).emit .parked (some c)
        [.handle h, .num 2 (s.desc h).number, .num 1 reason.code, .num 2 (s.desc h).resume, .num 2 (s.desc h).length]
    | .hold => (s.suspend h).suspendedNotice h .hold
    | .cancel => s.freeCancelled h
    | .close => (s.suspend h).suspendedNotice h .close
    | .bulletinCut => s

/-- The ship a segment in progress is keyed to, its header included (R122). -/
def State.segmentShip (s : State) (c : ChannelNo) : Option Nat :=
  match (s.chan c).item with
  | .segment h _ _ _ => some (s.desc h).dest
  | .header h _ _ _ _ => some (s.desc h).dest
  | .noItem | .idle | .marker _ _ _ | .relay _ | .bulletin _ _ _ _ _ => none

end Sys2Proof.Machine
end

