-- ==== Sys2Proof/Machine/Keyer.lean ====
section
/-! DEFINITION. The Keyer (chapter 8): the line symbol presented and its completion, key-up, faults and resets; with the
completion of messages (R67). -/

namespace Sys2Proof.Machine

/-! ### The keyer output -/

/-- The next symbol of the item in progress, before any shift (R106). -/
def State.nextSymbol (s : State) (c : ChannelNo) : Option Nat :=
  match (s.chan c).item with
  | .noItem => none
  | .idle => some symIdle
  | .header h _ keyed _ _ => (headerSymbols (s.desc h).number)[keyed]?
  | .marker _ _ keyed => markerSymbols[keyed]?
  | .segment h _ _ _ => some (s.textSymbol h (s.desc h).resume)
  | .relay h => some (s.textSymbol h (s.desc h).resume)
  | .bulletin _ _ a pos _ => some (s.areaSymbol a pos)

/-- The key request line (R134): on in KEY-UP, ON-AIR and CLOSING. -/
def State.keyRequest (s : State) (c : ChannelNo) : Bool :=
  match (s.chan c).state with
  | .keyUp | .onAir | .closing => true
  | .offline | .standby | .faulted => false

/-- The line symbol at the keyer output (R18, R20): the shift the next symbol needs, or the symbol. -/
def State.lineSymbol (s : State) (c : ChannelNo) : Option Nat :=
  if (s.chan c).state.keyed then (s.nextSymbol c).map fun y => (shiftFor (s.chan c).lineCase y).getD y else none

/-! ### Counting -/

/-- A line symbol has completed: the count of R147, wrapping with its notice. -/
def State.countLine (s : State) (c : ChannelNo) : State :=
  if (s.chan c).stats.lineSymbols < max32 then s.modStats c fun t => { t with lineSymbols := t.lineSymbols + 1 }
  else (s.modStats c fun t => { t with lineSymbols := 0 }).emit .counterWrap (some c) []

/-- A message is done: one of the four counts by its length (R147). -/
def Stats.countDone (t : Stats) (length : Nat) : Stats :=
  if length ≤ 255 then { t with done255 := satSucc max32 t.done255 }
  else if length ≤ 1023 then { t with done1023 := satSucc max32 t.done1023 }
  else if length ≤ 4095 then { t with done4095 := satSucc max32 t.done4095 }
  else { t with done8192 := satSucc max32 t.done8192 }

/-! ### Completion of a message (R67) -/

/-- The message leaves the active slot for the tail of the sent list, its timer starting (R66, R67, R69). -/
def State.toSent (s : State) (h : Handle) : State :=
  let d := s.desc h
  let timeout := (s.chan d.channel).settings.ackTimeout
  ((s.detach h).modDesc h fun d =>
    { d with state := .awaitAck, ackDue := if timeout = 0 then none else some (s.clock.elapsed + timeout * 1000) }).modChan
      d.channel fun ch => { ch with sent := ch.sent ++ [h] }

/-- The last text symbol of a message has completed (R67, R77). SENT carries its ack due as an optional elapsed time
(DEDUCED, notes/assumptions/11.md). -/
def State.messageEnds (s : State) (c : ChannelNo) (h : Handle) : State :=
  let s1 := (s.modDesc h fun d => { d with doneTime := some s.now }).modStats c (·.countDone (s.desc h).length)
  let d := s1.desc h
  if d.cancelRequested then s1.freeCancelled h
  else if d.cls = .relay ∨ d.confirm = false then
    s1.freeWith h .done
      [.num 1 d.cls.code, .num 2 d.length, .num 2 d.segments, .time (d.firstKeyed.getD 0), .time (d.doneTime.getD 0)]
  else
    let s2 := s1.toSent h
    s2.emit .sent (some c)
      (s2.messageFields h ++
        [.num 2 d.length, .num 1 d.repeats, .time (d.doneTime.getD 0), .optTime (s2.desc h).ackDue])

/-- A text symbol of a message has completed: r rises; the first of its segment is counted, the first of the message
stamps it (R62, R121, R147). -/
def State.textSymbolDone (s : State) (c : ChannelNo) (h : Handle) (start : Nat) : State :=
  let first := decide ((s.desc h).resume = start)
  let s1 := s.modDesc h fun d =>
    { d with
      resume := d.resume + 1
      segments := if first then satSucc max16 d.segments else d.segments
      firstKeyed := some (d.firstKeyed.getD s.now) }
  if first then s1.modStats c fun t => { t with segments := satSucc max32 t.segments } else s1

/-! ### Completion of a line symbol (R18) -/

/-- The next period begins where the last one ended (R139). -/
def State.nextPeriod (s : State) (c : ChannelNo) : State :=
  s.modChan c fun ch => { ch with symbolEnd := ch.symbolEnd + ch.settings.period }

/-- The item in progress has ended: a decision point follows (R105). -/
def State.itemEnds (s : State) (c : ChannelNo) (cutBulletin : Option Closes) : State :=
  (s.modChan c fun ch => { ch with item := .noItem }).decisionPoint c cutBulletin

/-- The item goes on to its next symbol; deadlines are judged at the boundary (R94). -/
def State.itemGoesOn (s : State) (c : ChannelNo) (it : Item) : State :=
  (s.modChan c fun ch => { ch with item := it }).judgeBoundary c

/-- An inserted shift has completed (R19, R20, R147). -/
def State.shiftDone (s : State) (c : ChannelNo) (sh : Nat) : State :=
  (s.modChan c fun ch =>
    { ch with
      lineCase := caseAfterShift ch.lineCase sh
      stats := { ch.stats with shifts := satSucc max32 ch.stats.shifts } }).judgeBoundary c

/-- A symbol of a telex segment has completed (R121, R122). -/
def State.segmentSymbolDone (s : State) (c : ChannelNo) (h : Handle) (start e : Nat) (cut : Option Nat) : State :=
  let s1 := s.textSymbolDone c h start
  let d := s1.desc h
  if d.resume = d.length then ((s1.segmentEnds c d.dest).messageEnds c h).itemEnds c none
  else if e ≤ d.resume then (s1.segmentEnds c d.dest).itemEnds c none
  else s1.itemGoesOn c (.segment h start e cut)

/-- A symbol of a relay has completed (R108). -/
def State.relaySymbolDone (s : State) (c : ChannelNo) (h : Handle) : State :=
  let s1 := s.textSymbolDone c h 0
  let d := s1.desc h
  if d.resume = d.length then (s1.messageEnds c h).itemEnds c none else s1.itemGoesOn c (.relay h)

/-- An area symbol of a bulletin has completed (R131, R96, R127). -/
def State.bulletinSymbolDone (s : State) (c : ChannelNo) (slot : SlotNo) (due : Nat) (a : AreaNo) (pos : Nat)
    (cut : Option Nat) : State :=
  if (s.area a).length ≤ pos + 1 then (s.bulletinEnds c slot due a).itemEnds c none
  else if cut = some (pos + 1) then s.itemEnds c (some (.request slot due a))
  else s.itemGoesOn c (.bulletin slot due a (pos + 1) cut)

/-- The symbol of the item, no shift, has completed (R106 and the table of section 7.1). -/
def State.itemSymbolDone (s : State) (c : ChannelNo) : State :=
  match (s.chan c).item with
  | .noItem => s
  | .idle => (s.modStats c fun t => { t with idles := satSucc max32 t.idles }).itemEnds c none
  | .header h cost keyed e cut =>
    if keyed + 1 < (headerSymbols (s.desc h).number).length then s.itemGoesOn c (.header h cost (keyed + 1) e cut)
    else s.itemGoesOn c (.segment h (s.desc h).resume e cut)
  | .marker what p keyed =>
    if keyed + 1 < markerSymbols.length then s.itemGoesOn c (.marker what p (keyed + 1))
    else
      ((s.modStats c fun t => { t with markers := satSucc max32 t.markers }).markerEnds c what p).itemEnds c none
  | .segment h start e cut => s.segmentSymbolDone c h start e cut
  | .relay h => s.relaySymbolDone c h
  | .bulletin slot due a pos cut => s.bulletinSymbolDone c slot due a pos cut

/-- The character period of the symbol being keyed ends: a shift or the item's own symbol completes (R18, R20). The count
of R147 comes first, so COUNTER-WRAP stands before every other notice of the completion (DESIGN CHOICE,
notes/assumptions/8.md). -/
def State.symbolCompletes (s : State) (c : ChannelNo) : State :=
  let s1 := (s.countLine c).nextPeriod c
  match s.nextSymbol c with
  | none => s
  | some y =>
    match shiftFor (s.chan c).lineCase y with
    | some sh => s1.shiftDone c sh
    | none => s1.itemSymbolDone c

/-! ### Key-up (section 8.3) -/

/-- Steps 1 and 2 of the entry to ON-AIR (R139, R19): the line case UNKNOWN, the symbol clock started. -/
def State.keyed (s : State) (c : ChannelNo) : State :=
  s.modChan c fun ch =>
    { ch with
      state := .onAir
      lineCase := .unknown
      symbolEnd := s.clock.elapsed + ch.settings.period
      idleSince := none
      item := .noItem }

/-- The channel enters ON-AIR (R139): after its first decision point the KEYED notice, which carries the wait from the
rise of the key request (R150). -/
def State.enterOnAir (s : State) (c : ChannelNo) : State :=
  ((s.keyed c).decisionPoint c none).emit .keyed (some c) [.time (s.clock.elapsed - (s.chan c).keyRise)]

/-- A STANDBY channel goes to KEY-UP, and to ON-AIR at once when ready is present (R138, R139). -/
def State.keyUp (s : State) (c : ChannelNo) : State :=
  let s1 := s.modChan c fun ch => { ch with state := .keyUp, keyRise := s.clock.elapsed }
  if (s.chan c).ready then s1.enterOnAir c else s1

/-- The channels that a decision point of a channel may give requests to, by the occurrences it takes (R92). -/
def State.decisionTouches (s : State) (c : ChannelNo) : List ChannelNo := s.channelsNamed (s.dueSlotsNaming c)

/-- Judges the key-up causes of some channels, and of those that a key-up gives work to (R138). The first argument
bounds the number of judgements. DEDUCED, notes/assumptions/14.md. -/
def State.judgeWithin : Nat → List ChannelNo → State → State
  | 0, _, s => s
  | _ + 1, [], s => s
  | n + 1, c :: cs, s =>
    if (s.chan c).state = .standby ∧ s.keyUpCause c = true then
      State.judgeWithin n (cs ++ if (s.chan c).ready then s.decisionTouches c else []) (s.keyUp c)
    else State.judgeWithin n cs s

/-- More judgements than one step can need: each channel once, and eight for each of the 64 occurrences. -/
def judgeBound : Nat := 1024

/-- Judges the key-up causes of some channels (R138). -/
def State.judgeKeyUp (s : State) (cs : List ChannelNo) : State := State.judgeWithin judgeBound cs s

/-! ### Faults and resets (sections 8.5 and 8.7) -/

/-- The message of the active slot whose keying has ended with a cancel requested (R142). -/
def State.cancelledInSlot (s : State) (c : ChannelNo) : Option Handle :=
  (s.chan c).active.filter fun h => decide ((s.desc h).state = .active) && (s.desc h).cancelRequested

/-- The message of the active slot that a fault, a close or a reset returns SUSPENDED (R142). -/
def State.suspendedInSlot (s : State) (c : ChannelNo) : Option Handle :=
  (s.chan c).active.filter fun h => !(decide ((s.desc h).state = .active) && (s.desc h).cancelRequested)

/-- The relay being keyed. -/
def Item.relayHandle : Item → Option Handle
  | .relay h => some h
  | .noItem | .idle | .header _ _ _ _ _ | .segment _ _ _ _ | .marker _ _ _ | .bulletin _ _ _ _ _ => none

/-- The request on air: of the bulletin being keyed, or of the marker that closes it. -/
def Item.onAirRequest : Item → Option (SlotNo × Nat × AreaNo)
  | .bulletin slot due a _ _ => some (slot, due, a)
  | .marker (.request slot due a) _ _ => some (slot, due, a)
  | .marker (.message _) _ _ | .noItem | .idle | .header _ _ _ _ _ | .segment _ _ _ _ | .relay _ => none

/-- A segment in progress is broken off: its end is reported to the Receive Watch (R141 step 4, R165). -/
def State.breakSegment (s : State) (c : ChannelNo) : State :=
  match s.segmentShip c with
  | some ship => s.segmentEnds c ship
  | none => s

/-- Does something with a value that may be absent. -/
def State.forSome {α : Type} (s : State) (x : Option α) (f : State → α → State) : State :=
  match x with
  | some a => f s a
  | none => s

/-- A channel becomes FAULTED, its traffic returned (R141, R142). The FAULT notice stands before the CANCELLED notice of
a message freed (R150). -/
def State.faultChannel (s : State) (c : ChannelNo) (reason : FaultReason) : State :=
  let ch := s.chan c
  let freed := s.cancelledInSlot c
  let suspended := s.suspendedInSlot c
  let relay := ch.item.relayHandle
  let request := ch.item.onAirRequest
  let s1 := (s.breakSegment c).modChan c fun ch =>
    { ch with state := .faulted, faultReason := some reason, item := .noItem, idleSince := none }
  let s2 := s1.forSome suspended State.suspend
  let s3 := s2.forSome relay State.requeueReady
  let s4 := s3.forSome request fun s q => s.returnRequest c q.1 q.2.1 q.2.2
  let s5 := s4.emit .fault (some c)
    [.num 1 reason.code, .num 1 ch.item.code, .optHandle ch.active, .opt 2 (ch.active.map fun h => (s.desc h).resume),
      .optHandle relay, .opt 1 (request.map fun q => q.1.val), .optTime (request.map fun q => q.2.1)]
  s5.forSome freed State.freeCancelled

/-- RESET-CHANNEL steps 1 to 6 (R146). The notices of the message come first, then the CREDIT that a freed message's blocks
allow a waiting grant (R52), then the OUTCOMEs of the requests (DESIGN CHOICE, notes/assumptions/8.md). -/
def State.resetPort (s : State) (c : ChannelNo) : State :=
  let ch := s.chan c
  let freed := s.cancelledInSlot c
  let suspended := s.suspendedInSlot c
  let relay := ch.item.relayHandle
  let request := ch.item.onAirRequest
  let s1 := s.modChan c fun ch =>
    { ch with state := .offline, faultReason := none, item := .noItem, idleSince := none, urgentRun := 0, lastFit := none }
  let s2 := s1.forSome suspended fun s h => (s.suspend h).suspendedNotice h .reset
  let s3 := s2.forSome freed State.freeCancelled
  let s4 := s3.forSome relay State.requeueReady
  let s5 := s4.forSome request fun s q => s.leaveArea q.2.2
  let s6 := s5.endAllBroken c true (s5.chan c).requests
  s6.modChan c fun ch =>
    { ch with parser := Parser.reset, holds := [], latch := none, rx := RxCounts.reset, stats := Stats.reset }

end Sys2Proof.Machine
end

