-- ==== Sys2Proof/Machine/LinkOps.lean ====
section
/-! DEFINITION. The Office Link's operations (chapter 10): the transmitter's output, the offering of notices, the taking
of commands, and the reset that follows a RESTART. -/

namespace Sys2Proof.Machine

def State.modLink (s : State) (f : Link → Link) : State := { s with link := f s.link }

/-! ### The transmitter (section 10.4) -/

/-- A free transmitter begins the record at the head of its output list, which leaves the list (R175). -/
def Link.kick (k : Link) : Link :=
  match k.sending, k.output with
  | none, r :: rest => { k with sending := some r, output := rest }
  | _, _ => k

/-- A record goes to the end of the output list (R175). -/
def Link.place (k : Link) (r : Record) : Link := { k with output := k.output ++ [r] }.kick

def Record.isNotice : Record → Bool
  | .notice _ => true
  | .reply _ _ => false

/-- The number of notices in the queue (R178). -/
def Link.queued (k : Link) : Nat := k.output.countP Record.isNotice

/-- A reply formed earlier is still waiting to begin transmission (R173). -/
def Link.replyWaits (k : Link) : Bool := k.output.any fun r => !r.isNotice

/-! ### Notices (section 10.5) -/

/-- CREDIT, STARTED and NOTICES-LOST pass whatever the masks hold (R177). -/
def Event.unmasked : Event → Bool
  | .credit | .started | .noticesLost => true
  | .day | .clockStopped | .load | .done | .sent | .unconfirmed | .acked | .ackedLate | .repeated | .repeatRefused
  | .expired | .cancelled | .parked | .suspended | .resumed | .outcome | .overrunWrap | .keyed | .unkeyed | .fault
  | .closed | .counterWrap | .capture | .unmatched | .hold | .holdLost | .holdEnded => false

/-- A notice passes the masks (R177). -/
def Link.passes (k : Link) (n : Notice) : Bool :=
  n.event.unmasked
    || (k.categories.getLsbD n.event.category.code
      && match n.channel with
        | some c => inSet k.channels c
        | none => true)

/-- A notice that finds no place is lost (R178). -/
def Link.lose (k : Link) : Link :=
  { k with pendingLoss := satSucc max16 k.pendingLoss, noticesLost := satSucc max16 k.noticesLost }

/-- The NOTICES-LOST notice carries the pending loss, which becomes 0 (R178). -/
def Link.reportLoss (k : Link) (stamp : Nat) : Link :=
  { k with pendingLoss := 0 }.place (.notice ⟨.noticesLost, none, stamp, [.num 2 k.pendingLoss]⟩)

/-- One offered notice (R177, R178). While a RESTART is under way it is dropped without being counted (R181). -/
def Link.offer (k : Link) (now : Nat) (n : Notice) : Link :=
  if k.restarting || !k.passes n then k
  else if Config.noticePlaces ≤ k.queued then k.lose
  else if k.pendingLoss = 0 then k.place (.notice n)
  else if k.queued + 1 < Config.noticePlaces then (k.reportLoss now).place (.notice n)
  else (k.reportLoss now).lose

/-- Offers the notices that the step has formed, in the order they were formed (R176; notes/assumptions/8.md). -/
def State.flush (s : State) : State :=
  { s with link := s.outbox.foldl (fun k n => k.offer s.clock.ms n) s.link, outbox := [] }

/-! ### Taking a command (section 10.3) -/

/-- What judging and acting on a command gives: a reason to refuse it, or the state after its action, whose notices are
still in the outbox, and the result fields of its ACCEPT (R174). -/
abbrev Judged := Except Reason (State × List Field)

/-- A taken command: its reply stands ahead of every notice its action forms; a refused command changes nothing else
(R173, R174). -/
def State.take (s : State) (kind : Byte) (j : Judged) : State :=
  match j with
  | .error r => s.modLink (·.place (.reply kind (.refuse r)))
  | .ok (t, fields) => (t.modLink (·.place (.reply kind (.accept fields)))).flush

/-- The Office Link may take a frame now: no reply waits to begin and no RESTART is under way (R173, R181). -/
def Link.mayTake (k : Link) : Bool := !k.restarting && !k.replyWaits

/-- A received frame joins the command input buffer, or is discarded and counted when it is full (R173). -/
def Link.bufferFrame (k : Link) (f : Frame) : Link :=
  if k.buffer.length < Config.bufferPlaces then { k with buffer := k.buffer ++ [f] }
  else { k with bufferFull := satSucc max16 k.bufferFull }

/-- A received frame reaches the command input buffer. It is taken at once when no frame is ahead of it and one may be
taken; a RESTART under way ignores it (R173, R181; notes/assumptions/1.md). -/
def State.receive (s : State) (kind : Byte) (body : Body) (taken : State → State) : State :=
  if s.link.restarting then s
  else if s.link.buffer.isEmpty && s.link.mayTake then taken s
  else s.modLink (·.bufferFrame ⟨kind, body⟩)

/-- A RESTART is taken (R181): its ACCEPT becomes the head of an otherwise empty output, the buffer is emptied, and the
frame in reception is abandoned. -/
def State.takeRestart (s : State) (kind : Byte) (body : Body) : State :=
  match body with
  | [] =>
    s.modLink fun k =>
      { k with output := [.reply kind (.accept [])], buffer := [], restarting := true, rx := Receiver.reset }.kick
  | _ :: _ => s.take kind (.error .badForm)

/-! ### Resets (section 10.7) -/

/-- Every channel at its reset value; the ready inputs are levels that the outside holds. -/
def State.resetChannels (s : State) : Vector Channel 8 := s.channels.map fun ch => Channel.reset ch.ready

/-- Power-on reset (R180). The commands that wait and the drawings of free orders are the model's own. -/
def State.powerOn (s : State) : State :=
  { State.reset with channels := s.resetChannels, choices := s.choices, pending := s.pending }

/-- The reset that follows a RESTART (R181): the station clock keeps its four items, elapsed time returns to 0 (R1, R8),
and STARTED with reason RESTART is formed. -/
def State.restarted (s : State) : State :=
  { s.powerOn with clock := { s.clock with elapsed := 0 }, link := Link.reset 1 s.clock.ms }

end Sys2Proof.Machine
end

