-- ==== Sys2Proof/Machine/ClockFamily.lean ====
section
/-! DEFINITION. The Station Clock's commands and events (chapter 1), and the millisecond of the crystal. -/

namespace Sys2Proof.Machine

abbrev StepOutcome := Host.Outcome State Fault Refusal

/-- A command of the office link: its frame is received, and taken as soon as one may be (R173). -/
def commandStep (s : State) (kind : Byte) (act : Body → State → Judged) (body : Body) : StepOutcome :=
  .next (s.receive kind body fun s => s.take kind (act body s))

/-- An event: its notices are offered when it ends (R176). -/
def eventStep (s : State) : StepOutcome := .next s.flush

/-- A command whose body is one channel number; above 7 it is refused RANGE. -/
def onChannel (body : Body) (f : ChannelNo → Judged) : Judged :=
  match body with
  | [b] =>
    match channelOf b with
    | some c => f c
    | none => .error .range
  | _ => .error .badForm

/-- A command whose body is one handle. -/
def onHandle (body : Body) (f : Handle → Judged) : Judged :=
  match body with
  | [b] => f (handleOf b)
  | _ => .error .badForm

/-- A command whose body is one slot number; above 63 it is refused RANGE (section 6.2). -/
def onSlot (body : Body) (f : SlotNo → Judged) : Judged :=
  match body with
  | [b] =>
    match slotOf b with
    | some i => f i
    | none => .error .range
  | _ => .error .badForm

/-- A command with no body. -/
def onEmpty (body : Body) (j : Judged) : Judged :=
  match body with
  | [] => j
  | _ :: _ => .error .badForm

/-! ### The running clock -/

/-- The clock stands at the last millisecond of day 65,535 (R3). -/
def Clock.atEnd (k : Clock) : Bool := decide (k.day = 65535) && decide (k.ms = 86399999)

/-- The running clock has reached its end: it stops and sends CLOCK-STOPPED (R3). -/
def State.stopAtEnd (s : State) : State :=
  if s.clock.running && s.clock.atEnd then
    { s with clock := { s.clock with running := false } }.emit .clockStopped none []
  else s

/-- A midnight rollover: both clocks advance by one millisecond, the day by one, and DAY is sent (R2, R8). -/
def State.rollover (s : State) : State :=
  let k := s.clock
  { s with clock := { k with day := k.day + 1, ms := 0, elapsed := k.elapsed + 1 } }.emit .day none
    [.num 2 (k.day + 1), .flag k.isSet]

/-- The running clock passes midnight in the next millisecond (R2). -/
def Clock.beforeMidnight (k : Clock) : Bool := k.running && decide (k.ms = 86399999) && decide (k.day < 65535)

/-- One millisecond of the crystal: both clocks advance together (R2, R3, R8). -/
def State.advance (s : State) : State :=
  if s.clock.beforeMidnight then s.rollover
  else if s.clock.running && !s.clock.atEnd then
    { s with clock := { s.clock with ms := s.clock.ms + 1, elapsed := s.clock.elapsed + 1 } }
  else { s with clock := { s.clock with elapsed := s.clock.elapsed + 1 } }

/-! ### SET-CLOCK and READ-CLOCK -/

/-- Day, ms of day, set flag and run condition; RUNNING 0, STOPPED 1 (section 1.1). -/
def Clock.fields (k : Clock) : List Field := [.num 2 k.day, .num 4 k.ms, .flag k.isSet, .flag (!k.running)]

/-- R5 steps 1 to 3. -/
def State.setTime (s : State) (day ms : Nat) : State :=
  { s with clock := { s.clock with day := day, ms := ms, isSet := true, running := true } }

/-- An accepted SET-CLOCK: the clock (R5), the stop at its end (R3), the next-dues (R101), and everything judged against
the new time (R10): expiries (R75), deadlines on unkeyed channels (R102), occurrences at the new time (R101) and key-up
causes (R138). The order of these is DEDUCED, notes/assumptions/13.md; the channels come in ascending order (DESIGN CHOICE,
notes/assumptions/8.md). -/
def State.applyClock (s : State) (day ms : Nat) : State :=
  let s1 := (s.setTime day ms).stopAtEnd.recomputeAll.expireAll
  let s2 := allChannels.foldl State.endPassed s1
  (s2.takeOccurrences s2.dueSlots).judgeKeyUp allChannels

def doSetClock (body : Body) (s : State) : Judged :=
  match body with
  | [d1, d0, m3, m2, m1, m0] =>
    if 86399999 < be [m3, m2, m1, m0] then .error .range
    else .ok (s.applyClock (be [d1, d0]) (be [m3, m2, m1, m0]), s.clock.fields)
  | _ => .error .badForm

/-- READ-CLOCK (R7). -/
def doReadClock (body : Body) (s : State) : Judged :=
  onEmpty body (.ok (s, s.clock.fields ++ [.time s.clock.elapsed]))

/-- SET-CLOCK (R5). -/
def execSetClock (body : Body) (s : State) : StepOutcome := commandStep s 0x05 doSetClock body

/-- READ-CLOCK (R7). -/
def execReadClock (body : Body) (s : State) : StepOutcome := commandStep s 0x06 doReadClock body

/-- MIDNIGHT_ROLLOVER (R2); when the running clock is not about to pass midnight, no rollover takes place (R6). -/
def execMidnightRollover (s : State) : StepOutcome :=
  eventStep (if s.clock.beforeMidnight then s.rollover else s)

/-- CLOCK_STOPPED (R3); when the running clock does not stand at its end, it does not stop (R6). -/
def execClockStopped (s : State) : StepOutcome := eventStep s.stopAtEnd

end Sys2Proof.Machine
end

