-- ==== Sys2Proof/Machine/ChannelFamily.lean ====
section
/-! DEFINITION. The commands and events of a channel's Interleaver and Keyer (chapters 7 and 8). -/

namespace Sys2Proof.Machine

/-! ### READ-INTERLEAVER -/

/-- The fields of a HEADER or SEGMENT: handle, message number, r, planned end, cut point (R133). -/
def State.segmentFields (s : State) : Item → List Field
  | .header h _ _ e cut | .segment h _ e cut =>
    [.has 1 h.val, .has 2 (s.desc h).number, .has 2 (s.desc h).resume, .has 2 e, .opt 2 cut]
  | .noItem | .idle | .marker _ _ _ | .relay _ | .bulletin _ _ _ _ _ =>
    [.opt 1 none, .opt 2 none, .opt 2 none, .opt 2 none, .opt 2 none]

/-- The fields of a MARKER: what it closes, a handle or a slot and S, and its purpose (R133, R174). -/
def Item.markerFields : Item → List Field
  | .marker (.message h) p _ => [.has 1 h.val, .opt 1 none, .opt 6 none, .has 1 p.code]
  | .marker (.request slot due _) p _ => [.opt 1 none, .has 1 slot.val, .has 6 due, .has 1 p.code]
  | .noItem | .idle | .header _ _ _ _ _ | .segment _ _ _ _ | .relay _ | .bulletin _ _ _ _ _ =>
    [.opt 1 none, .opt 1 none, .opt 6 none, .opt 1 none]

/-- The fields of a RELAY: handle and r (R133). -/
def State.relayFields (s : State) : Item → List Field
  | .relay h => [.has 1 h.val, .has 2 (s.desc h).resume]
  | .noItem | .idle | .header _ _ _ _ _ | .segment _ _ _ _ | .marker _ _ _ | .bulletin _ _ _ _ _ =>
    [.opt 1 none, .opt 2 none]

/-- The fields of a BULLETIN: slot, S, area, area position, cut point (R133). -/
def Item.bulletinFields : Item → List Field
  | .bulletin slot due a pos cut => [.has 1 slot.val, .has 6 due, .has 1 a.val, .has 2 pos, .opt 2 cut]
  | .noItem | .idle | .header _ _ _ _ _ | .segment _ _ _ _ | .marker _ _ _ | .relay _ =>
    [.opt 1 none, .opt 6 none, .opt 1 none, .opt 2 none, .opt 2 none]

/-- The last fit test record: t, S_n, margin, B, handle, planned end (R118, R133). -/
def fitFields (f : Option FitRecord) : List Field :=
  [.opt 6 (f.map (·.time)), .opt 6 (f.bind (·.nextDue)), .opt 6 ((f.bind (·.margin)).map signed48),
    .opt 6 ((f.bind (·.budget)).map signed48), .optHandle (f.map (·.handle)), .opt 2 (f.bind (·.planned))]

/-- READ-INTERLEAVER (R133). -/
def doReadInterleaver (body : Body) (s : State) : Judged :=
  onChannel body fun c =>
    let ch := s.chan c
    .ok (s, [.num 1 ch.item.code] ++ s.segmentFields ch.item ++ ch.item.markerFields ++ s.relayFields ch.item
      ++ ch.item.bulletinFields
      ++ [.optHandle ch.active, .opt 1 (ch.active.map fun h => (s.desc h).state.code), .has 1 ch.urgentRun,
        .has 1 ch.settings.urgentRun]
      ++ fitFields ch.lastFit)

/-! ### SET-CHANNEL and READ-CHANNEL -/

/-- Every setting lies in its range (section 8.2). -/
def Settings.inRange (x : Settings) : Bool :=
  decide (20 ≤ x.period ∧ x.period ≤ 400) && decide (x.guard ≤ 60000)
    && decide (100 ≤ x.keyUpLimit ∧ x.keyUpLimit ≤ 5000) && decide (x.hangTime ≤ 60000)
    && decide (16 ≤ x.quantum ∧ x.quantum ≤ 512) && decide (1 ≤ x.minSegment ∧ x.minSegment ≤ 512)
    && decide (1 ≤ x.urgentRun ∧ x.urgentRun ≤ 8) && decide (x.ackTimeout ≤ 3600)
    && decide (4 ≤ x.phasingRun ∧ x.phasingRun ≤ 16) && decide (2 ≤ x.copies ∧ x.copies ≤ 4)

/-- The ten settings with the widths of SET-CHANNEL's body (section 10.3), made fields by `f`. -/
def Settings.fieldsWith (f : Nat → Nat → Field) (x : Settings) : List Field :=
  [f 2 x.period, f 2 x.guard, f 2 x.keyUpLimit, f 2 x.hangTime, f 2 x.quantum, f 2 x.minSegment, f 1 x.urgentRun,
    f 2 x.ackTimeout, f 1 x.phasingRun, f 1 x.copies]

/-- SET-CHANNEL (R135). -/
def doSetChannel (body : Body) (s : State) : Judged :=
  match body with
  | [c, p1, p0, g1, g0, k1, k0, t1, t0, q1, q0, m1, m0, n, a1, a0, kk, rc] =>
    let x : Settings := ⟨be [p1, p0], be [g1, g0], be [k1, k0], be [t1, t0], be [q1, q0], be [m1, m0], n.toNat,
      be [a1, a0], kk.toNat, rc.toNat⟩
    match channelOf c with
    | none => .error .range
    | some c =>
      if (s.chan c).state ≠ .offline then .error .state
      else if !x.inRange then .error .range
      else .ok (s.modChan c fun ch => { ch with settings := x }, .channel c :: x.fieldsWith .num)
  | _ => .error .badForm

/-- READ-CHANNEL's reply: the state decides which of the last three fields are present (R136, R174). -/
def State.channelFields (s : State) (c : ChannelNo) : List Field :=
  let ch := s.chan c
  [.num 1 ch.state.code, .has 1 (s.keyRequest c).toNat, .has 1 ch.ready.toNat, .has 1 ch.lineCase.code]
    ++ ch.settings.fieldsWith .has
    ++ [.opt 6 (if ch.state = .keyUp then some (s.clock.elapsed - ch.keyRise) else none),
      .opt 6 (if ch.state = .onAir then some (if ch.item = .idle then s.idleRun c else 0) else none),
      .opt 1 (if ch.state = .faulted then ch.faultReason.map FaultReason.code else none)]

/-- READ-CHANNEL (R136). -/
def doReadChannel (body : Body) (s : State) : Judged := onChannel body fun c => .ok (s, s.channelFields c)

/-! ### OPEN-CHANNEL, RESTORE, CLOSE-CHANNEL, RESET-CHANNEL -/

/-- R137: STANDBY, the watch in HUNT, the key-up causes judged. -/
def State.openPort (s : State) (c : ChannelNo) : State :=
  (s.modChan c fun ch => { ch with state := .standby, parser := Parser.reset }).judgeKeyUp [c]

/-- OPEN-CHANNEL (R137). -/
def doOpenChannel (body : Body) (s : State) : Judged :=
  onChannel body fun c =>
    if (s.chan c).state = .offline then .ok (s.openPort c, [.channel c, .num 1 ChanState.standby.code]) else .error .state

/-- R143: STANDBY, the fault reason absent, the key-up causes judged. -/
def State.restorePort (s : State) (c : ChannelNo) : State :=
  (s.modChan c fun ch => { ch with state := .standby, faultReason := none }).judgeKeyUp [c]

/-- RESTORE (R143). -/
def doRestore (body : Body) (s : State) : Judged :=
  onChannel body fun c =>
    if (s.chan c).state = .faulted ∧ (s.chan c).ready = true then
      .ok (s.restorePort c, [.channel c, .num 1 ChanState.standby.code])
    else .error .state

/-- CLOSE-CHANNEL by the channel's state (R144, R128). -/
def State.closePort (s : State) (c : ChannelNo) : State :=
  match (s.chan c).state with
  | .offline | .closing => s
  | .standby | .keyUp | .faulted => s.reachOffline c
  | .onAir => (s.modChan c fun ch => { ch with state := .closing }).cutTelex c

/-- CLOSE-CHANNEL (R144). -/
def doCloseChannel (body : Body) (s : State) : Judged :=
  onChannel body fun c =>
    let t := s.closePort c
    .ok (t, [.channel c, .num 1 (t.chan c).state.code])

/-- The reply of RESET-CHANNEL (R146): the handle and r of a message and the handle of a relay are optional fields, absent
when none is returned (DEDUCED, notes/assumptions/11.md). -/
def State.resetFields (s : State) (c : ChannelNo) : List Field :=
  let ch := s.chan c
  [.channel c, .num 1 ch.state.code, .optHandle ch.active, .opt 2 (ch.active.map fun h => (s.desc h).resume),
    .optHandle ch.item.relayHandle, .num 1 ch.requests.length]

/-- RESET-CHANNEL (R146). -/
def doResetChannel (body : Body) (s : State) : Judged := onChannel body fun c => .ok (s.resetPort c, s.resetFields c)

/-! ### Statistics -/

/-- The counts of R147 in its order. -/
def Stats.fields (t : Stats) : List Field :=
  [.num 4 t.lineSymbols, .num 4 t.shifts, .num 4 t.idles, .num 4 t.segments, .num 4 t.markers, .num 4 t.done255,
    .num 4 t.done1023, .num 4 t.done4095, .num 4 t.done8192, .num 4 t.onTime, .num 4 t.late, .num 4 t.restarted,
    .num 4 t.missed, .num 4 t.interrupted, .num 4 t.noText, .num 1 t.overrun]

/-- READ-STATS (R148). -/
def doReadStats (body : Body) (s : State) : Judged := onChannel body fun c => .ok (s, (s.chan c).stats.fields)

/-- CLEAR-STATS (R148). -/
def doClearStats (body : Body) (s : State) : Judged :=
  onChannel body fun c => .ok (s.modStats c fun _ => Stats.reset, (s.chan c).stats.fields)

/-- READ-INTERLEAVER (R133). -/
def execReadInterleaver (body : Body) (s : State) : StepOutcome := commandStep s 0x1C doReadInterleaver body

/-- OPEN-CHANNEL (R137). -/
def execOpenChannel (body : Body) (s : State) : StepOutcome := commandStep s 0x1D doOpenChannel body

/-- SET-CHANNEL (R135). -/
def execSetChannel (body : Body) (s : State) : StepOutcome := commandStep s 0x1E doSetChannel body

/-- READ-CHANNEL (R136). -/
def execReadChannel (body : Body) (s : State) : StepOutcome := commandStep s 0x1F doReadChannel body

/-- RESTORE (R143). -/
def execRestore (body : Body) (s : State) : StepOutcome := commandStep s 0x20 doRestore body

/-- CLOSE-CHANNEL (R144). -/
def execCloseChannel (body : Body) (s : State) : StepOutcome := commandStep s 0x21 doCloseChannel body

/-- RESET-CHANNEL (R146). -/
def execResetChannel (body : Body) (s : State) : StepOutcome := commandStep s 0x22 doResetChannel body

/-- READ-STATS (R148). -/
def execReadStats (body : Body) (s : State) : StepOutcome := commandStep s 0x23 doReadStats body

/-- CLEAR-STATS (R148). -/
def execClearStats (body : Body) (s : State) : StepOutcome := commandStep s 0x24 doClearStats body

/-! ### Events -/

/-- The key-up limit has run out in KEY-UP (R139). -/
def State.keyUpOverdue (s : State) (c : ChannelNo) : Bool :=
  decide ((s.chan c).state = .keyUp) && decide ((s.chan c).keyRise + (s.chan c).settings.keyUpLimit ≤ s.clock.elapsed)

/-- KEY_UP_LIMIT (R139); a limit that has not run out, or finds another state, has no effect (R146). -/
def execKeyUpLimit (c : ChannelNo) (s : State) : StepOutcome :=
  eventStep (if s.keyUpOverdue c then s.faultChannel c .keyUpFailed else s)

/-- Ready arrives in time (R139): in KEY-UP, no later than the millisecond in which the limit runs out. -/
def State.readyInTime (s : State) (c : ChannelNo) : Bool :=
  decide ((s.chan c).state = .keyUp) && decide (s.clock.elapsed ≤ (s.chan c).keyRise + (s.chan c).settings.keyUpLimit)

def State.setReady (s : State) (c : ChannelNo) (ready : Bool) : State := s.modChan c fun ch => { ch with ready := ready }

/-- TRANSMITTER_READY_ARRIVES (R139): in KEY-UP the channel enters ON-AIR; in any other state the level alone changes
(R134). Requests its first decision point places on other channels are key-up causes there (R92, R138). -/
def execTransmitterReadyArrives (c : ChannelNo) (s : State) : StepOutcome :=
  let s1 := s.setReady c true
  eventStep (if s1.readyInTime c then (s1.enterOnAir c).judgeKeyUp (s1.decisionTouches c) else s1)

/-- TRANSMITTER_READY_DROPS (R141): a keyed channel is FAULTED; in any other state the level alone changes (R134,
R139). -/
def execTransmitterReadyDrops (c : ChannelNo) (s : State) : StepOutcome :=
  let s1 := s.setReady c false
  eventStep (if (s.chan c).state.keyed then s1.faultChannel c .transmitterDropped else s1)

/-- The character period of a keyed channel has ended (R18, R8). -/
def State.symbolDue (s : State) (c : ChannelNo) : Bool :=
  (s.chan c).state.keyed && decide ((s.chan c).item ≠ .noItem) && decide ((s.chan c).symbolEnd ≤ s.clock.elapsed)

/-- The channels whose key-up causes a completed symbol may change: the channel itself, when it is STANDBY after it, and
those that a decision point it reached gave requests to. -/
def State.symbolTouches (s t : State) (c : ChannelNo) : List ChannelNo :=
  allChannels.filter fun d => decide ((s.chan d).requests ≠ (t.chan d).requests) || decide (d = c)

/-- LINE_SYMBOL_COMPLETES (R18); a period that has not ended completes no symbol. -/
def execLineSymbolCompletes (c : ChannelNo) (s : State) : StepOutcome :=
  eventStep
    (if s.symbolDue c then
      let t := s.symbolCompletes c
      t.judgeKeyUp (s.symbolTouches t c)
    else s)

end Sys2Proof.Machine
end

