-- ==== Sys2Proof/Machine/StoreFamily.lean ====
section
/-! DEFINITION. The commands of the Text Store (chapter 3). -/

namespace Sys2Proof.Machine

/-! ### SET-SPLIT -/

/-- A descriptor holds pool blocks (R27). -/
def State.anyChain (s : State) : Bool := s.descs.toList.any fun d => !d.chain.isEmpty

/-- An area is not UNDEFINED (R27). -/
def State.anyArea (s : State) : Bool := s.store.areas.toList.any fun a => decide (a.state ≠ .undefined)

/-- The sum of the eight reserves. -/
def State.reserveSum (s : State) : Nat := (allChannels.map fun c => (s.chan c).reserve).sum

/-- R28: the split, the free list rebuilt, the caps lowered. -/
def State.applySplit (s : State) (nb : Nat) : State :=
  { s with
    store := { s.store with split := nb, free := poolBlocks nb }
    channels := s.channels.map fun ch => { ch with cap := min ch.cap (Config.blocks - nb) } }

/-- SET-SPLIT (R27, R28). -/
def doSetSplit (body : Body) (s : State) : Judged :=
  match body with
  | [n1, n0] =>
    let nb := be [n1, n0]
    if 512 < nb then .error .range
    else if s.anyArea || s.loadUnit.current.isSome || s.anyChain then .error .state
    else if Config.blocks - nb < s.reserveSum then .error .range
    else
      let t := s.applySplit nb
      .ok (t, [.num 2 nb, .num 2 t.poolSize] ++ allChannels.map fun c => .num 2 (t.chan c).cap)
  | _ => .error .badForm

/-! ### Areas -/

/-- The area is the target of the open load (R30, R31). -/
def State.isLoading (s : State) (a : AreaNo) : Bool :=
  match s.loadUnit.current with
  | some l => decide (l.target = .bulletin a)
  | none => false

/-- An area is locked while it is keyed or loaded (R30, R31, R33). -/
def State.areaBusy (s : State) (a : AreaNo) : Bool :=
  decide (0 < (s.area a).onAir) || s.isLoading a

/-- A block of the range lies in another area that is not UNDEFINED (R30). -/
def State.overlaps (s : State) (a : AreaNo) (first last : Nat) : Bool :=
  (List.finRange 32).any fun b =>
    decide (b ≠ a) && decide ((s.area b).state ≠ .undefined) && decide ((s.area b).first ≤ last)
      && decide (first ≤ (s.area b).last)

/-- The largest number of blocks in an area (section 3.2). -/
def maxAreaBlocks : Nat := 256

/-- DEFINE-AREA (R30). -/
def doDefineArea (body : Body) (s : State) : Judged :=
  match body with
  | [a, f1, f0, l1, l0] =>
    let first := be [f1, f0]
    let last := be [l1, l0]
    match areaOf a with
    | none => .error .range
    | some a =>
      if s.store.split ≤ first ∨ s.store.split ≤ last ∨ last < first ∨ maxAreaBlocks < last - first + 1 then
        .error .range
      else if s.areaBusy a then .error .busy
      else if s.overlaps a first last then .error .overlap
      else
        let cap := (last - first + 1) * Config.blockCells
        .ok (s.setArea a ⟨.empty, first, last, cap, 0, 0⟩, [.num 1 a.val, .num 2 cap])
  | _ => .error .badForm

/-- CLEAR-AREA (R31). -/
def doClearArea (body : Body) (s : State) : Judged :=
  match body with
  | [a] =>
    match areaOf a with
    | none => .error .range
    | some a => if s.areaBusy a then .error .busy else .ok (s.setArea a Area.reset, [.num 1 a.val])
  | _ => .error .badForm

/-! ### Allowances -/

/-- The reserves of the seven other channels. -/
def State.otherReserves (s : State) (c : ChannelNo) : Nat :=
  (allChannels.map fun d => if d = c then 0 else (s.chan d).reserve).sum

/-- R40: the reserve and the cap, then a waiting grant judged again (R42). -/
def State.applyAllowance (s : State) (c : ChannelNo) (reserve cap : Nat) : State :=
  (s.modChan c fun ch => { ch with reserve := reserve, cap := cap }).rejudgeGrant

/-- SET-ALLOWANCE (R40). -/
def doSetAllowance (body : Body) (s : State) : Judged :=
  match body with
  | [c, r1, r0, k1, k0] =>
    let reserve := be [r1, r0]
    let cap := be [k1, k0]
    match channelOf c with
    | none => .error .range
    | some c =>
      if cap < reserve ∨ s.poolSize < cap ∨ s.poolSize < reserve + s.otherReserves c then .error .range
      else .ok (s.applyAllowance c reserve cap, [.channel c, .num 2 reserve, .num 2 cap, .num 2 (s.use c)])
  | _ => .error .badForm

/-! ### READ-STORE -/

def Area.fields (a : Area) : List Field :=
  [.num 2 a.first, .num 2 a.last, .num 2 a.capacity, .num 2 a.length, .num 1 a.state.code, .num 1 a.onAir]

/-- READ-STORE (R43). -/
def doReadStore (body : Body) (s : State) : Judged :=
  onEmpty body (.ok (s, [.num 2 s.store.split, .num 2 s.poolSize, .num 2 s.freeCount]
    ++ allChannels.flatMap (fun c => [.num 2 (s.chan c).reserve, .num 2 (s.chan c).cap, .num 2 (s.use c)])
    ++ s.store.areas.toList.flatMap Area.fields))

/-- SET-SPLIT (R27, R28). -/
def execSetSplit (body : Body) (s : State) : StepOutcome := commandStep s 0x07 doSetSplit body

/-- DEFINE-AREA (R30). -/
def execDefineArea (body : Body) (s : State) : StepOutcome := commandStep s 0x08 doDefineArea body

/-- CLEAR-AREA (R31). -/
def execClearArea (body : Body) (s : State) : StepOutcome := commandStep s 0x09 doClearArea body

/-- SET-ALLOWANCE (R40). -/
def execSetAllowance (body : Body) (s : State) : StepOutcome := commandStep s 0x0A doSetAllowance body

/-- READ-STORE (R43). -/
def execReadStore (body : Body) (s : State) : StepOutcome := commandStep s 0x0B doReadStore body

end Sys2Proof.Machine
end

