-- ==== Sys2Proof/Machine/LoadFamily.lean ====
section
/-! DEFINITION. The commands of the Load Unit (chapter 4). -/

namespace Sys2Proof.Machine

/-! ### SET-LOAD-GRAIN -/

/-- R45: the grain, then a waiting grant judged again with it. -/
def State.applyGrain (s : State) (g : Nat) : State :=
  { s with loadUnit := { s.loadUnit with grain := g } }.rejudgeGrant

/-- SET-LOAD-GRAIN (R45). -/
def doSetLoadGrain (body : Body) (s : State) : Judged :=
  match body with
  | [g1, g0] =>
    let g := be [g1, g0]
    if g = 64 ∨ g = 128 ∨ g = 256 then .ok (s.applyGrain g, [.num 2 g]) else .error .range
  | _ => .error .badForm

/-! ### DECLARE-MESSAGE -/

/-- The fields of DECLARE-MESSAGE (section 4.2). -/
structure Declaration where
  channel : Option ChannelNo
  number : Nat
  dest : Nat
  cls : MsgClass
  length : Nat
  expiry : Option (Nat × Nat)
  confirm : Bool
deriving DecidableEq, Repr

/-- The largest text of a telex message (section 4.1). -/
def maxMessage : Nat := 8192

/-- The fields of a 17-byte body; none when a class, a presence byte or a flag lies outside its encoding (R174 step 3). -/
def declarationOf (c n1 n0 d2 d1 d0 k l1 l0 p e1 e0 m3 m2 m1 m0 f : Byte) : Option Declaration :=
  match classOf k, flagOf p, flagOf f with
  | some cls, some present, some confirm =>
    some ⟨channelOf c, be [n1, n0], be [d2, d1, d0], cls, be [l1, l0],
      if present then some (be [e1, e0], be [m3, m2, m1, m0]) else none, confirm⟩
  | _, _, _ => none

/-- Order 1 of R46, the channel apart. -/
def Declaration.inRange (d : Declaration) : Bool :=
  decide (d.number ≠ 0) && decide (d.dest ≤ 99999) && decide (d.length ≠ 0)
    && match d.expiry with
      | some e => decide (e.2 ≤ 86399999)
      | none => true

/-- A descriptor that is not FREE has the same channel and message number (R46). -/
def State.duplicate (s : State) (c : ChannelNo) (number : Nat) : Bool :=
  s.descs.toList.any fun d => decide (d.state ≠ .free) && decide (d.channel = c) && decide (d.number = number)

/-- The FREE descriptor with the lowest handle (R47). -/
def State.lowestFree (s : State) : Option Handle := (List.finRange 256).find? fun h => decide ((s.desc h).state = .free)

/-- The descriptor at declaration (R47); its chain, empty while it is FREE (R61), stays empty before the first grant. -/
def Declaration.descriptor (d : Declaration) (c : ChannelNo) (old : Descriptor) : Descriptor :=
  { Descriptor.reset with
    state := .loading
    channel := c
    number := d.number
    dest := d.dest
    cls := d.cls
    chain := old.chain
    confirm := d.confirm && decide (d.cls ≠ .relay)
    expiry := d.expiry.map fun e => e.1 * Config.dayMs + e.2
    truncated := decide (maxMessage < d.length) }

/-- The load record at declaration (R47). -/
def Declaration.load (d : Declaration) (h : Handle) (c : ChannelNo) : OpenLoad :=
  ⟨.telex h c, min d.length maxMessage, 0, 0, 0, 0, 0, decide (maxMessage < d.length), false⟩

/-- R47: the descriptor filled, the load opened, the first grant judged, without a CREDIT notice. -/
def State.applyDeclare (s : State) (d : Declaration) (h : Handle) (c : ChannelNo) : State :=
  ((s.modDesc h (d.descriptor c)).setLoad (some (d.load h c))).judgeGrant false

/-- The outstanding credit of the open load; 0 when none is open. -/
def State.credit (s : State) : Nat :=
  match s.loadUnit.current with
  | some l => l.outstanding
  | none => 0

/-- Judges a declaration by R46 and acts by R47. -/
def State.declare (s : State) (d : Declaration) : Judged :=
  match d.channel with
  | none => .error .range
  | some c =>
    if !d.inRange then .error .range
    else if s.loadUnit.current.isSome then .error .loadOpen
    else if d.expiry.isSome && !s.clock.isSet then .error .clockUnset
    else if s.duplicate c d.number then .error .duplicate
    else
      match s.lowestFree with
      | none => .error .tableFull
      | some h =>
        let t := s.applyDeclare d h c
        .ok (t, [.handle h, .num 2 (min d.length maxMessage), .num 2 t.credit])

/-- DECLARE-MESSAGE (R46, R47). -/
def doDeclareMessage (body : Body) (s : State) : Judged :=
  match body with
  | [c, n1, n0, d2, d1, d0, k, l1, l0, p, e1, e0, m3, m2, m1, m0, f] =>
    match declarationOf c n1 n0 d2 d1 d0 k l1 l0 p e1 e0 m3 m2 m1 m0 f with
    | some d => s.declare d
    | none => .error .range
  | _ => .error .badForm

/-! ### OPEN-BULLETIN -/

/-- R49: the area LOADING, the whole clamped length granted. -/
def State.applyOpen (s : State) (a : AreaNo) (n : Nat) : State :=
  let lc := min n (s.area a).capacity
  (s.setArea a { s.area a with state := .loading, length := 0 }).setLoad
    (some ⟨.bulletin a, lc, 0, lc, 0, 0, 0, decide ((s.area a).capacity < n), false⟩)

/-- OPEN-BULLETIN (R48, R49). -/
def doOpenBulletin (body : Body) (s : State) : Judged :=
  match body with
  | [a, n1, n0] =>
    let n := be [n1, n0]
    match areaOf a with
    | none => .error .range
    | some a =>
      if n = 0 then .error .range
      else if s.loadUnit.current.isSome then .error .loadOpen
      else if (s.area a).state = .undefined then .error .state
      else if 0 < (s.area a).onAir then .error .busy
      else
        let lc := min n (s.area a).capacity
        .ok (s.applyOpen a n, [.num 1 a.val, .num 2 lc, .num 2 lc, .flag (decide ((s.area a).capacity < n))])
  | _ => .error .badForm

/-! ### TEXT -/

/-- Cleans and stores some symbols (R16, R54 step 1): the cells and the stored length after them. `address` gives the
cell of each index of the target. -/
def storeText (address : Nat → Nat) : Memory → Nat → List Byte → Memory × Nat
  | m, n, [] => (m, n)
  | m, n, b :: bs =>
    match cleaned b.toNat with
    | some y => storeText address (m.write (address n) (BitVec.ofNat 8 y)) (n + 1) bs
    | none => storeText address m n bs

/-- The cell of index i of the load's target (R32, R36). -/
def State.targetAddress (s : State) (t : LoadTarget) (i : Nat) : Nat :=
  match t with
  | .telex h _ => chainAddress (s.desc h).chain i
  | .bulletin a => areaAddress (s.area a).first i

/-- The load record after a TEXT of some symbols is taken (R54 steps 1 and 2). -/
def OpenLoad.after (l : OpenLoad) (stored : Nat) (bs : List Byte) : OpenLoad :=
  { l with
    received := l.received + bs.length
    outstanding := l.outstanding - bs.length
    stored := stored
    stripped := l.stripped + bs.countP fun b => isStripped b.toNat
    substituted := l.substituted + bs.countP fun b => isSubstituted b.toNat }

/-- The target's own length and counts follow the load (R54 steps 1 and 2). -/
def State.followLoad (s : State) (l : OpenLoad) : State :=
  match l.target with
  | .telex h _ =>
    s.modDesc h fun d => { d with length := l.stored, stripped := l.stripped, substituted := l.substituted }
  | .bulletin a => s.setArea a { s.area a with length := l.stored }

/-- R54 steps 1 and 2: a TEXT is taken into the open load. -/
def State.takeText (s : State) (l : OpenLoad) (bs : List Byte) : State :=
  let r := storeText (s.targetAddress l.target) s.store.cells l.stored bs
  let l1 := l.after r.2 bs
  ({ s with store := { s.store with cells := r.1 } }.setLoad (some l1)).followLoad l1

/-- The LOAD notice (R58); outcome 0 QUEUED, 1 EMPTY, 2 AREA-READY, 3 AREA-EMPTY. -/
def State.loadNotice (s : State) (l : OpenLoad) (outcome : Nat) (number : Nat) : State :=
  let tail : List Field :=
    [.num 2 l.clamped, .num 2 l.stored, .num 2 l.stripped, .num 2 l.substituted, .flag l.truncated]
  match l.target with
  | .telex h c => s.emit .load (some c) ([.num 1 outcome, .optHandle (some h), .opt 1 none, .opt 2 (some number)] ++ tail)
  | .bulletin a => s.emit .load none ([.num 1 outcome, .optHandle none, .opt 1 (some a.val), .opt 2 none] ++ tail)

/-- Trailing blocks beyond ceil(L / 64) go back to the free list (R38, R55 step 1). -/
def State.trimChain (s : State) (h : Handle) : State :=
  let n := ceilDiv (s.desc h).length Config.blockCells
  (s.returnBlocks ((s.desc h).chain.drop n)).modDesc h fun d => { d with chain := d.chain.take n }

/-- The message is READY at the tail of its class queue (R55 step 2). -/
def State.toTail (s : State) (h : Handle) : State :=
  let d := s.desc h
  (s.modDesc h fun d => { d with state := .ready, resume := 0 }).modChan d.channel fun ch =>
    ch.setQueue d.cls (ch.queue d.cls ++ [h])

/-- A telex load completes with text (R55): the READY message, the LOAD notice, a relay's cut request (R126, R127), an
expiry that has already passed (R75), and the key-up causes (R138). The order is DEDUCED, notes/assumptions/16.md. -/
def State.completeTelex (s : State) (l : OpenLoad) (h : Handle) (c : ChannelNo) : State :=
  let s1 := (((s.trimChain h).toTail h).setLoad none).loadNotice l 0 (s.desc h).number
  let s2 := if (s.desc h).cls = .relay then s1.relayReady c else s1
  let s3 := if s2.expired h then s2.expire h else s2
  s3.judgeKeyUp [c]

/-- A load completes (R55, R56, R57). -/
def State.completeLoad (s : State) (l : OpenLoad) : State :=
  match l.target with
  | .telex h c =>
    if 0 < l.stored then s.completeTelex l h c
    else ((s.freeMessage h).setLoad none).loadNotice l 1 (s.desc h).number
  | .bulletin a =>
    if 0 < l.stored then ((s.setArea a { s.area a with state := .ready }).setLoad none).loadNotice l 2 0
    else ((s.setArea a { s.area a with state := .empty }).setLoad none).loadNotice l 3 0

/-- R54 step 4: completion, the next grant, or the next TEXT. -/
def State.afterText (s : State) : State :=
  match s.loadUnit.current with
  | none => s
  | some l =>
    if l.received = l.clamped then s.completeLoad l
    else if l.outstanding = 0 then s.judgeGrant true
    else s

/-- TEXT (R53, R54): 1 to 256 symbols. -/
def doText (body : Body) (s : State) : Judged :=
  if body.length = 0 ∨ 256 < body.length then .error .badForm
  else
    match s.loadUnit.current with
    | none => .error .noLoad
    | some l =>
      if l.outstanding < body.length then .error .overCredit
      else
        let t := s.takeText l body
        let r := storeText (s.targetAddress l.target) s.store.cells l.stored body
        let l1 := l.after r.2 body
        .ok (t.afterText, [.num 2 l1.received, .num 2 l1.outstanding, .num 2 l1.stored])

/-! ### ABANDON-LOAD -/

/-- R59: the target freed or emptied, the record emptied. The return of the chain finds no load to judge. -/
def State.abandon (s : State) (l : OpenLoad) : State :=
  match l.target with
  | .telex h _ => (s.setLoad none).freeSilent h
  | .bulletin a => (s.setArea a { s.area a with state := .empty, length := 0 }).setLoad none

/-- The reply of ABANDON-LOAD; target kind 1 TELEX, 2 BULLETIN (R59, R174; DEDUCED, notes/assumptions/10.md). -/
def OpenLoad.abandonFields (l : OpenLoad) : List Field :=
  (match l.target with
    | .telex h _ => [.num 1 1, .optHandle (some h), .opt 1 none]
    | .bulletin a => [.num 1 2, .optHandle none, .opt 1 (some a.val)])
    ++ [.has 2 l.received, .has 2 l.stored, .has 2 l.stripped, .has 2 l.substituted]

/-- ABANDON-LOAD (R59). -/
def doAbandonLoad (body : Body) (s : State) : Judged :=
  onEmpty body
    (match s.loadUnit.current with
      | none => .error .noLoad
      | some l => .ok (s.abandon l, l.abandonFields))

/-- SET-LOAD-GRAIN (R45). -/
def execSetLoadGrain (body : Body) (s : State) : StepOutcome := commandStep s 0x0C doSetLoadGrain body

/-- DECLARE-MESSAGE (R46, R47). -/
def execDeclareMessage (body : Body) (s : State) : StepOutcome := commandStep s 0x0D doDeclareMessage body

/-- OPEN-BULLETIN (R48, R49). -/
def execOpenBulletin (body : Body) (s : State) : StepOutcome := commandStep s 0x0E doOpenBulletin body

/-- TEXT (R53, R54). -/
def execText (body : Body) (s : State) : StepOutcome := commandStep s 0x0F doText body

/-- ABANDON-LOAD (R59). -/
def execAbandonLoad (body : Body) (s : State) : StepOutcome := commandStep s 0x10 doAbandonLoad body

end Sys2Proof.Machine
end

