-- ==== Sys2Proof/Machine/WatchOps.lean ====
section
/-! DEFINITION. The Receive Watch's operations (chapter 9): the call parser, recognition, the hold table, the delivery of
acknowledgements and repeat requests (section 5.5), pattern watches and the capture latch. -/

namespace Sys2Proof.Machine

def State.modParser (s : State) (c : ChannelNo) (f : Parser → Parser) : State :=
  s.modChan c fun ch => { ch with parser := f ch.parser }

/-! ### Recognising the body (section 9.3) -/

/-- A figures digit (codes 33 to 42). -/
def isDigitCode (y : Nat) : Bool := decide (33 ≤ y) && decide (y ≤ 42)

/-- The decimal number some figures digits spell. -/
def decimal (ys : List Nat) : Nat := ys.foldl (fun acc y => acc * 10 + (y - 33)) 0

/-- An ending: the end of the body, a SPACE or a CR. -/
def endsForm : List Nat → Bool
  | [] => true
  | y :: _ => y == symSpace || y == symCR

/-- The digits of a form after its two opening letters, if they number between `lo` and `hi` and an ending follows. -/
def formDigits (lo hi : Nat) (rest : List Nat) : Option Nat :=
  let ds := rest.takeWhile isDigitCode
  if decide (lo ≤ ds.length) && decide (ds.length ≤ hi) && endsForm (rest.drop ds.length) then some (decimal ds) else none

/-- What an undamaged body asks for (section 9.3, the three forms). -/
inductive Call | hold (seconds : Nat) | deliver (form : CallForm) (number : Nat)
deriving DecidableEq, Repr

/-- The form of a body: H, H and 1 to 3 digits; K, K and 5 digits; R, R and 5 digits. -/
def callForm : List Nat → Option Call
  | x :: y :: rest =>
    if x = symLetter 7 ∧ y = symLetter 7 then (formDigits 1 3 rest).map .hold
    else if x = symLetter 10 ∧ y = symLetter 10 then (formDigits 5 5 rest).map (.deliver .ack)
    else if x = symLetter 17 ∧ y = symLetter 17 then (formDigits 5 5 rest).map (.deliver .repeat)
    else none
  | _ => none

/-! ### Pattern watches (section 9.4) -/

/-- A pattern matches a body (R160). -/
def Pattern.fits (p : Pattern) (body : List Nat) : Bool :=
  decide (p.minLength ≤ body.length)
    && (List.range p.values.length).all fun i =>
      match p.values[i]? with
      | some (y, true) => decide (body[i]? = some y)
      | _ => true

/-- The first watch, in order 0 to 3, that is SET, names the channel and matches (R160). -/
def State.firstMatch (s : State) (c : ChannelNo) (body : List Nat) : Option WatchNo :=
  (List.finRange 4).find? fun w =>
    match s.watch w with
    | some p => inSet p.channels c && p.fits body
    | none => false

/-! ### The capture latch (section 9.5) -/

/-- The largest number of body symbols a capture record keeps. -/
def captureSymbols : Nat := 48

/-- A call that is neither hold nor delivered is captured, or lost at a full latch (R157 steps 3 and 4, R161). -/
def State.capture (s : State) (c : ChannelNo) (p : Parser) : State :=
  if (s.chan c).latch.isSome then s.modRx c fun r => { r with capturesLost := satSucc max8 r.capturesLost }
  else
    let rec' : Capture :=
      ⟨s.firstMatch c p.body, p.ident, s.now, p.body.length, p.body.take captureSymbols, p.damaged⟩
    let s1 := s.modChan c fun ch => { ch with latch := some rec', rx := { ch.rx with latched := satSucc max32 ch.rx.latched } }
    s1.emit .capture (some c)
      [.num 1 (rec'.pattern.elim 4 Fin.val), .ship rec'.ident, .num 2 rec'.bodyLength, .flag rec'.damaged]

/-! ### The hold table (section 9.6) -/

/-- The largest number of records in a hold table (R163). -/
def holdPlaces : Nat := 8

/-- The HOLD notice (R164, R169). -/
def State.holdNotice (s : State) (c : ChannelNo) (ship n : Nat) (st : HoldState) (reloaded : Bool) : State :=
  s.emit .hold (some c) [.ship ship, .num 2 n, .num 1 st.code, .flag reloaded]

/-- Removes a ship's record; each removal has the key-up causes judged (R163). -/
def State.dropHold (s : State) (c : ChannelNo) (ship : Nat) : State :=
  s.modChan c fun ch => { ch with holds := ch.holds.filter (·.ship ≠ ship) }

/-- The HOLD-ENDED notice; cause 0 SHIP, 1 EXPIRED (R166, R169). -/
def State.holdEnded (s : State) (c : ChannelNo) (ship cause : Nat) : State :=
  s.emit .holdEnded (some c) [.ship ship, .num 1 cause]

def State.countHold (s : State) (c : ChannelNo) : State :=
  s.modRx c fun r => { r with holdsTaken := satSucc max32 r.holdsTaken }

/-- A reload replaces the count in force (R164); the field that has no meaning in the record's state stays
(notes/assumptions/5.md). -/
def Hold.reload (r : Hold) (n elapsed : Nat) : Hold :=
  match r.state with
  | .running => { r with endsAt := elapsed + n * 1000 }
  | .pending => { r with count := n }

/-- A new record: PENDING when a segment to the ship is in progress, RUNNING otherwise (R164). The count of a RUNNING
record, which has no meaning, stands at n (DESIGN CHOICE, notes/assumptions/5.md). -/
def State.newHold (s : State) (c : ChannelNo) (ship n : Nat) : Hold :=
  if s.segmentShip c = some ship then ⟨ship, .pending, n, 0⟩ else ⟨ship, .running, n, s.clock.elapsed + n * 1000⟩

/-- A recognised HOLD (R164, R166). One that finds the table full is no hold taken (R164; DEDUCED,
notes/assumptions/17.md). A new record goes to the end of the table and a reloaded one keeps its place (DESIGN CHOICE,
notes/assumptions/26.md). The HOLD or HOLD-ENDED notice stands before those of a key-up that follows from it (DESIGN
CHOICE, notes/assumptions/8.md). -/
def State.holdCall (s : State) (c : ChannelNo) (ship n : Nat) : State :=
  let ch := s.chan c
  match ch.holds.find? (·.ship == ship) with
  | some r =>
    if n = 0 then (((s.countHold c).dropHold c ship).holdEnded c ship 0).judgeKeyUp [c]
    else
      let s1 := (s.countHold c).modChan c fun ch =>
        { ch with holds := ch.holds.map fun r => if r.ship = ship then r.reload n s.clock.elapsed else r }
      s1.holdNotice c ship n r.state true
  | none =>
    if n = 0 then s.countHold c
    else if ch.holds.length < holdPlaces then
      let r := s.newHold c ship n
      let s1 := (s.countHold c).modChan c fun ch => { ch with holds := ch.holds ++ [r] }
      (s1.holdNotice c ship n r.state false).judgeKeyUp [c]
    else
      (s.modRx c fun r => { r with holdsLost := satSucc max16 r.holdsLost }).emit .holdLost (some c)
        [.ship ship, .num 2 n]

/-! ### Acknowledgements and repeat requests (sections 5.5 and 9.3) -/

/-- The message of the channel's sent list that a call matches (R71). -/
def State.matchSent (s : State) (c : ChannelNo) (ship number : Nat) : Option Handle :=
  (s.chan c).sent.find? fun h =>
    let d := s.desc h
    (decide (d.state = .awaitAck) || decide (d.state = .unconfirmed)) && decide (d.number = number)
      && decide (d.dest = ship)

/-- The fields of ACKED, ACKED-LATE and UNCONFIRMED notices after the first three (R81). -/
def Descriptor.sentFields (d : Descriptor) : List Field := [.num 1 d.repeats, .time (d.doneTime.getD 0)]

/-- A matched ACK frees the message (R72). -/
def State.ackMessage (s : State) (h : Handle) : State :=
  s.freeWith h (if (s.desc h).state = .unconfirmed then .ackedLate else .acked) (s.desc h).sentFields

/-- The largest number of repeats made at ships' requests (R73). -/
def maxRepeats : Nat := 3

/-- A matched REPEAT is acted on below the limit, and refused at it (R73). -/
def State.repeatMessage (s : State) (c : ChannelNo) (h : Handle) : State :=
  let d := s.desc h
  if d.repeats < maxRepeats then
    let s1 := (s.requeueReady h).modDesc h fun d => { d with repeats := d.repeats + 1 }
    (s1.emit .repeated (some c) (s.messageFields h ++ [.num 1 (d.repeats + 1)])).judgeKeyUp [c]
  else s.emit .repeatRefused (some c) (s.messageFields h ++ [.num 1 d.repeats, .num 1 d.state.code])

/-- A call that matches no message (R158). -/
def State.unmatchedCall (s : State) (c : ChannelNo) (f : CallForm) (ship number : Nat) : State :=
  (s.modRx c fun r => { r with unmatched := satSucc max32 r.unmatched }).emit .unmatched (some c)
    [.num 1 f.code, .ship ship, .num 3 number]

/-- A recognised ACK or REPEAT (R158). -/
def State.deliverCall (s : State) (c : ChannelNo) (f : CallForm) (ship number : Nat) : State :=
  if number = 0 ∨ 65535 < number then s.unmatchedCall c f ship number
  else
    match s.matchSent c ship number with
    | none => s.unmatchedCall c f ship number
    | some h =>
      match f with
      | .ack => (s.ackMessage h).modRx c fun r => { r with acksMatched := satSucc max32 r.acksMatched }
      | .repeat =>
        (s.repeatMessage c h).modRx c fun r => { r with repeatsMatched := satSucc max32 r.repeatsMatched }

/-- Recognition at a body's end (R157). -/
def State.recognise (s : State) (c : ChannelNo) (p : Parser) : State :=
  match (if p.damaged then none else callForm p.body) with
  | some (.hold n) => s.holdCall c p.ident n
  | some (.deliver f n) => s.deliverCall c f p.ident n
  | none => s.capture c p

/-! ### The call parser (section 9.2) -/

/-- A run of one PHASING symbol (R153). -/
def Parser.newRun (_p : Parser) : Parser := { Parser.reset with state := .phasing, run := 1 }

/-- HUNT with run count 0, no call in hand (R153, R155; notes/assumptions/18.md). -/
def Parser.toHunt (_p : Parser) : Parser := Parser.reset

/-- SKIP, no call in hand; the run count stands, no rule changes it (R154 to R156; DEDUCED, notes/assumptions/18.md). -/
def Parser.toSkip (p : Parser) : Parser := { Parser.reset with state := .skip, run := p.run }

/-- The largest body of a call (section 9.1). -/
def maxCallBody : Nat := 64

/-- What one symbol does to the parser: the parser after it, and what it decided. -/
inductive Verdict
  /-- nothing beyond the parser's own record -/
  | going
  /-- an identity was completed: calls accepted +1 (R154) -/
  | accepted
  /-- an identity was rejected: calls rejected +1 (R154) -/
  | rejected
  /-- a body has ended: recognition runs on this record (R155) -/
  | ended (call : Parser)
deriving DecidableEq, Repr

/-- A call is rejected by a symbol (R154). -/
def Parser.reject (p : Parser) (phasing : Bool) : Parser × Verdict :=
  (if phasing then p.newRun else p.toSkip, .rejected)

/-- One symbol in IDENT (R154); `copies` is Rc. -/
def Parser.identSymbol (p : Parser) (copies y : Nat) (mutilated : Bool) : Parser × Verdict :=
  if mutilated || !isDigitCode y then p.reject (!mutilated && y == symPhasing)
  else if 5 ≤ p.digits.length && !decide (p.digits[p.digits.length % 5]? = some y) then p.reject false
  else
    let ds := p.digits ++ [y]
    if ds.length < 5 * copies then ({ p with digits := ds }, .going)
    else if decimal (ds.take 5) = 0 then p.reject false
    else ({ p with state := .body, digits := ds, ident := decimal (ds.take 5), body := [], damaged := false }, .accepted)

/-- A symbol joins the body, which ends with it at 64 (R155). -/
def Parser.joinBody (p : Parser) (y : Nat) (mutilated : Bool) : Parser × Verdict :=
  let q := { p with body := p.body ++ [y], damaged := p.damaged || mutilated }
  if maxCallBody ≤ q.body.length then (q.toSkip, .ended q) else (q, .going)

/-- One symbol that is not a passed-over shift (R153 to R156); `k` is K and `copies` Rc. -/
def Parser.symbol (p : Parser) (k copies y : Nat) (mutilated : Bool) : Parser × Verdict :=
  let phasing := !mutilated && y == symPhasing
  match p.state with
  | .hunt => if phasing then (p.newRun, .going) else (p, .going)
  | .skip => if phasing then (p.newRun, .going) else (p, .going)
  | .phasing =>
    if phasing then ({ p with run := satSucc 16 p.run }, .going)
    else if !mutilated && decide (k ≤ p.run) then
      { Parser.reset with state := .ident, run := p.run }.identSymbol copies y false
    else (p.toHunt, .going)
  | .ident => p.identSymbol copies y mutilated
  | .body =>
    if !mutilated && y == symIdle then (p.toHunt, .ended p)
    else if phasing then (p.newRun, .ended p)
    else p.joinBody y mutilated

/-- One symbol at a running watch (R152): counted, passed over if it is an undamaged shift, otherwise parsed. -/
def State.takeSymbol (s : State) (c : ChannelNo) (y : Nat) (mutilated : Bool) : State :=
  let s1 := s.modRx c fun r =>
    { r with
      symbols := satSucc max32 r.symbols
      mutilated := if mutilated then satSucc max32 r.mutilated else r.mutilated }
  if !mutilated && (y == symLtrs || y == symFigs) then s1
  else
    let set := (s.chan c).settings
    let v := (s.chan c).parser.symbol set.phasingRun set.copies y mutilated
    let s2 := s1.modParser c fun _ => v.1
    match v.2 with
    | .going => s2
    | .accepted => s2.modRx c fun r => { r with accepted := satSucc max32 r.accepted }
    | .rejected => s2.modRx c fun r => { r with rejected := satSucc max32 r.rejected }
    | .ended call => s2.recognise c call

end Sys2Proof.Machine
end

