-- ==== Sys2Proof/Machine/MessageFamily.lean ====
section
/-! DEFINITION. The commands and events of the Message Table (chapter 5). -/

namespace Sys2Proof.Machine

/-! ### Reading the table -/

/-- The received count, outstanding credit and grant waiting flag, for the descriptor of the open load (R52, R79). -/
def State.loadFields (s : State) (h : Handle) : List Field :=
  match s.loadUnit.current with
  | some l =>
    match l.target with
    | .telex g _ =>
      if g = h then [.has 2 l.received, .has 2 l.outstanding, .has 1 l.waiting.toNat]
      else [.opt 2 none, .opt 2 none, .opt 1 none]
    | .bulletin _ => [.opt 2 none, .opt 2 none, .opt 1 none]
  | none => [.opt 2 none, .opt 2 none, .opt 1 none]

/-- The fields of a descriptor in the order of section 5.1, each optional, absent for a FREE one (R79, R174). -/
def Descriptor.fields (d : Descriptor) (h : Handle) : List Field :=
  let live := decide (d.state ≠ .free)
  let f (w n : Nat) : Field := .opt w (if live then some n else none)
  let o (w : Nat) (x : Option Nat) : Field := .opt w (if live then x else none)
  [.num 1 d.state.code, .has 1 h.val, f 1 d.channel.val, f 2 d.number, f 3 d.dest, f 1 d.cls.code, f 2 d.length,
    f 2 d.resume]
    ++ optList (if live then some (d.chain.map fun b => [.num 2 b.val]) else none)
    ++ [f 1 d.confirm.toNat, o 6 d.expiry, f 1 d.repeats, f 1 d.truncated.toNat, f 2 d.stripped, f 2 d.substituted,
      f 2 d.segments, o 6 d.firstKeyed, o 6 d.doneTime, o 6 d.ackDue, f 1 d.cancelRequested.toNat]

/-- READ-MESSAGE (R79). -/
def doReadMessage (body : Body) (s : State) : Judged :=
  onHandle body fun h => .ok (s, (s.desc h).fields h ++ s.loadFields h)

/-- The handles of one list of a channel: 0 RELAY, 1 URGENT, 2 ORDINARY, 3 ACTIVE-SLOT, 4 SENT (R80). -/
def Channel.listed (ch : Channel) (l : Nat) : Option (List Handle) :=
  match l with
  | 0 => some ch.relayQ
  | 1 => some ch.urgentQ
  | 2 => some ch.ordinaryQ
  | 3 => some ch.active.toList
  | 4 => some ch.sent
  | _ => none

/-- LIST-QUEUE (R80). -/
def doListQueue (body : Body) (s : State) : Judged :=
  match body with
  | [c, l] =>
    match channelOf c with
    | none => .error .range
    | some c =>
      match (s.chan c).listed l.toNat with
      | none => .error .range
      | some hs => .ok (s, [.channel c, .num 1 l.toNat] ++ listField (hs.map fun h => [.handle h]))
  | _ => .error .badForm

/-! ### CANCEL, DISCARD, REQUEUE -/

/-- The reply of CANCEL: outcome 0 CANCELLED with handle, number and resume point, 1 DEFERRED with handle and number
(R76, R174). -/
def State.cancelFields (s : State) (h : Handle) (deferred : Bool) : List Field :=
  let d := s.desc h
  [.flag deferred, .has 1 h.val, .has 2 d.number, .opt 2 (if deferred then none else some d.resume)]

/-- A message freed at once by CANCEL (R76), and the key-up causes it may leave (R138). -/
def State.cancelNow (s : State) (h : Handle) : State := (s.freeSilent h).judgeKeyUp [(s.desc h).channel]

/-- A deferred CANCEL (R76, R128); the second one for a message changes nothing. -/
def State.cancelLater (s : State) (h : Handle) : State :=
  if (s.desc h).cancelRequested then s
  else (s.modDesc h fun d => { d with cancelRequested := true }).cancelActive (s.desc h).channel h

/-- CANCEL (R76). -/
def doCancel (body : Body) (s : State) : Judged :=
  onHandle body fun h =>
    match (s.desc h).state with
    | .free => .error .notFound
    | .ready | .suspended | .parked => .ok (s.cancelNow h, s.cancelFields h false)
    | .active =>
      if (s.desc h).cls = .relay then .error .state else .ok (s.cancelLater h, s.cancelFields h true)
    | .loading | .awaitAck | .unconfirmed => .error .state

/-- DISCARD (R78). -/
def doDiscard (body : Body) (s : State) : Judged :=
  onHandle body fun h =>
    let d := s.desc h
    match d.state with
    | .free => .error .notFound
    | .awaitAck | .unconfirmed =>
      .ok (s.freeSilent h, [.handle h, .num 2 d.number, .num 1 d.state.code, .num 1 d.repeats])
    | .loading | .ready | .active | .parked | .suspended => .error .state

/-- REQUEUE (R74), with the key-up causes of the message's channel (R138). -/
def doRequeue (body : Body) (s : State) : Judged :=
  onHandle body fun h =>
    let d := s.desc h
    match d.state with
    | .free => .error .notFound
    | .awaitAck | .unconfirmed =>
      .ok ((s.requeueReady h).judgeKeyUp [d.channel], [.handle h, .num 2 d.number, .num 1 d.repeats])
    | .loading | .ready | .active | .parked | .suspended => .error .state

/-- READ-MESSAGE (R79). -/
def execReadMessage (body : Body) (s : State) : StepOutcome := commandStep s 0x11 doReadMessage body

/-- LIST-QUEUE (R80). -/
def execListQueue (body : Body) (s : State) : StepOutcome := commandStep s 0x12 doListQueue body

/-- CANCEL (R76). -/
def execCancel (body : Body) (s : State) : StepOutcome := commandStep s 0x13 doCancel body

/-- DISCARD (R78). -/
def execDiscard (body : Body) (s : State) : StepOutcome := commandStep s 0x14 doDiscard body

/-- REQUEUE (R74). -/
def execRequeue (body : Body) (s : State) : StepOutcome := commandStep s 0x15 doRequeue body

/-! ### Events -/

/-- The acknowledgement timer has run out (R70). -/
def State.ackOverdue (s : State) (h : Handle) : Bool :=
  match (s.desc h).ackDue with
  | some t => decide ((s.desc h).state = .awaitAck) && decide (t ≤ s.clock.elapsed)
  | none => false

/-- The message becomes UNCONFIRMED (R70). -/
def State.timeOut (s : State) (h : Handle) : State :=
  (s.modDesc h fun d => { d with state := .unconfirmed, ackDue := none }).emit .unconfirmed (some (s.desc h).channel)
    (s.messageFields h ++ (s.desc h).sentFields)

/-- ACK_TIMER_RUNS_OUT (R70); a timer that is not due does not run out. -/
def execAckTimerRunsOut (h : Handle) (s : State) : StepOutcome := eventStep (if s.ackOverdue h then s.timeOut h else s)

/-- MESSAGE_EXPIRY (R75), with the key-up causes of the message's channel (R138); a message that has not expired stays. -/
def execMessageExpiry (h : Handle) (s : State) : StepOutcome :=
  eventStep (if s.expired h then (s.expire h).judgeKeyUp [(s.desc h).channel] else s)

end Sys2Proof.Machine
end

