-- ==== Sys2Proof/Machine/ReceiveFamily.lean ====
section
/-! DEFINITION. The commands and events of the Receive Watch (chapter 9). -/

namespace Sys2Proof.Machine

/-! ### Pattern watches -/

/-- The value symbols of a SET-WATCH body, code and care flag in turn; none for an odd number of bytes. -/
def watchValues : List Byte → Option (List (Byte × Byte))
  | [] => some []
  | [_] => none
  | y :: f :: rest => (watchValues rest).map ((y, f) :: ·)

/-- The values of a SET-WATCH in range: codes 0 to 63 (R159), care flags 0 or 1 (R174 step 3). -/
def valuesInRange (vs : List (Byte × Byte)) : Bool := vs.all fun v => decide (v.1.toNat ≤ 63) && (flagOf v.2).isSome

/-- The largest number of value symbols of a watch (section 9.4). -/
def maxWatchValues : Nat := 32

/-- SET-WATCH (R159). Its size must be 4 plus twice the value count of its third byte (R174). -/
def doSetWatch (body : Body) (s : State) : Judged :=
  match body with
  | w :: set :: n :: m :: rest =>
    if rest.length ≠ 2 * n.toNat then .error .badForm
    else
      match watchOf w, watchValues rest with
      | some w, some vs =>
        if set = 0 ∨ n.toNat = 0 ∨ maxWatchValues < n.toNat ∨ valuesInRange vs = false ∨ captureSymbols < m.toNat then
          .error .range
        else
          .ok (s.setWatch w (some ⟨set, vs.map fun v => (v.1.toNat, decide (v.2 = 1)), m.toNat⟩),
            [.num 1 w.val, .num 1 1])
      | _, _ => .error .range
  | _ => .error .badForm

/-- A command whose body is one watch number; above 3 it is refused RANGE. -/
def onWatch (body : Body) (f : WatchNo → Judged) : Judged :=
  match body with
  | [b] =>
    match watchOf b with
    | some w => f w
    | none => .error .range
  | _ => .error .badForm

/-- CLEAR-WATCH (R159). -/
def doClearWatch (body : Body) (s : State) : Judged :=
  onWatch body fun w => .ok (s.setWatch w none, [.num 1 w.val, .num 1 0])

/-- The fields of READ-WATCH's reply: CLEARED 0, SET 1, then the fields of section 9.4 (R159, R174). The minimum length has
one byte, as in SET-WATCH's body (DEDUCED, notes/assumptions/9.md). -/
def watchFields (p : Option Pattern) : List Field :=
  [.flag p.isSome, .opt 1 (p.map fun p => p.channels.toNat), .opt 1 (p.map fun p => p.values.length)]
    ++ optList (p.map fun p => p.values.map fun v => [.num 1 v.1, .flag v.2])
    ++ [.opt 1 (p.map (·.minLength))]

/-- READ-WATCH (R159). -/
def doReadWatch (body : Body) (s : State) : Judged := onWatch body fun w => .ok (s, watchFields (s.watch w))

/-! ### The capture latch -/

/-- RELEASE-CAPTURE (R162). -/
def doReleaseCapture (body : Body) (s : State) : Judged :=
  onChannel body fun c =>
    .ok (s.modChan c fun ch => { ch with latch := none },
      [.flag (s.chan c).latch.isSome, .num 1 (s.chan c).rx.capturesLost])

/-- The capture record's fields in the order of section 9.5, absent when the latch is empty (R162, R174). -/
def captureFields (k : Option Capture) : List Field :=
  [.flag k.isSome, .opt 1 (k.map fun k => k.pattern.elim 4 Fin.val), .opt 3 (k.map (·.ident)),
    .optTime (k.map (·.arrival)), .opt 2 (k.map (·.bodyLength))]
    ++ optList (k.map fun k => k.symbols.map fun y => [.num 1 y])
    ++ [.opt 1 (k.map fun k => k.damaged.toNat)]

/-- READ-CAPTURE (R162). -/
def doReadCapture (body : Body) (s : State) : Judged :=
  onChannel body fun c => .ok (s, captureFields (s.chan c).latch ++ [.has 1 (s.chan c).rx.capturesLost])

/-! ### Holds -/

/-- CLEAR-HOLD (R167), with the key-up causes of the channel (R163). -/
def doClearHold (body : Body) (s : State) : Judged :=
  match body with
  | [c, x2, x1, x0] =>
    let ship := be [x2, x1, x0]
    match channelOf c with
    | none => .error .range
    | some c =>
      if !isShip ship then .error .range
      else
        match (s.chan c).holds.find? (·.ship == ship) with
        | none => .error .notFound
        | some r =>
          .ok ((s.dropHold c ship).judgeKeyUp [c],
            [.channel c, .ship ship, .num 1 r.state.code, .num 2 (s.remaining r)])
  | _ => .error .badForm

/-! ### READ-RECEIVE -/

/-- The counts of R168 in its order. -/
def RxCounts.fields (r : RxCounts) : List Field :=
  [.num 4 r.symbols, .num 4 r.mutilated, .num 4 r.accepted, .num 4 r.rejected, .num 4 r.holdsTaken, .num 2 r.holdsLost,
    .num 4 r.acksMatched, .num 4 r.repeatsMatched, .num 4 r.unmatched, .num 4 r.latched, .num 1 r.capturesLost]

/-- The reply of READ-RECEIVE (R168). -/
def State.receiveFields (s : State) (c : ChannelNo) : List Field :=
  let ch := s.chan c
  [.num 1 ch.parser.state.code, .num 1 ch.parser.run] ++ ch.rx.fields
    ++ listField (ch.holds.map fun r => [.ship r.ship, .num 1 r.state.code, .num 2 (s.remaining r)])
    ++ [.flag ch.latch.isSome]

/-- READ-RECEIVE (R168). -/
def doReadReceive (body : Body) (s : State) : Judged :=
  match body with
  | [c, f] =>
    match channelOf c, flagOf f with
    | some c, some clear =>
      .ok (if clear then s.modRx c fun _ => RxCounts.reset else s, s.receiveFields c)
    | _, _ => .error .range
  | _ => .error .badForm

/-- SET-WATCH (R159). -/
def execSetWatch (body : Body) (s : State) : StepOutcome := commandStep s 0x25 doSetWatch body

/-- CLEAR-WATCH (R159). -/
def execClearWatch (body : Body) (s : State) : StepOutcome := commandStep s 0x26 doClearWatch body

/-- READ-WATCH (R159). -/
def execReadWatch (body : Body) (s : State) : StepOutcome := commandStep s 0x27 doReadWatch body

/-- RELEASE-CAPTURE (R162). -/
def execReleaseCapture (body : Body) (s : State) : StepOutcome := commandStep s 0x28 doReleaseCapture body

/-- READ-CAPTURE (R162). -/
def execReadCapture (body : Body) (s : State) : StepOutcome := commandStep s 0x29 doReadCapture body

/-- CLEAR-HOLD (R167). -/
def execClearHold (body : Body) (s : State) : StepOutcome := commandStep s 0x2A doClearHold body

/-- READ-RECEIVE (R168). -/
def execReadReceive (body : Body) (s : State) : StepOutcome := commandStep s 0x2B doReadReceive body

/-! ### Events -/

/-- RECEIVED_SYMBOL (R152); at an OFFLINE channel it is not examined and not counted (R151). -/
def execReceivedSymbol (c : ChannelNo) (code : Nat) (mutilated : Bool) (s : State) : StepOutcome :=
  eventStep (if (s.chan c).state = .offline then s else s.takeSymbol c code mutilated)

/-- The RUNNING record of a ship whose time has come (R166). -/
def State.holdOverdue (s : State) (c : ChannelNo) (ship : Nat) : Bool :=
  (s.chan c).holds.any fun r => decide (r.ship = ship) && decide (r.state = .running) && decide (r.endsAt ≤ s.clock.elapsed)

/-- HOLD_EXPIRY (R166), with the key-up causes of the channel (R163); a record that is not due, or that is gone, does
not expire. -/
def execHoldExpiry (c : ChannelNo) (ship : Nat) (s : State) : StepOutcome :=
  eventStep (if s.holdOverdue c ship then ((s.dropHold c ship).holdEnded c ship 1).judgeKeyUp [c] else s)

end Sys2Proof.Machine
end

