-- ==== Sys2Proof/Machine/SlotFamily.lean ====
section
/-! DEFINITION. The commands and events of the Broadcast Schedule (chapter 6). -/

namespace Sys2Proof.Machine

/-! ### SET-SLOT -/

/-- The fields SET-SLOT gives (section 6.2). -/
structure SlotFields where
  channels : BitVec 8
  anchor : Nat
  period : Nat
  area : Nat
  window : Nat
deriving DecidableEq, Repr

/-- R85: when SET-SLOT is not refused RANGE for its fields. -/
def SlotFields.inRange (f : SlotFields) : Bool :=
  decide (f.channels ≠ 0) && decide (f.anchor ≤ 86399999) && decide (f.period ≠ 0) && decide (1440 % f.period = 0)
    && decide (f.area ≤ 31) && decide (f.window ≤ 1800000)

/-- The channels whose next occurrence a change of an entry can change. -/
def touchedChannels (old new : Slot) : List ChannelNo :=
  allChannels.filter fun c => inSet old.channels c || inSet new.channels c

/-- The entry SET-SLOT writes (R85): an EMPTY entry becomes DISABLED, and next-due is recomputed when ENABLED. -/
def State.slotWritten (s : State) (i : SlotNo) (f : SlotFields) : Slot :=
  s.recomputed
    { state := if (s.slot i).state = .empty then .disabled else (s.slot i).state
      channels := f.channels
      anchor := f.anchor
      period := f.period
      area := Fin.ofNat 32 f.area
      window := f.window
      nextDue := none }

/-- An entry is changed: an occurrence due at the present time is taken at once (R85, R86), and the key-up causes of the
channels concerned are judged (R138). -/
def State.changeSlot (s : State) (i : SlotNo) (e : Slot) : State :=
  let s1 := s.setSlot i e
  let s2 := if s1.slotDue i then s1.takeOccurrence i else s1
  s2.judgeKeyUp (touchedChannels (s.slot i) e)

/-- SET-SLOT (R85). Its reply has the rule's order, slot, state and an optional next-due, and is not read as one that a
state decides (DEDUCED, notes/assumptions/11.md). -/
def doSetSlot (body : Body) (s : State) : Judged :=
  match body with
  | [i, set, a3, a2, a1, a0, p1, p0, ar, w3, w2, w1, w0] =>
    match slotOf i with
    | none => .error .range
    | some i =>
      let f : SlotFields := ⟨set, be [a3, a2, a1, a0], be [p1, p0], ar.toNat, be [w3, w2, w1, w0]⟩
      if !f.inRange then .error .range
      else
        let e := s.slotWritten i f
        .ok (s.changeSlot i e, [.num 1 i.val, .num 1 e.state.code, .optTime e.nextDue])
  | _ => .error .badForm

/-! ### ENABLE-SLOT, DISABLE-SLOT, CLEAR-SLOT, READ-SLOT -/

/-- ENABLE-SLOT (R86). -/
def doEnableSlot (body : Body) (s : State) : Judged :=
  onSlot body fun i =>
    let e := s.slot i
    if e.state = .empty then .error .state
    else if !s.clock.isSet then .error .clockUnset
    else if e.state = .enabled then .ok (s, [.num 1 i.val, .time (e.nextDue.getD 0)])
    else
      let e1 := s.recomputed { e with state := .enabled }
      .ok (s.changeSlot i e1, [.num 1 i.val, .time (e1.nextDue.getD 0)])

/-- DISABLE-SLOT (R87). -/
def doDisableSlot (body : Body) (s : State) : Judged :=
  onSlot body fun i =>
    let e := s.slot i
    if e.state = .enabled then
      .ok (s.changeSlot i { e with state := .disabled, nextDue := none }, [.num 1 i.val, .num 1 SlotState.disabled.code])
    else .ok (s, [.num 1 i.val, .num 1 e.state.code])

/-- CLEAR-SLOT (R87). -/
def doClearSlot (body : Body) (s : State) : Judged :=
  onSlot body fun i => .ok (s.changeSlot i Slot.reset, [.num 1 i.val, .num 1 SlotState.empty.code])

/-- The fields of READ-SLOT's reply (R88, R174). -/
def Slot.fields (e : Slot) (i : SlotNo) : List Field :=
  let held := decide (e.state ≠ .empty)
  let f (w n : Nat) : Field := .opt w (if held then some n else none)
  [.num 1 e.state.code, .has 1 i.val, f 1 e.channels.toNat, f 4 e.anchor, f 2 e.period, f 1 e.area.val, f 4 e.window,
    .optTime (if e.state = .enabled then e.nextDue else none)]

/-- READ-SLOT (R88). -/
def doReadSlot (body : Body) (s : State) : Judged := onSlot body fun i => .ok (s, (s.slot i).fields i)

/-! ### READ-PENDING -/

def Request.fields (q : Request) : List Field :=
  [.num 1 q.slot.val, .num 1 q.area.val, .time q.due, .time q.deadline, .num 1 q.state.code, .num 1 q.restarts,
    .optTime q.firstStart]

/-- READ-PENDING (R103). The number of requests is the count of their list, in two bytes, and no field of its own (DEDUCED,
notes/assumptions/11.md). -/
def doReadPending (body : Body) (s : State) : Judged :=
  onChannel body fun c =>
    .ok (s, [.channel c, .num 1 (s.chan c).stats.overrun, .optTime (s.nextOccurrence c)]
      ++ listField ((s.chan c).requests.map Request.fields))

/-- SET-SLOT (R85). -/
def execSetSlot (body : Body) (s : State) : StepOutcome := commandStep s 0x16 doSetSlot body

/-- ENABLE-SLOT (R86). -/
def execEnableSlot (body : Body) (s : State) : StepOutcome := commandStep s 0x17 doEnableSlot body

/-- DISABLE-SLOT (R87). -/
def execDisableSlot (body : Body) (s : State) : StepOutcome := commandStep s 0x18 doDisableSlot body

/-- CLEAR-SLOT (R87). -/
def execClearSlot (body : Body) (s : State) : StepOutcome := commandStep s 0x19 doClearSlot body

/-- READ-SLOT (R88). -/
def execReadSlot (body : Body) (s : State) : StepOutcome := commandStep s 0x1A doReadSlot body

/-- READ-PENDING (R103). -/
def execReadPending (body : Body) (s : State) : StepOutcome := commandStep s 0x1B doReadPending body

/-! ### Events -/

/-- SLOT_OCCURRENCE (R89), with the key-up causes of its channels (R138), in ascending order with what they send, those a
first decision point touches last (DESIGN CHOICE, notes/assumptions/8.md); an entry that is not due has no occurrence. -/
def execSlotOccurrence (i : SlotNo) (s : State) : StepOutcome :=
  eventStep (if s.slotDue i then (s.takeOccurrence i).judgeKeyUp (channelsOf (s.slot i).channels) else s)

/-- The request of an occurrence, if its deadline has been reached on an unkeyed channel (R93). -/
def State.overdueRequest (s : State) (c : ChannelNo) (slot : SlotNo) (due : Nat) : Option Request :=
  (s.chan c).requests.find? fun q => q.isFor slot due && s.deadlinePassed c q

/-- REQUEST_DEADLINE_UNKEYED (R93), with the key-up causes of the channel (R138); a request whose deadline has not been
reached, or whose channel is keyed, waits on. -/
def execRequestDeadlineUnkeyed (c : ChannelNo) (slot : SlotNo) (due : Nat) (s : State) : StepOutcome :=
  eventStep
    (match s.overdueRequest c slot due with
      | some q => (s.endBroken c q false).judgeKeyUp [c]
      | none => s)

/-- SLOT_KEY_UP_THRESHOLD (R138 cause 3): a STANDBY channel keys up. -/
def execSlotKeyUpThreshold (c : ChannelNo) (s : State) : StepOutcome :=
  eventStep (if (s.chan c).state = .standby ∧ s.thresholdReached c = true then s.judgeKeyUp [c] else s)

end Sys2Proof.Machine
end

