-- ==== Sys2Proof/Machine/LinkFamily.lean ====
section
/-! DEFINITION. The Office Link's own commands, the taking of a frame by its kind, and the events of the frame receiver
and transmitter (chapter 10). -/

namespace Sys2Proof.Machine

/-! ### PING, RESTART, READ-LINK, SET-NOTICES -/

/-- PING (R179). -/
def doPing (body : Body) (s : State) : Judged :=
  onEmpty body (.ok (s, [.num 2 Config.partCode, .num 1 Config.revision]))

/-- READ-LINK's fields, in the order of R179. -/
def Link.fields (k : Link) : List Field :=
  [.num 1 k.rx.phase.code, .num 2 k.badCrc, .num 2 k.overlength, .num 2 k.gapTimeouts, .num 2 k.bufferFull,
    .num 2 k.noticesLost, .num 2 k.pendingLoss, .num 1 k.queued, .num 1 k.buffer.length]

/-- The five link counts set to 0 (R179). -/
def Link.clearCounts (k : Link) : Link :=
  { k with badCrc := 0, overlength := 0, gapTimeouts := 0, bufferFull := 0, noticesLost := 0 }

/-- READ-LINK (R179). -/
def doReadLink (body : Body) (s : State) : Judged :=
  match body with
  | [f] =>
    match flagOf f with
    | none => .error .range
    | some clear => .ok (if clear then s.modLink Link.clearCounts else s, s.link.fields)
  | _ => .error .badForm

/-- SET-NOTICES (R177): the most significant bit of the category byte must be 0. -/
def doSetNotices (body : Body) (s : State) : Judged :=
  match body with
  | [cats, chans] =>
    if cats.getLsbD 7 then .error .range
    else
      .ok (s.modLink fun k => { k with categories := cats, channels := chans },
        [.num 1 s.link.categories.toNat, .num 1 s.link.channels.toNat])
  | _ => .error .badForm

/-- PING (R179). -/
def execPing (body : Body) (s : State) : StepOutcome := commandStep s 0x01 doPing body

/-- RESTART (R181). -/
def execRestart (body : Body) (s : State) : StepOutcome := .next (s.receive 0x02 body fun s => s.takeRestart 0x02 body)

/-- READ-LINK (R179). -/
def execReadLink (body : Body) (s : State) : StepOutcome := commandStep s 0x03 doReadLink body

/-- SET-NOTICES (R177). -/
def execSetNotices (body : Body) (s : State) : StepOutcome := commandStep s 0x04 doSetNotices body

/-! ### Taking a frame by its kind (R174) -/

/-- The judging and action of each command kind; the kinds of no command are refused BAD-FORM. RESTART's action is
State.takeRestart. -/
def commandAct (kind : Byte) : Body → State → Judged :=
  match kind.toNat with
  | 0x01 => doPing
  | 0x03 => doReadLink
  | 0x04 => doSetNotices
  | 0x05 => doSetClock
  | 0x06 => doReadClock
  | 0x07 => doSetSplit
  | 0x08 => doDefineArea
  | 0x09 => doClearArea
  | 0x0A => doSetAllowance
  | 0x0B => doReadStore
  | 0x0C => doSetLoadGrain
  | 0x0D => doDeclareMessage
  | 0x0E => doOpenBulletin
  | 0x0F => doText
  | 0x10 => doAbandonLoad
  | 0x11 => doReadMessage
  | 0x12 => doListQueue
  | 0x13 => doCancel
  | 0x14 => doDiscard
  | 0x15 => doRequeue
  | 0x16 => doSetSlot
  | 0x17 => doEnableSlot
  | 0x18 => doDisableSlot
  | 0x19 => doClearSlot
  | 0x1A => doReadSlot
  | 0x1B => doReadPending
  | 0x1C => doReadInterleaver
  | 0x1D => doOpenChannel
  | 0x1E => doSetChannel
  | 0x1F => doReadChannel
  | 0x20 => doRestore
  | 0x21 => doCloseChannel
  | 0x22 => doResetChannel
  | 0x23 => doReadStats
  | 0x24 => doClearStats
  | 0x25 => doSetWatch
  | 0x26 => doClearWatch
  | 0x27 => doReadWatch
  | 0x28 => doReleaseCapture
  | 0x29 => doReadCapture
  | 0x2A => doClearHold
  | 0x2B => doReadReceive
  | _ => fun _ _ => .error .badForm

/-- Takes one frame (R173, R174). -/
def State.takeFrame (s : State) (kind : Byte) (body : Body) : State :=
  if kind = 0x02 then s.takeRestart kind body else s.take kind (commandAct kind body s)

/-- BAD_FORM (R174 step 1): a frame whose kind is no command's. -/
def execBadForm (kind : Byte) (body : Body) (s : State) : StepOutcome :=
  .next (s.receive kind body fun s => s.takeFrame kind body)

/-! ### The frame receiver (section 10.2) -/

/-- The body length recorded by the receiver (R171). -/
def Receiver.bodyLength (r : Receiver) : Nat := be (r.bytes.take 2)

/-- What one byte does to the receiver: the receiver after it, and what became of the frame (R171). -/
inductive RxVerdict
  /-- the frame goes on, or none is in reception -/
  | going
  /-- a body length above 512 -/
  | overlength
  /-- the check differs -/
  | badCrc
  /-- the frame is received -/
  | received (frame : Frame)
deriving DecidableEq, Repr

/-- The receiver in HUNT after a frame's end. -/
def Receiver.toHunt (r : Receiver) : Receiver := { Receiver.reset with lastAt := r.lastAt }

/-- The frame a receiver has recorded. -/
def Receiver.frame (r : Receiver) : Frame := ⟨r.bytes.getD 2 0, r.bytes.drop 3⟩

/-- One byte at the receiver, elapsed time `now` (R171). -/
def Receiver.byte (r : Receiver) (now : Nat) (b : Byte) : Receiver × RxVerdict :=
  match r.phase with
  | .hunt => if b = 0xA5 then (⟨.length, [], [], now⟩, .going) else (r, .going)
  | .length =>
    let q := { r with bytes := r.bytes ++ [b], lastAt := now }
    if q.bytes.length < 2 then (q, .going)
    else if Config.maxBody < q.bodyLength then (q.toHunt, .overlength)
    else ({ q with phase := .kind }, .going)
  | .kind =>
    let q := { r with bytes := r.bytes ++ [b], lastAt := now }
    ({ q with phase := if q.bodyLength = 0 then .check else .body }, .going)
  | .body =>
    let q := { r with bytes := r.bytes ++ [b], lastAt := now }
    ({ q with phase := if q.bytes.length < q.bodyLength + 3 then .body else .check }, .going)
  | .check =>
    let q := { r with check := r.check ++ [b], lastAt := now }
    if q.check.length < 2 then (q, .going)
    else if be q.check = (crc q.bytes).toNat then (q.toHunt, .received q.frame)
    else (q.toHunt, .badCrc)

/-- One byte from the host (R171); while a RESTART is under way it is ignored (R181). -/
def State.receiveByte (s : State) (b : Byte) : State :=
  if s.link.restarting then s
  else
    let v := s.link.rx.byte s.clock.elapsed b
    let s1 := s.modLink fun k => { k with rx := v.1 }
    match v.2 with
    | .going => s1
    | .overlength => s1.modLink fun k => { k with overlength := satSucc max16 k.overlength }
    | .badCrc => s1.modLink fun k => { k with badCrc := satSucc max16 k.badCrc }
    | .received f => s1.receive f.kind f.body fun s => s.takeFrame f.kind f.body

/-- OFFICE_LINK_BYTE (R171). -/
def execOfficeLinkByte (b : Byte) (s : State) : StepOutcome := .next (s.receiveByte b)

/-- A gap longer than 50 ms in a frame in reception (R172). -/
def State.gapOver (s : State) : Bool :=
  decide (s.link.rx.phase ≠ .hunt) && decide (Config.gapLimit < s.clock.elapsed - s.link.rx.lastAt)

/-- The frame in reception is discarded for its gap (R172). -/
def State.gapTimeout (s : State) : State :=
  s.modLink fun k => { k with rx := k.rx.toHunt, gapTimeouts := satSucc max16 k.gapTimeouts }

/-- GAP_TIMEOUT (R172); a gap that has not run out discards nothing. -/
def execGapTimeout (s : State) : StepOutcome := .next (if s.gapOver then s.gapTimeout else s)

/-! ### The frame transmitter (section 10.4) -/

/-- Takes the frame at the head of the buffer, when there is one and no reply waits (R173). -/
def State.serveBuffer (s : State) : State :=
  match s.link.buffer with
  | [] => s
  | f :: rest =>
    if s.link.mayTake then (s.modLink fun k => { k with buffer := rest }).takeFrame f.kind f.body else s

/-- The last check byte of a frame has been sent (R175): the last byte of a RESTART's ACCEPT brings the reset (R181);
otherwise the transmitter is free, begins the next record, and a command that waited on it is taken in the same step
(R173; notes/assumptions/4.md, 21.md). -/
def State.frameSent (s : State) : State :=
  match s.link.sending with
  | none => s
  | some _ =>
    if s.link.restarting && s.link.output.isEmpty then s.restarted
    else (s.modLink fun k => { k with sending := none }.kick).serveBuffer

/-- FRAME_TRANSMIT_END (R175); with no frame on the line none ends. -/
def execFrameTransmitEnd (s : State) : StepOutcome := .next s.frameSent

/-- POWER_ON_RESET (R180). -/
def execPowerOnReset (s : State) : StepOutcome := .next s.powerOn

end Sys2Proof.Machine
end

