-- ==== Sys2Proof/Machine/Dispatch.lean ====
section
/-! DEFINITION. What each command and event does to everything but the queue: one arm for each constructor of Instr. -/

namespace Sys2Proof.Machine

def exec (i : Instr) (s : State) : Host.Outcome State Fault Refusal :=
  match i with
  | .powerOnReset => Sys2Proof.Machine.execPowerOnReset s
  | .officeLinkByte b => Sys2Proof.Machine.execOfficeLinkByte b s
  | .gapTimeout => Sys2Proof.Machine.execGapTimeout s
  | .frameTransmitEnd => Sys2Proof.Machine.execFrameTransmitEnd s
  | .ping body => Sys2Proof.Machine.execPing body s
  | .restart body => Sys2Proof.Machine.execRestart body s
  | .readLink body => Sys2Proof.Machine.execReadLink body s
  | .setNotices body => Sys2Proof.Machine.execSetNotices body s
  | .setClock body => Sys2Proof.Machine.execSetClock body s
  | .readClock body => Sys2Proof.Machine.execReadClock body s
  | .setSplit body => Sys2Proof.Machine.execSetSplit body s
  | .defineArea body => Sys2Proof.Machine.execDefineArea body s
  | .clearArea body => Sys2Proof.Machine.execClearArea body s
  | .setAllowance body => Sys2Proof.Machine.execSetAllowance body s
  | .readStore body => Sys2Proof.Machine.execReadStore body s
  | .setLoadGrain body => Sys2Proof.Machine.execSetLoadGrain body s
  | .declareMessage body => Sys2Proof.Machine.execDeclareMessage body s
  | .openBulletin body => Sys2Proof.Machine.execOpenBulletin body s
  | .text body => Sys2Proof.Machine.execText body s
  | .abandonLoad body => Sys2Proof.Machine.execAbandonLoad body s
  | .readMessage body => Sys2Proof.Machine.execReadMessage body s
  | .listQueue body => Sys2Proof.Machine.execListQueue body s
  | .cancel body => Sys2Proof.Machine.execCancel body s
  | .discard body => Sys2Proof.Machine.execDiscard body s
  | .requeue body => Sys2Proof.Machine.execRequeue body s
  | .setSlot body => Sys2Proof.Machine.execSetSlot body s
  | .enableSlot body => Sys2Proof.Machine.execEnableSlot body s
  | .disableSlot body => Sys2Proof.Machine.execDisableSlot body s
  | .clearSlot body => Sys2Proof.Machine.execClearSlot body s
  | .readSlot body => Sys2Proof.Machine.execReadSlot body s
  | .readPending body => Sys2Proof.Machine.execReadPending body s
  | .readInterleaver body => Sys2Proof.Machine.execReadInterleaver body s
  | .openChannel body => Sys2Proof.Machine.execOpenChannel body s
  | .setChannel body => Sys2Proof.Machine.execSetChannel body s
  | .readChannel body => Sys2Proof.Machine.execReadChannel body s
  | .restore body => Sys2Proof.Machine.execRestore body s
  | .closeChannel body => Sys2Proof.Machine.execCloseChannel body s
  | .resetChannel body => Sys2Proof.Machine.execResetChannel body s
  | .readStats body => Sys2Proof.Machine.execReadStats body s
  | .clearStats body => Sys2Proof.Machine.execClearStats body s
  | .setWatch body => Sys2Proof.Machine.execSetWatch body s
  | .clearWatch body => Sys2Proof.Machine.execClearWatch body s
  | .readWatch body => Sys2Proof.Machine.execReadWatch body s
  | .releaseCapture body => Sys2Proof.Machine.execReleaseCapture body s
  | .readCapture body => Sys2Proof.Machine.execReadCapture body s
  | .clearHold body => Sys2Proof.Machine.execClearHold body s
  | .readReceive body => Sys2Proof.Machine.execReadReceive body s
  | .midnightRollover => Sys2Proof.Machine.execMidnightRollover s
  | .clockStopped => Sys2Proof.Machine.execClockStopped s
  | .slotOccurrence slot => Sys2Proof.Machine.execSlotOccurrence slot s
  | .requestDeadlineUnkeyed channel slot due => Sys2Proof.Machine.execRequestDeadlineUnkeyed channel slot due s
  | .messageExpiry handle => Sys2Proof.Machine.execMessageExpiry handle s
  | .ackTimerRunsOut handle => Sys2Proof.Machine.execAckTimerRunsOut handle s
  | .holdExpiry channel ship => Sys2Proof.Machine.execHoldExpiry channel ship s
  | .keyUpLimit channel => Sys2Proof.Machine.execKeyUpLimit channel s
  | .slotKeyUpThreshold channel => Sys2Proof.Machine.execSlotKeyUpThreshold channel s
  | .transmitterReadyArrives channel => Sys2Proof.Machine.execTransmitterReadyArrives channel s
  | .transmitterReadyDrops channel => Sys2Proof.Machine.execTransmitterReadyDrops channel s
  | .lineSymbolCompletes channel => Sys2Proof.Machine.execLineSymbolCompletes channel s
  | .receivedSymbol channel code mutilated => Sys2Proof.Machine.execReceivedSymbol channel code mutilated s
  | .badForm kind body => Sys2Proof.Machine.execBadForm kind body s

end Sys2Proof.Machine
end

