-- ==== Sys2Proof/Machine/Idle.lean ====
section
/-! DEFINITION. What the part does while no command waits: the events that its clocks and timers bring, and the
millisecond of the crystal. DESIGN CHOICE, notes/assumptions/3.md. -/

namespace Sys2Proof.Machine

/-- The events that time has brought on one channel: hold expiries (R166), deadlines on an unkeyed channel (R93), the
key-up limit (R139), the threshold for a slot (R138) and the end of a character period (R18). -/
def State.dueOnChannel (s : State) (c : ChannelNo) : List Instr :=
  (((s.chan c).holds.map (·.ship)).filter (s.holdOverdue c)).map (.holdExpiry c)
    ++ ((s.chan c).requests.filter (s.deadlinePassed c)).map (fun q => .requestDeadlineUnkeyed c q.slot q.due)
    ++ (if s.keyUpOverdue c then [.keyUpLimit c] else [])
    ++ (if (s.chan c).state = .standby ∧ s.thresholdReached c = true then [.slotKeyUpThreshold c] else [])
    ++ (if s.symbolDue c then [.lineSymbolCompletes c] else [])

/-- All events that time has brought: the end of the station clock (R3), a gap in a frame (R172), occurrences (R89),
expiries (R75), acknowledgement timers (R70), and those of each channel. The expiry of a relay that returns READY before
its first symbol completed, after its expiry passed, is due at once, on a stopped clock too (DESIGN CHOICE,
notes/assumptions/27.md). -/
def State.dueEvents (s : State) : List Instr :=
  (if s.clock.running && s.clock.atEnd then [.clockStopped] else [])
    ++ (if s.gapOver then [.gapTimeout] else [])
    ++ s.dueSlots.map .slotOccurrence
    ++ ((List.finRange 256).filter s.expired).map .messageExpiry
    ++ ((List.finRange 256).filter s.ackOverdue).map .ackTimerRunsOut
    ++ allChannels.flatMap s.dueOnChannel

/-- One of some events, by a free order of their places in the list (Config.orderRank). -/
def pickEvent (draw : Nat) (es : List Instr) : Option Instr :=
  ((sortBy (fun p => Config.orderRank draw p.2) es.zipIdx).head?).map (·.1)

/-- With no command waiting, one due event takes place, in an order that is left free; when none is due, one millisecond
of the crystal passes. -/
def idle (s : State) : Host.Outcome State Fault Refusal :=
  match pickEvent s.choices s.dueEvents with
  | some e => exec e s.drawn
  | none => .next s.advance.flush

end Sys2Proof.Machine
end

