-- ==== Sys2Proof/Safety.lean ====
section
/-! DEFINITION. The terms that claims use: what a run may do, when a command is taken at once and what its reply adds,
which row of the table a frame is, and the laws of the manual that every state of a run keeps. -/

namespace Sys2Proof.Machine

/-! ### Runs -/

/-- The part goes on. -/
def State.goesOn (s : State) : Prop := ∃ t, step s = .next t

/-! ### A command and its reply -/

/-- A command that arrives now is taken at once (R173): no RESTART is under way, no frame is ahead of it and no reply
waits to begin transmission; and every notice formed so far has been offered. -/
abbrev State.takesAtOnce (s : State) : Prop :=
  s.link.restarting = false ∧ s.link.buffer = [] ∧ s.link.replyWaits = false ∧ s.outbox = []

/-- The state with one more reply formed, an ACCEPT, and nothing else changed. -/
def State.accepted (s : State) (kind : Byte) (fields : List Field) : State :=
  { s with link := s.link.place (.reply kind (.accept fields)) }

/-- The state with one more reply formed, a REFUSE, and nothing else changed. -/
def State.refused (s : State) (kind : Byte) (r : Reason) : State :=
  { s with link := s.link.place (.reply kind (.refuse r)) }

/-- Every record formed and not yet sent to its last byte, oldest first: the one on the line, then the output list. -/
def Link.formed (k : Link) : List Record := k.sending.toList ++ k.output

/-- A number as one byte of a body. -/
def byteOf (n : Nat) : Byte := BitVec.ofNat 8 n

/-- The row of the table that a frame is (section 10.3). -/
def commandOf (kind : Byte) (body : Body) : Instr :=
  match kind.toNat with
  | 0x01 => .ping body
  | 0x02 => .restart body
  | 0x03 => .readLink body
  | 0x04 => .setNotices body
  | 0x05 => .setClock body
  | 0x06 => .readClock body
  | 0x07 => .setSplit body
  | 0x08 => .defineArea body
  | 0x09 => .clearArea body
  | 0x0A => .setAllowance body
  | 0x0B => .readStore body
  | 0x0C => .setLoadGrain body
  | 0x0D => .declareMessage body
  | 0x0E => .openBulletin body
  | 0x0F => .text body
  | 0x10 => .abandonLoad body
  | 0x11 => .readMessage body
  | 0x12 => .listQueue body
  | 0x13 => .cancel body
  | 0x14 => .discard body
  | 0x15 => .requeue body
  | 0x16 => .setSlot body
  | 0x17 => .enableSlot body
  | 0x18 => .disableSlot body
  | 0x19 => .clearSlot body
  | 0x1A => .readSlot body
  | 0x1B => .readPending body
  | 0x1C => .readInterleaver body
  | 0x1D => .openChannel body
  | 0x1E => .setChannel body
  | 0x1F => .readChannel body
  | 0x20 => .restore body
  | 0x21 => .closeChannel body
  | 0x22 => .resetChannel body
  | 0x23 => .readStats body
  | 0x24 => .clearStats body
  | 0x25 => .setWatch body
  | 0x26 => .clearWatch body
  | 0x27 => .readWatch body
  | 0x28 => .releaseCapture body
  | 0x29 => .readCapture body
  | 0x2A => .clearHold body
  | 0x2B => .readReceive body
  | _ => .badForm kind body

/-- The body sizes of the command table of section 10.3; none for SET-WATCH and TEXT, whose sizes vary, and for the
kinds of no command. -/
def fixedSize (kind : Byte) : Option Nat :=
  match kind.toNat with
  | 0x01 | 0x02 | 0x06 | 0x0B | 0x10 => some 0
  | 0x03 | 0x09 | 0x11 | 0x13 | 0x14 | 0x15 | 0x17 | 0x18 | 0x19 | 0x1A | 0x1B | 0x1C | 0x1D | 0x1F | 0x20 | 0x21
  | 0x22 | 0x23 | 0x24 | 0x26 | 0x27 | 0x28 | 0x29 => some 1
  | 0x04 | 0x07 | 0x0C | 0x12 | 0x2B => some 2
  | 0x0E => some 3
  | 0x2A => some 4
  | 0x08 | 0x0A => some 5
  | 0x05 => some 6
  | 0x16 => some 13
  | 0x0D => some 17
  | 0x1E => some 18
  | _ => none

/-- The body of the DECLARE-MESSAGE that makes a declaration on a channel (section 10.3); an absent expiry is sent as a
presence byte 0 and six bytes 0. -/
def Declaration.body (d : Declaration) (c : ChannelNo) : Body :=
  byteOf c.val :: (toBe 2 d.number ++ toBe 3 d.dest ++ byteOf d.cls.code :: toBe 2 d.length
    ++ (match d.expiry with
      | some e => 1 :: (toBe 2 e.1 ++ toBe 4 e.2)
      | none => List.replicate 7 0)
    ++ [byteOf d.confirm.toNat])

/-- The values of a declaration fit the widths of their fields. -/
abbrev Declaration.fits (d : Declaration) : Prop :=
  d.number ≤ 65535 ∧ d.dest < 16777216 ∧ d.length ≤ 65535
    ∧ ∀ e, d.expiry = some e → e.1 ≤ 65535 ∧ e.2 < 4294967296

/-- Bytes from the host, one after another. -/
def State.feed (s : State) : List Byte → StepOutcome
  | [] => .next s
  | b :: bs =>
    match exec (.officeLinkByte b) s with
    | .next t => t.feed bs
    | .fault r => .fault r
    | .refused r => .refused r

/-! ### Ships' calls -/

/-- The three forms that the part acts on (section 9.3). -/
inductive BodyForm | hold | ack | repeat
deriving DecidableEq, Repr

/-- A body spells a form: its two letters, its digits, each below 10, and an ending with what follows it (section 9.3). -/
def calls (body : List Nat) (form : BodyForm) (ds rest : List Nat) : Prop :=
  (∀ d ∈ ds, d < 10) ∧ (rest = [] ∨ rest.head? = some 1 ∨ rest.head? = some 2) ∧
    match form with
    | .hold => body = [14, 14] ++ ds.map (33 + ·) ++ rest ∧ 1 ≤ ds.length ∧ ds.length ≤ 3
    | .ack => body = [17, 17] ++ ds.map (33 + ·) ++ rest ∧ ds.length = 5
    | .repeat => body = [24, 24] ++ ds.map (33 + ·) ++ rest ∧ ds.length = 5

/-- The decimal number that some digits spell. -/
def spelled (ds : List Nat) : Nat := ds.foldl (fun n d => n * 10 + d) 0

/-- A symbol ends the body of a parser's call (R155): an IDLE or a PHASING, which does not join it, or the symbol that
brings it to 64. `call` is the call as it ends, `after` the parser; its run count in SKIP is notes/assumptions/18.md. -/
def Parser.bodyEnds (p : Parser) (y : Nat) (mutilated : Bool) (call after : Parser) : Prop :=
  p.state = .body ∧
    (y = 0 ∧ mutilated = false ∧ call = p ∧ after = ⟨.hunt, 0, [], 0, [], false⟩
    ∨ y = 6 ∧ mutilated = false ∧ call = p ∧ after = ⟨.phasing, 1, [], 0, [], false⟩
    ∨ (mutilated = true ∨ y ∉ [0, 4, 5, 6]) ∧ p.body.length = 63
      ∧ call = { p with body := p.body ++ [y], damaged := p.damaged || mutilated }
      ∧ after = ⟨.skip, p.run, [], 0, [], false⟩)

/-- The counts after one symbol is taken (R152). -/
def RxCounts.counted (r : RxCounts) (mutilated : Bool) : RxCounts :=
  { r with
    symbols := if r.symbols < 4294967295 then r.symbols + 1 else 4294967295
    mutilated := if mutilated = false then r.mutilated
      else if r.mutilated < 4294967295 then r.mutilated + 1 else 4294967295 }

/-! ### Laws of the manual that every state keeps -/

/-- The store's cells are in their one canonical form. -/
abbrev State.memoryOk (s : State) : Prop := s.store.cells.wf = true

/-- R1 to R3: the clock stands within its range. -/
abbrev State.clockOk (s : State) : Prop := s.clock.day ≤ 65535 ∧ s.clock.ms ≤ 86399999

/-- The law of the Office Link (R173, R175, R178): at most 64 notices and one reply in the output list, at most four
frames in the buffer; a free transmitter has nothing to send, and a frame waits only behind a reply that waits. -/
abbrev Link.ok (k : Link) : Prop :=
  k.queued ≤ 64 ∧ k.output.countP (fun r => !r.isNotice) ≤ 1 ∧ k.buffer.length ≤ 4
    ∧ (k.sending = none → k.output = []) ∧ (k.buffer ≠ [] → k.replyWaits = true)
    ∧ (k.restarting = true → k.buffer = [])

/-- The law of the Office Link, with every notice offered. -/
abbrev State.linkOk (s : State) : Prop := s.link.ok ∧ s.outbox = []

/-- The law of the pending lists (R91). -/
abbrev State.requestsOk (s : State) : Prop :=
  ∀ c, (s.chan c).requests.length ≤ 4 ∧ (s.chan c).requests.Pairwise fun p q => p.before q = true

/-- The law of the hold tables and the captures-lost count (R161). -/
abbrev State.holdsOk (s : State) : Prop :=
  ∀ c, (s.chan c).holds.length ≤ 8 ∧ ((s.chan c).holds.map (·.ship)).Nodup ∧ (s.chan c).rx.capturesLost ≤ 255

/-- The law of the allowances (R39), the split being at most 512 (R26). -/
abbrev State.allowancesOk (s : State) : Prop :=
  s.store.split ≤ 512 ∧ (∀ c, (s.chan c).reserve ≤ (s.chan c).cap ∧ (s.chan c).cap ≤ s.poolSize)
    ∧ s.reserveSum ≤ s.poolSize

/-- The ranges of the settings (section 8.2), of k (R104), of the overrun count (R100) and of the run count
(section 9.2). -/
abbrev State.settingsOk (s : State) : Prop :=
  ∀ c, (s.chan c).settings.inRange = true ∧ (s.chan c).urgentRun ≤ 8 ∧ (s.chan c).stats.overrun ≤ 15
    ∧ (s.chan c).parser.run ≤ 16

/-- The pool blocks, each either free or in one place of one chain (R35 to R38). -/
abbrev State.blocksOk (s : State) : Prop :=
  (s.store.free ++ s.descs.toList.flatMap (·.chain)).Perm (poolBlocks s.store.split) ∧ s.store.split ≤ 1024

/-! ### Laws of the traffic -/

/-- The message of the active slot that an item keys, or that a marker closes. -/
def Item.slotMessage : Item → Option Handle
  | .header h _ _ _ _ | .segment h _ _ _ | .marker (.message h) _ _ => some h
  | .noItem | .idle | .marker (.request _ _ _) _ _ | .relay _ | .bulletin _ _ _ _ _ => none

/-- R63 to R66: a message's state, class and channel tell its one place, and no place holds anything else: the class
queues, the active slot, the sent list or the open load. No list names a handle twice, a relay is in no state but its own,
a FREE descriptor has no chain (R61), and no two live messages of a channel have one number (section 5.1). -/
abbrev State.placesOk (s : State) : Prop :=
  (∀ c k h, h ∈ (s.chan c).queue k ↔ (s.desc h).channel = c ∧ (s.desc h).cls = k
    ∧ ((s.desc h).state = .ready ∨ (s.desc h).state = .suspended ∨ k = .relay ∧ (s.desc h).state = .active))
  ∧ (∀ c h, (s.chan c).active = some h ↔ (s.desc h).channel = c ∧ (s.desc h).cls ≠ .relay
    ∧ ((s.desc h).state = .active ∨ (s.desc h).state = .parked))
  ∧ (∀ c h, h ∈ (s.chan c).sent ↔ (s.desc h).channel = c
    ∧ ((s.desc h).state = .awaitAck ∨ (s.desc h).state = .unconfirmed))
  ∧ (∀ c h, (∃ l, s.loadUnit.current = some l ∧ l.target = .telex h c)
    ↔ (s.desc h).channel = c ∧ (s.desc h).state = .loading)
  ∧ (∀ c, (∀ k, ((s.chan c).queue k).Nodup) ∧ (s.chan c).sent.Nodup)
  ∧ (∀ h, (s.desc h).cls = .relay → (s.desc h).state ∉ [.suspended, .parked, .awaitAck, .unconfirmed])
  ∧ (∀ h, (s.desc h).state = .free → (s.desc h).chain = [])
  ∧ ∀ g h, g ≠ h → (s.desc g).state ≠ .free → (s.desc h).state ≠ .free → (s.desc g).channel = (s.desc h).channel →
    (s.desc g).number ≠ (s.desc h).number

/-- R104 to R106, R121 and R131: a channel has an item exactly while it is keyed. The item keys or closes the ACTIVE
message of the slot, the ACTIVE relay at the head of its queue, or the ON-AIR request, and there is no other; a segment's
planned end lies beyond the resume point and within the text. -/
abbrev State.itemsOk (s : State) : Prop :=
  ∀ c, ((s.chan c).state.keyed = true ↔ (s.chan c).item ≠ .noItem)
    ∧ (∀ h, (s.chan c).item.slotMessage = some h ↔ (s.chan c).active = some h ∧ (s.desc h).state = .active)
    ∧ (∀ h, (s.chan c).item = .relay h ↔ h ∈ (s.chan c).relayQ ∧ (s.desc h).state = .active)
    ∧ (∀ h, (s.chan c).item = .relay h → (s.chan c).relayQ.head? = some h ∧ (s.desc h).resume < (s.desc h).length)
    ∧ (∀ q ∈ (s.chan c).requests, q.state = .onAir ↔ (s.chan c).item.onAirRequest = some (q.slot, q.due, q.area))
    ∧ (∀ x, (s.chan c).item.onAirRequest = some x → ∃ q ∈ (s.chan c).requests, x = (q.slot, q.due, q.area))
    ∧ (∀ h cost n e cut, (s.chan c).item = .header h cost n e cut →
      (s.desc h).resume < e ∧ e ≤ (s.desc h).length)
    ∧ ∀ h start e cut, (s.chan c).item = .segment h start e cut →
      start ≤ (s.desc h).resume ∧ (s.desc h).resume < e ∧ e ≤ (s.desc h).length

/-- R62: r ≤ L ≤ 8,192; a message past its loading has text (R55, R56). -/
abbrev State.textOk (s : State) : Prop :=
  ∀ h, (s.desc h).resume ≤ (s.desc h).length ∧ (s.desc h).length ≤ 8192
    ∧ ((s.desc h).state ≠ .free → (s.desc h).state ≠ .loading → 0 < (s.desc h).length)

/-- The channels that key an area, or the marker that closes its bulletin. -/
def State.keying (s : State) (a : AreaNo) : List ChannelNo :=
  allChannels.filter fun c => ((s.chan c).item.onAirRequest.map fun q => q.2.2) == some a

/-- R33: an area's on-air count is the number of requests that key it, and an area that is keyed is READY; an area is
LOADING exactly while the open load fills it (R49, R57, R59). -/
abbrev State.areasOk (s : State) : Prop :=
  ∀ a, (s.area a).onAir = (s.keying a).length ∧ (0 < (s.area a).onAir → (s.area a).state = .ready)
    ∧ ((∃ l, s.loadUnit.current = some l ∧ l.target = .bulletin a) ↔ (s.area a).state = .loading)

/-- R17 and R50: the open load's credit is within its clamped length less the symbols received, the symbols received are
those stored and those stripped, and a telex load's chain holds just the symbols received and granted. -/
abbrev State.loadOk (s : State) : Prop :=
  ∀ l, s.loadUnit.current = some l → l.received + l.outstanding ≤ l.clamped ∧ l.stored + l.stripped = l.received
    ∧ (∀ h c, l.target = .telex h c → l.clamped ≤ 8192 ∧ (l.waiting = true → l.outstanding = 0)
      ∧ (s.desc h).chain.length = ceilDiv (l.received + l.outstanding) 64 ∧ (s.desc h).length = l.stored)
    ∧ ∀ a, l.target = .bulletin a → (s.area a).length = l.stored

/-- The laws of the traffic together. -/
abbrev State.trafficOk (s : State) : Prop :=
  s.placesOk ∧ s.itemsOk ∧ s.textOk ∧ s.areasOk ∧ s.loadOk ∧ s.requestsOk

/-- A segment begins from one state to the next, with a planned end and a cost of its header (R112): its header, or,
without one, its text from the resume point. -/
def State.begins (s t : State) (c : ChannelNo) (h : Handle) (header : Option Nat) (e : Nat) : Prop :=
  (∀ k n e' cut, (s.chan c).item ≠ .header h k n e' cut) ∧
    match header with
    | some cost => ∃ cut, (t.chan c).item = .header h cost 0 e cut
    | none => (∃ cut, (t.chan c).item = .segment h (t.desc h).resume e cut)
      ∧ ∀ e' cut, (s.chan c).item ≠ .segment h (t.desc h).resume e' cut

end Sys2Proof.Machine
end

