-- ==== Sys2Proof/Certificates/Slice0/Obligations.lean ====
section
/-! DEFINITION. What is claimed of the part: one statement for each family of commands and events, the laws that every
step keeps, and the agreement of the office link's frames with the rows of the command table. Where a reply or a notice
has a count that needs no more than one byte, an enumerated value whose list the manual gives in prose only, or a variant
of its fields, the width, the code and the layout are the model's reading: notes/assumptions/9.md, 10.md and 11.md. -/

open Sys2Proof Sys2Proof.Machine

/-! ### Steps, resets and the frames of the office link -/

/-- A step takes the command at the front of the queue and is exec of it with the rest of the queue. -/
def Obligations.FrontCommandRuns : Prop :=
  ∀ (s : State) (c : Instr) (rest : List Instr), s.pending = c :: rest → step s = exec c { s with pending := rest }

/-- With no command waiting and no event due, one millisecond passes (R2, R8). That time passes while no command waits is
the model's choice, notes/assumptions/3.md. -/
def Obligations.IdleMillisecondPasses : Prop :=
  ∀ s : State, s.pending = [] → s.dueEvents = [] → s.outbox = [] → s.clock.beforeMidnight = false →
    step s = .next { s with clock := { s.clock with
      ms := if s.clock.running then s.clock.ms + 1 else s.clock.ms, elapsed := s.clock.elapsed + 1 } }

/-- No command, event or passing of time stops the part. -/
def Obligations.EveryStepGoesOn : Prop := ∀ s : State, s.goesOn

/-- POWER_ON_RESET in every state (R180, with the reset values of R1, R8, R26, R29, R35, R39, R44, R61, R64 to R66, R83,
R91, R104, R134, R135, R147, R151, R159, R168). Three clauses are the model's own: that no cell of the store is listed, so
that each reads as 0, is notes/assumptions/2.md; that the ready inputs, levels of the outside, stay is
notes/assumptions/24.md; and that STARTED is already the record on the line is notes/assumptions/6.md. The waiting commands
are the model's own field. -/
def Obligations.PowerOnResetState : Prop :=
  ∀ s : State, ∃ t, exec .powerOnReset s = .next t
    ∧ t.clock = ⟨0, 0, false, true, 0⟩
    ∧ t.store.split = 256 ∧ t.store.free.map Fin.val = List.range' 256 768 ∧ t.store.cells = []
    ∧ (∀ a, t.area a = ⟨.undefined, 0, 0, 0, 0, 0⟩)
    ∧ t.loadUnit = ⟨none, 128⟩
    ∧ (∀ h, (t.desc h).state = .free ∧ (t.desc h).chain = [])
    ∧ (∀ i, (t.slot i).state = .empty ∧ (t.slot i).nextDue = none)
    ∧ (∀ w, t.watch w = none)
    ∧ (∀ c, (t.chan c).state = .offline ∧ (t.chan c).ready = (s.chan c).ready
      ∧ (t.chan c).settings = ⟨150, 2000, 1000, 10000, 128, 16, 3, 300, 6, 3⟩ ∧ (t.chan c).lineCase = .unknown
      ∧ (t.chan c).faultReason = none ∧ (t.chan c).stats = ⟨0, 0, 0, 0, 0, 0, 0, 0, 0, 0, 0, 0, 0, 0, 0, 0⟩
      ∧ (t.chan c).relayQ = [] ∧ (t.chan c).urgentQ = [] ∧ (t.chan c).ordinaryQ = [] ∧ (t.chan c).active = none
      ∧ (t.chan c).sent = [] ∧ (t.chan c).reserve = 0 ∧ (t.chan c).cap = 768 ∧ (t.chan c).requests = []
      ∧ (t.chan c).item = .noItem ∧ (t.chan c).urgentRun = 0 ∧ (t.chan c).lastFit = none
      ∧ (t.chan c).parser.state = .hunt ∧ (t.chan c).holds = [] ∧ (t.chan c).latch = none
      ∧ (t.chan c).rx = ⟨0, 0, 0, 0, 0, 0, 0, 0, 0, 0, 0⟩)
    ∧ t.link.rx.phase = .hunt ∧ t.link.buffer = [] ∧ t.link.output = [] ∧ t.link.restarting = false
    ∧ (∀ n, n < 7 → t.link.categories.getLsbD n = true) ∧ t.link.channels = 0xFF ∧ t.link.pendingLoss = 0
    ∧ t.link.badCrc = 0 ∧ t.link.overlength = 0 ∧ t.link.gapTimeouts = 0 ∧ t.link.bufferFull = 0
    ∧ t.link.noticesLost = 0
    ∧ t.link.sending = some (.notice ⟨.started, none, 0, [.num 1 0, .num 2 0x4C38, .num 1 1]⟩)
    ∧ t.pending = s.pending

/-- RESTART taken (R181, steps 1 to 3), as it arrives or from the head of the buffer: its ACCEPT is the head of an
otherwise empty output, every frame behind it leaves the buffer, and the frame in reception is abandoned; nothing else
changes. From then to the reset every byte, and every frame however it came, is ignored. That the ACCEPT follows a frame
already on the line, a reply's as well as a notice's, is the model's reading, notes/assumptions/21.md; that the frame at
the buffer's head is taken in the step of the frame's end that lets it be taken is notes/assumptions/4.md. -/
def Obligations.RestartTaken : Prop :=
  ∀ s : State,
    let accept : Record := .reply 0x02 (.accept [])
    (s.takesAtOnce → exec (.restart []) s = .next { s with link := { s.link with
      restarting := true, rx := ⟨.hunt, [], [], 0⟩
      sending := some (s.link.sending.getD accept)
      output := if s.link.sending = none then [] else [accept] } })
    ∧ (∀ (r : Record) (fs : List Frame), s.link.restarting = false → s.link.sending = some r →
      s.link.buffer = ⟨0x02, []⟩ :: fs → (∀ n ∈ s.link.output.tail, n.isNotice = true) →
      exec .frameTransmitEnd s = .next { s with link := { s.link with
        restarting := true, rx := ⟨.hunt, [], [], 0⟩, buffer := []
        sending := some (s.link.output.head?.getD accept)
        output := if s.link.output = [] then [] else [accept] } })
    ∧ ∀ b kind body, s.link.restarting = true →
      exec (.officeLinkByte b) s = .next s ∧ exec (commandOf kind body) s = .next s

/-- RESTART completed (R181): at the last byte of its ACCEPT the part takes its power-on values, but the station clock
keeps its four items and STARTED has reason RESTART and the clock's stamp. -/
def Obligations.RestartCompletes : Prop :=
  ∀ (s u : State) (r : Record), s.link.restarting = true → s.link.output = [] → s.link.sending = some r →
    exec .powerOnReset s = .next u →
    exec .frameTransmitEnd s = .next { u with
      clock := { s.clock with elapsed := 0 }
      link := { u.link with
        sending := some (.notice ⟨.started, none, s.clock.ms, [.num 1 1, .num 2 0x4C38, .num 1 1]⟩) } }

/-- A frame's end frees the transmitter, which begins the record at the head of its list, a reply or a notice (R175). While
a reply still waits in the list, nothing more happens. When none does, the frame at the buffer's head is taken (R173): it
leaves the buffer, and State.takeFrame, the taking of every command that is taken at once, acts on the state without it,
which for the last frame of the buffer is exec of its command. That this happens in the same step is the model's reading,
notes/assumptions/4.md. While a RESTART is under way and its ACCEPT still waits behind the frame on the line, the ACCEPT
begins and no frame is taken (R181 step 3). -/
def Obligations.FrameEndBeginsNext : Prop :=
  (∀ (s : State) (r : Record), s.link.restarting = false → s.link.sending = some r →
    let k : Link := { s.link with sending := s.link.output.head?, output := s.link.output.tail }
    let x := exec .frameTransmitEnd s
    (s.link.buffer = [] ∨ (∃ n ∈ s.link.output.tail, n.isNotice = false) → x = .next { s with link := k })
    ∧ ∀ (f : Frame) (fs : List Frame), s.link.buffer = f :: fs → (∀ n ∈ s.link.output.tail, n.isNotice = true) →
      x = .next (State.takeFrame { s with link := { k with buffer := fs } } f.kind f.body)
      ∧ (fs = [] → x = exec (commandOf f.kind f.body) { s with link := { k with buffer := [] } }))
  ∧ (∀ (s : State) (r a : Record) (rest : List Record), s.link.restarting = true → s.link.sending = some r →
    s.link.output = a :: rest →
    exec .frameTransmitEnd s = .next { s with link := { s.link with sending := some a, output := rest } })
  ∧ ∀ (s : State) (kind : Byte) (body : Body), s.takesAtOnce →
    exec (commandOf kind body) s = .next (s.takeFrame kind body)

/-- A frame that cannot be taken now joins the buffer, or is discarded and counted when it holds four (R173). -/
def Obligations.BufferTakesFourFrames : Prop :=
  ∀ (s : State) (kind : Byte) (body : Body), s.link.restarting = false →
    (s.link.buffer ≠ [] ∨ s.link.replyWaits = true) →
    exec (commandOf kind body) s = .next { s with link :=
      if s.link.buffer.length < 4 then { s.link with buffer := s.link.buffer ++ [⟨kind, body⟩] }
      else { s.link with bufferFull := if s.link.bufferFull < 65535 then s.link.bufferFull + 1 else 65535 } }

/-- The bytes of a frame (section 10.1, R170), taken one by one from HUNT, are the row of the table that its kind names,
whatever the kind and the body (R171, R173, R174). -/
def Obligations.FramesSpellCommands : Prop :=
  ∀ (s : State) (kind : Byte) (body : Body), body.length ≤ 512 → s.link.rx.phase = .hunt →
    s.link.restarting = false →
    s.feed (frameBytes kind body)
      = exec (commandOf kind body) { s with link := { s.link with rx := ⟨.hunt, [], [], s.clock.elapsed⟩ } }

/-- Faulty frames are thrown away whole (R171): a byte that starts no frame, a body length above 512, and a check that
differs. -/
def Obligations.FaultyFramesAreDiscarded : Prop :=
  ∀ s : State, s.link.rx.phase = .hunt → s.link.restarting = false →
    (∀ b : Byte, b ≠ 0xA5 → exec (.officeLinkByte b) s = .next s)
    ∧ (∀ n : Nat, 512 < n → n ≤ 65535 → s.feed (0xA5 :: toBe 2 n) = .next { s with link := { s.link with
        rx := ⟨.hunt, [], [], s.clock.elapsed⟩
        overlength := if s.link.overlength < 65535 then s.link.overlength + 1 else 65535 } })
    ∧ ∀ (kind : Byte) (body check : Body), body.length ≤ 512 → check.length = 2 →
      be check ≠ (crc (frameCore kind body)).toNat →
      s.feed (0xA5 :: frameCore kind body ++ check) = .next { s with link := { s.link with
        rx := ⟨.hunt, [], [], s.clock.elapsed⟩
        badCrc := if s.link.badCrc < 65535 then s.link.badCrc + 1 else 65535 } }

/-- The gap rule (R172): the time since the last byte taken, a gap of exactly 50 ms allowed, and both orders of a byte and
a gap of the same millisecond. -/
def Obligations.GapRule : Prop :=
  ∀ s : State, s.link.restarting = false →
    (s.link.rx.phase = .hunt → exec .gapTimeout s = .next s)
    ∧ (s.clock.elapsed ≤ s.link.rx.lastAt + 50 → exec .gapTimeout s = .next s)
    ∧ (s.link.rx.phase ≠ .hunt → s.link.rx.lastAt + 50 < s.clock.elapsed →
      ∃ t, exec .gapTimeout s = .next t
        ∧ t = { s with link := { s.link with
          rx := ⟨.hunt, [], [], s.link.rx.lastAt⟩
          gapTimeouts := if s.link.gapTimeouts < 65535 then s.link.gapTimeouts + 1 else 65535 } }
        ∧ ∃ u, exec (.officeLinkByte 0xA5) t = .next u ∧ u.link.rx = ⟨.length, [], [], s.clock.elapsed⟩)
    ∧ ∀ (b : Byte) (t : State), s.link.rx.phase ≠ .hunt → exec (.officeLinkByte b) s = .next t →
      t.link.rx.phase ≠ .hunt → t.link.rx.lastAt = s.clock.elapsed ∧ exec .gapTimeout t = .next t

/-! ### Judging commands -/

/-- The first two judgements of R174. A frame whose kind is no command's is refused BAD-FORM. A body of another size than
its command's is refused BAD-FORM: the fixed sizes of section 10.3, 1 to 256 for TEXT, and 4 plus twice the value count
for SET-WATCH. Nothing else changes. -/
def Obligations.FormIsJudged : Prop :=
  ∀ (s : State) (kind : Byte) (body : Body), s.takesAtOnce →
    (isCommandKind kind = false → exec (.badForm kind body) s = .next (s.refused kind .badForm))
    ∧ (∀ n, fixedSize kind = some n → body.length ≠ n →
      exec (commandOf kind body) s = .next (s.refused kind .badForm))
    ∧ (body.length = 0 ∨ 256 < body.length → exec (.text body) s = .next (s.refused 0x0F .badForm))
    ∧ (body.length < 4 ∨ body.length ≠ 4 + 2 * (body.getD 2 0).toNat →
      exec (.setWatch body) s = .next (s.refused 0x25 .badForm))

/-- A command of the right size that names a channel above 7, a slot above 63, an area above 31 or a watch above 3 is
refused RANGE, whatever else it carries (R30, R31, R40, R46, R48, R80, R85 to R88, R103, R133, R135 to R137, R143, R144,
R146, R148, R159, R162, R167, R168). SET-WATCH, whose size varies, is in WatchesAndCaptures. -/
def Obligations.NumbersAreJudged : Prop :=
  ∀ (s : State) (kind b : Byte) (body : Body), s.takesAtOnce → fixedSize kind = some (body.length + 1) →
    (kind ∈ ([0x0A, 0x0D, 0x12, 0x1B, 0x1C, 0x1D, 0x1E, 0x1F, 0x20, 0x21, 0x22, 0x23, 0x24, 0x28, 0x29, 0x2A, 0x2B]
        : List Byte) ∧ 7 < b.toNat
      ∨ kind ∈ ([0x16, 0x17, 0x18, 0x19, 0x1A] : List Byte) ∧ 63 < b.toNat
      ∨ kind ∈ ([0x08, 0x09, 0x0E] : List Byte) ∧ 31 < b.toNat
      ∨ kind ∈ ([0x26, 0x27] : List Byte) ∧ 3 < b.toNat) →
    exec (commandOf kind (b :: body)) s = .next (s.refused kind .range)

/-- Every taken command but an accepted RESTART forms exactly one reply of its kind, behind every record formed before
and ahead of the notices of its action (R173 to R175); and a command whose reply is a refusal changes nothing else (R174). -/
def Obligations.EachCommandHasOneReply : Prop :=
  ∀ (s : State) (kind : Byte) (body : Body), s.takesAtOnce →
    ((kind = 0x02 → body ≠ []) → ∃ t a ns, exec (commandOf kind body) s = .next t
      ∧ t.link.formed = s.link.formed ++ [Record.reply kind a] ++ List.map Record.notice ns)
    ∧ ∀ (t : State) (r : Reason) (later : List Record), exec (commandOf kind body) s = .next t →
      t.link.formed = s.link.formed ++ Record.reply kind (.refuse r) :: later → t = s.refused kind r

/-! ### Notices -/

/-- A midnight rollover (R2, R8) whose DAY notice passes the masks and finds a place (R177, R178). -/
def Obligations.MidnightRollsOver : Prop :=
  ∀ s : State, s.outbox = [] → s.link.restarting = false → s.clock.running = true → s.clock.ms = 86399999 →
    s.clock.day < 65535 → s.link.queued < 64 → s.link.pendingLoss = 0 → s.link.categories.getLsbD 5 = true →
    exec .midnightRollover s = .next { s with
      clock := { s.clock with day := s.clock.day + 1, ms := 0, elapsed := s.clock.elapsed + 1 }
      link := s.link.place (.notice ⟨.day, none, 0, [.num 2 (s.clock.day + 1), .num 1 s.clock.isSet.toNat]⟩) }

/-- The table of the notice queue (R177, R178), shown by the CLOCK-STOPPED notice of R3: the clock stops in every case,
and the notice is masked, lost, queued, queued behind a NOTICES-LOST, or lost behind one. -/
def Obligations.ClockStopsAndItsNoticeIsJudged : Prop :=
  ∀ s : State, s.outbox = [] → s.link.restarting = false → s.clock.running = true → s.clock.day = 65535 →
    s.clock.ms = 86399999 →
    ∃ k, exec .clockStopped s = .next { s with clock := { s.clock with running := false }, link := k }
      ∧ (s.link.categories.getLsbD 5 = false → k = s.link)
      ∧ (s.link.categories.getLsbD 5 = true → 64 ≤ s.link.queued →
        k = { s.link with
          pendingLoss := if s.link.pendingLoss < 65535 then s.link.pendingLoss + 1 else 65535
          noticesLost := if s.link.noticesLost < 65535 then s.link.noticesLost + 1 else 65535 })
      ∧ (s.link.categories.getLsbD 5 = true → s.link.queued < 64 → s.link.pendingLoss = 0 →
        k = s.link.place (.notice ⟨.clockStopped, none, 86399999, []⟩))
      ∧ (s.link.categories.getLsbD 5 = true → s.link.queued < 63 → 0 < s.link.pendingLoss →
        k.pendingLoss = 0 ∧ k.noticesLost = s.link.noticesLost
          ∧ k.formed = s.link.formed ++ [.notice ⟨.noticesLost, none, 86399999, [.num 2 s.link.pendingLoss]⟩,
            .notice ⟨.clockStopped, none, 86399999, []⟩])
      ∧ (s.link.categories.getLsbD 5 = true → s.link.queued = 63 → 0 < s.link.pendingLoss →
        k.pendingLoss = 1
          ∧ k.noticesLost = (if s.link.noticesLost < 65535 then s.link.noticesLost + 1 else 65535)
          ∧ k.formed = s.link.formed ++ [.notice ⟨.noticesLost, none, 86399999, [.num 2 s.link.pendingLoss]⟩])

/-! ### The Office Link and the Station Clock -/

/-- PING (R179) and READ-CLOCK (R7) report and change nothing. The clock's flag and run condition are sent by their
positions in the table of section 1.1, as section 10.1 has enumerated values: UNSET and RUNNING 0, SET and STOPPED 1. That
section 10.1 is so read is the model's, notes/assumptions/10.md. -/
def Obligations.PartAndClockReports : Prop :=
  ∀ s : State, s.takesAtOnce →
    exec (.ping []) s = .next (s.accepted 0x01 [.num 2 0x4C38, .num 1 0x01])
    ∧ exec (.readClock []) s = .next (s.accepted 0x06 [.num 2 s.clock.day, .num 4 s.clock.ms,
      .num 1 s.clock.isSet.toNat, .num 1 (if s.clock.running then 0 else 1), .num 6 s.clock.elapsed])

/-- The masks and counts of the link. SET-NOTICES (R177) replaces both masks and reports the previous ones; a category
byte with its most significant bit set is refused RANGE. READ-LINK (R179) reports the receiver and the counts, and with
its clear flag sets the five link counts to 0; another flag is refused RANGE (R174 step 3). That the last two counts of
the reply take one byte is the model's reading, notes/assumptions/9.md. -/
def Obligations.MasksAndLinkCounts : Prop :=
  ∀ (s : State) (cats chans b : Byte), s.takesAtOnce →
    let fs : List Field := [.num 1 s.link.rx.phase.code, .num 2 s.link.badCrc, .num 2 s.link.overlength,
      .num 2 s.link.gapTimeouts, .num 2 s.link.bufferFull, .num 2 s.link.noticesLost, .num 2 s.link.pendingLoss,
      .num 1 s.link.queued, .num 1 0]
    exec (.setNotices [cats, chans]) s = .next (if cats.toNat < 128 then
        State.accepted { s with link := { s.link with categories := cats, channels := chans } } 0x04
          [.num 1 s.link.categories.toNat, .num 1 s.link.channels.toNat]
      else s.refused 0x04 .range)
    ∧ exec (.readLink [0]) s = .next (s.accepted 0x03 fs)
    ∧ exec (.readLink [1]) s = .next (State.accepted { s with link := { s.link with
      badCrc := 0, overlength := 0, gapTimeouts := 0, bufferFull := 0, noticesLost := 0 } } 0x03 fs)
    ∧ (1 < b.toNat → exec (.readLink [b]) s = .next (s.refused 0x03 .range))

/-- SET-CLOCK (R5, R10, R101, R102): a ms of day above 86,399,999 is refused RANGE. Otherwise the clock takes the value,
SET, and RUNNING unless it is the last of all, elapsed time stays, and the reply reports the clock as it stood. Every
ENABLED entry has its next-due recomputed, and an occurrence exactly at the new time is taken: its next-due moves on by its
period, and a channel of its set in service has its request (shown for one that is not STANDBY and has no other request).
Entries that are not ENABLED stay. A READY message never keyed whose expiry is passed is freed (R75). A WAITING request
whose D is reached ends on an unkeyed channel, and every request of a keyed channel, and one of a KEY-UP or FAULTED channel
before its D, stays. -/
def Obligations.SetClockSetsTheClock : Prop :=
  ∀ (s : State) (day ms : Nat), s.takesAtOnce → day ≤ 65535 → ms < 2 ^ 32 →
    let now := day * 86400000 + ms
    (86399999 < ms → exec (.setClock (toBe 2 day ++ toBe 4 ms)) s = .next (s.refused 0x05 .range))
    ∧ (ms ≤ 86399999 → ∃ t ns, exec (.setClock (toBe 2 day ++ toBe 4 ms)) s = .next t
      ∧ t.clock = ⟨day, ms, true, !(decide (day = 65535) && decide (ms = 86399999)), s.clock.elapsed⟩
      ∧ t.link.formed = s.link.formed ++ [Record.reply 0x05 (.accept [.num 2 s.clock.day, .num 4 s.clock.ms,
        .num 1 s.clock.isSet.toNat, .num 1 (if s.clock.running then 0 else 1)])] ++ List.map Record.notice ns
      ∧ t.store.cells = s.store.cells ∧ t.store.split = s.store.split ∧ t.watches = s.watches
      ∧ t.pending = s.pending ∧ (∀ c, (t.chan c).settings = (s.chan c).settings)
      ∧ (∀ i, ((s.slot i).state ≠ .enabled → t.slot i = s.slot i)
        ∧ ((s.slot i).state = .enabled → now < (s.slot i).earliest now →
          t.slot i = { s.slot i with nextDue := some ((s.slot i).earliest now) })
        ∧ ((s.slot i).state = .enabled → (s.slot i).earliest now = now → 0 < (s.slot i).period →
          t.slot i = { s.slot i with nextDue := some (now + (s.slot i).period * 60000) }))
      ∧ (∀ c i, (s.slot i).state = .enabled → inSet (s.slot i).channels c = true → (s.slot i).earliest now = now →
        (∀ j, j ≠ i → (s.slot j).state = .enabled → inSet (s.slot j).channels c = true →
          now < (s.slot j).earliest now) →
        (s.chan c).requests = [] → (s.chan c).state ∈ [.keyUp, .onAir, .closing, .faulted] →
        (t.chan c).requests = [⟨i, (s.slot i).area, now, now + (s.slot i).window + (s.chan c).settings.period, .waiting, 0,
          none⟩])
      ∧ (s.placesOk → ∀ h e, (s.desc h).state = .ready → (s.desc h).firstKeyed = none → (s.desc h).expiry = some e →
        e < now → (t.desc h).state = .free)
      ∧ ∀ c, ∀ q ∈ (s.chan c).requests,
        ((∀ j, (s.slot j).state = .enabled → 0 < (s.slot j).period) → 0 < (s.chan c).settings.period →
          (s.chan c).state ∈ [.standby, .keyUp, .faulted] → q.state = .waiting → q.deadline ≤ now →
          q ∉ (t.chan c).requests)
        ∧ ((s.chan c).state ∈ [.onAir, .closing] → q ∈ (t.chan c).requests)
        ∧ ((s.chan c).state ∈ [.keyUp, .faulted] → now < q.deadline →
          (∀ p ∈ (s.chan c).requests, p.slot = q.slot → p.due = q.due → p = q) → q ∈ (t.chan c).requests))

/-! ### The Text Store -/

/-- SET-SPLIT (R27, R28): its three refusals in order, and the new split with the pool's blocks free in ascending order
and every cap lowered to the pool size. -/
def Obligations.SetSplitMovesTheBoundary : Prop :=
  ∀ (s : State) (nb : Nat), s.takesAtOnce → nb ≤ 65535 →
    let x := exec (.setSplit (toBe 2 nb)) s
    let inUse := (∃ a, (s.area a).state ≠ .undefined) ∨ s.loadUnit.current ≠ none ∨ ∃ h, (s.desc h).chain ≠ []
    let reserves := (allChannels.map fun c => (s.chan c).reserve).sum
    (512 < nb → x = .next (s.refused 0x07 .range))
    ∧ (nb ≤ 512 → inUse → x = .next (s.refused 0x07 .state))
    ∧ (nb ≤ 512 → ¬inUse → 1024 - nb < reserves → x = .next (s.refused 0x07 .range))
    ∧ (nb ≤ 512 → ¬inUse → reserves ≤ 1024 - nb → ∃ free : List BlockNo,
      free.map Fin.val = List.range' nb (1024 - nb)
      ∧ x = .next (State.accepted { s with
          store := { s.store with split := nb, free := free }
          channels := s.channels.map fun ch => { ch with cap := min ch.cap (1024 - nb) } } 0x07
        ([.num 2 nb, .num 2 (1024 - nb)] ++ allChannels.map fun c => .num 2 (min (s.chan c).cap (1024 - nb)))))

/-- DEFINE-AREA and CLEAR-AREA (R30, R31): the refusals in order, an area being locked while it is keyed or loaded; the
area EMPTY with its blocks, or UNDEFINED. -/
def Obligations.AreasAreDefinedAndCleared : Prop :=
  ∀ (s : State) (a : AreaNo) (first last : Nat), s.takesAtOnce → first ≤ 65535 → last ≤ 65535 →
    let x := exec (.defineArea (byteOf a.val :: (toBe 2 first ++ toBe 2 last))) s
    let y := exec (.clearArea [byteOf a.val]) s
    let inRange := first ≤ last ∧ last < s.store.split ∧ last - first < 256
    let locked := 0 < (s.area a).onAir ∨ ∃ l, s.loadUnit.current = some l ∧ l.target = .bulletin a
    let overlap := ∃ b, b ≠ a ∧ (s.area b).state ≠ .undefined ∧ (s.area b).first ≤ last ∧ first ≤ (s.area b).last
    (¬inRange → x = .next (s.refused 0x08 .range))
    ∧ (inRange → locked → x = .next (s.refused 0x08 .busy))
    ∧ (inRange → ¬locked → overlap → x = .next (s.refused 0x08 .overlap))
    ∧ (inRange → ¬locked → ¬overlap →
      x = .next ((s.setArea a ⟨.empty, first, last, (last - first + 1) * 64, 0, 0⟩).accepted 0x08
        [.num 1 a.val, .num 2 ((last - first + 1) * 64)]))
    ∧ (locked → y = .next (s.refused 0x09 .busy))
    ∧ (¬locked → y = .next ((s.setArea a ⟨.undefined, 0, 0, 0, 0, 0⟩).accepted 0x09 [.num 1 a.val]))

/-- SET-ALLOWANCE (R40): refused RANGE against the pool size and the other reserves; accepted, it sets the two values and
reports them with the use. SET-LOAD-GRAIN (R45) takes 64, 128 or 256, and refuses another value RANGE. Both have a waiting
grant judged again (R42, R51). -/
def Obligations.AllowanceAndGrainAreSet : Prop :=
  ∀ (s : State) (c : ChannelNo) (reserve cap g : Nat), s.takesAtOnce → reserve ≤ 65535 → cap ≤ 65535 → g ≤ 65535 →
    let x := exec (.setAllowance (byteOf c.val :: (toBe 2 reserve ++ toBe 2 cap))) s
    let others := (allChannels.map fun d => if d = c then 0 else (s.chan d).reserve).sum
    let ok := reserve ≤ cap ∧ cap ≤ 1024 - s.store.split ∧ reserve + others ≤ 1024 - s.store.split
    (¬ok → x = .next (s.refused 0x0A .range))
    ∧ (ok → x = .next
      (((s.setChan c { s.chan c with reserve := reserve, cap := cap }).rejudgeGrant.accepted 0x0A
        [.num 1 c.val, .num 2 reserve, .num 2 cap, .num 2 (s.use c)]).flush))
    ∧ (g = 64 ∨ g = 128 ∨ g = 256 → exec (.setLoadGrain (toBe 2 g)) s = .next
      ((State.rejudgeGrant { s with loadUnit := ⟨s.loadUnit.current, g⟩ }).accepted 0x0C [.num 2 g]).flush)
    ∧ (g ≠ 64 ∧ g ≠ 128 ∧ g ≠ 256 → exec (.setLoadGrain (toBe 2 g)) s = .next (s.refused 0x0C .range))

/-- READ-STORE (R43) reports the split, the pool size and F, the eight allowances with their uses and the 32 areas, in
375 bytes, and changes nothing. -/
def Obligations.ReadStoreReports : Prop :=
  ∀ s : State, s.takesAtOnce →
    let fs : List Field := [.num 2 s.store.split, .num 2 (1024 - s.store.split), .num 2 s.store.free.length]
      ++ allChannels.flatMap (fun c => [.num 2 (s.chan c).reserve, .num 2 (s.chan c).cap, .num 2 (s.use c)])
      ++ (List.finRange 32).flatMap fun a => [.num 2 (s.area a).first, .num 2 (s.area a).last,
        .num 2 (s.area a).capacity, .num 2 (s.area a).length, .num 1 (s.area a).state.code, .num 1 (s.area a).onAir]
    exec (.readStore []) s = .next (s.accepted 0x0B fs) ∧ (0x0B :: fieldBytes fs).length = 375

/-- A freed message (R38, R61, R63): it leaves every list of its channel, its chain goes to the back of the free list in
chain order, its descriptor is FREE; F rises by the chain, and the use of its channel alone falls by it. -/
def Obligations.FreedMessageReturnsItsBlocks : Prop :=
  ∀ (s : State) (h : Handle),
    let d := s.desc h
    let ch := s.chan d.channel
    let t := s.freeMessage h
    (t.desc h).state = .free ∧ (t.desc h).chain = [] ∧ (∀ g, g ≠ h → t.desc g = s.desc g)
    ∧ t.store = { s.store with free := s.store.free ++ d.chain }
    ∧ (∀ c, c ≠ d.channel → t.chan c = s.chan c)
    ∧ t.chan d.channel = { ch with
        relayQ := ch.relayQ.filter (· ≠ h), urgentQ := ch.urgentQ.filter (· ≠ h)
        ordinaryQ := ch.ordinaryQ.filter (· ≠ h), sent := ch.sent.filter (· ≠ h)
        active := if ch.active = some h then none else ch.active }
    ∧ t.freeCount = s.freeCount + d.chain.length
    ∧ t.use d.channel + d.chain.length = s.use d.channel ∧ ∀ c, c ≠ d.channel → t.use c = s.use c

/-! ### The Load Unit -/

/-- The re-judgement of a waiting grant (R41, R42, R50 to R52): the need, the blocks it needs, usable(c), the blocks from
the front of the free list to the tail of the chain, and the CREDIT notice; or nothing. A bulletin load, a load that does
not wait, and no load are left as they are. -/
def Obligations.WaitingGrantIsJudged : Prop :=
  ∀ s : State,
    (∀ l h c, s.loadUnit.current = some l → l.target = .telex h c → l.waiting = true →
      let need := min s.loadUnit.grain (l.clamped - l.received)
      let k := (l.received + need + 63) / 64 - (s.desc h).chain.length
      let withheld := (allChannels.map fun d => if d = c then 0 else (s.chan d).reserve - s.use d).sum
      let usable := min ((s.chan c).cap - s.use c) (s.store.free.length - withheld)
      s.rejudgeGrant = if k ≤ usable then
          State.setDesc { s with
            store := { s.store with free := s.store.free.drop k }
            loadUnit := ⟨some { l with outstanding := need, waiting := false }, s.loadUnit.grain⟩
            outbox := s.outbox ++ [⟨.credit, some c, s.clock.ms,
              [.num 1 h.val, .num 2 need, .num 2 l.received, .num 2 l.clamped]⟩] } h
            { s.desc h with chain := (s.desc h).chain ++ s.store.free.take k }
        else s)
    ∧ (s.loadUnit.current = none → s.rejudgeGrant = s)
    ∧ (∀ l, s.loadUnit.current = some l → l.waiting = false → s.rejudgeGrant = s)
    ∧ ∀ l a, s.loadUnit.current = some l → l.target = .bulletin a → s.rejudgeGrant = s

/-- DECLARE-MESSAGE (R46, R47). A channel byte above 7, a class byte above 2, or a presence or confirm byte above 1 is
refused RANGE, whatever else the command carries (R174 step 3). Otherwise the five refusals come in order; then the FREE
descriptor of the lowest handle is filled, the load is opened, and the first grant is made or waits. -/
def Obligations.DeclareMessageOpensALoad : Prop :=
  (∀ (s : State) (body : Body), s.takesAtOnce → body.length = 17 →
    7 < (body.getD 0 0).toNat ∨ 2 < (body.getD 6 0).toNat ∨ 1 < (body.getD 9 0).toNat ∨ 1 < (body.getD 16 0).toNat →
    exec (.declareMessage body) s = .next (s.refused 0x0D .range))
  ∧ ∀ (s : State) (d : Declaration) (c : ChannelNo), s.takesAtOnce → d.channel = some c → d.fits →
    let x := exec (.declareMessage (d.body c)) s
    let bad := d.number = 0 ∨ 99999 < d.dest ∨ d.length = 0 ∨ ∃ e, d.expiry = some e ∧ 86399999 < e.2
    let unset := d.expiry ≠ none ∧ s.clock.isSet = false
    let dup := ∃ g, (s.desc g).state ≠ .free ∧ (s.desc g).channel = c ∧ (s.desc g).number = d.number
    (bad → x = .next (s.refused 0x0D .range))
    ∧ (¬bad → s.loadUnit.current ≠ none → x = .next (s.refused 0x0D .loadOpen))
    ∧ (¬bad → s.loadUnit.current = none → unset → x = .next (s.refused 0x0D .clockUnset))
    ∧ (¬bad → s.loadUnit.current = none → ¬unset → dup → x = .next (s.refused 0x0D .duplicate))
    ∧ (¬bad → s.loadUnit.current = none → ¬unset → ¬dup → (∀ g, (s.desc g).state ≠ .free) →
      x = .next (s.refused 0x0D .tableFull))
    ∧ ∀ h, ¬bad → s.loadUnit.current = none → ¬unset → ¬dup → (s.desc h).state = .free → (s.desc h).chain = [] →
      (∀ g, g < h → (s.desc g).state ≠ .free) →
      let lc := min d.length 8192
      let n := min s.loadUnit.grain lc
      let k := (n + 63) / 64
      let made := decide (k ≤ s.usable c)
      x = .next ((State.setDesc { s with
          store := { s.store with free := if made then s.store.free.drop k else s.store.free }
          loadUnit := ⟨some ⟨.telex h c, lc, 0, if made then n else 0, 0, 0, 0, decide (8192 < d.length), !made⟩,
            s.loadUnit.grain⟩ } h
          ⟨.loading, c, d.number, d.dest, d.cls, 0, 0, if made then s.store.free.take k else [],
            d.confirm && decide (d.cls ≠ .relay), d.expiry.map fun e => e.1 * 86400000 + e.2, 0,
            decide (8192 < d.length), 0, 0, 0, none, none, none, false⟩).accepted 0x0D
        [.num 1 h.val, .num 2 lc, .num 2 (if made then n else 0)])

/-- OPEN-BULLETIN (R48, R49): the refusals in order; then the area is LOADING and the whole clamped length is granted. -/
def Obligations.OpenBulletinGrantsTheWholeLength : Prop :=
  ∀ (s : State) (a : AreaNo) (n : Nat), s.takesAtOnce → n ≤ 65535 →
    let area := s.area a
    let lc := min n area.capacity
    exec (.openBulletin (byteOf a.val :: toBe 2 n)) s = .next (
      if n = 0 then s.refused 0x0E .range
      else if s.loadUnit.current ≠ none then s.refused 0x0E .loadOpen
      else if area.state = .undefined then s.refused 0x0E .state
      else if 0 < area.onAir then s.refused 0x0E .busy
      else (State.setArea { s with
          loadUnit := ⟨some ⟨.bulletin a, lc, 0, lc, 0, 0, 0, decide (area.capacity < n), false⟩, s.loadUnit.grain⟩ } a
          { area with state := .loading, length := 0 }).accepted 0x0E
        [.num 1 a.val, .num 2 lc, .num 2 lc, .num 1 (decide (area.capacity < n)).toNat])

/-- The symbols of a TEXT reach the store (R16, R32, R36, R54 step 1): codes 4 to 6 are removed, codes above 63 become the
query, the rest is written in order at the indices that follow the stored length, and no other cell changes. Index i of a
message lies in its chain's block number i / 64, index i of an area in block first + i / 64, both at cell i mod 64 (R32,
R36): the load writes there and the keyer reads there. No two indices of one text share a cell, and where the blocks are in
one place each (StepKeepsTheBlocks), no two messages share one, nor a message and an area of the bulletin region. -/
def Obligations.TextCleansAndStores : Prop :=
  (∀ (address : Nat → Nat) (m : Memory) (n : Nat) (bs : List Byte),
    let kept : List Byte := bs.filter fun b => decide (b.toNat < 4 ∨ 6 < b.toNat)
    let ys : List Byte := kept.map fun b => if b.toNat < 64 then b else 46
    let r := storeText address m n bs
    m.wf = true → r.2 = n + ys.length ∧ r.1.wf = true
      ∧ (∀ a, (∀ i, i < ys.length → a ≠ address (n + i)) → r.1.read a = m.read a)
      ∧ ((∀ i j, i < j → j < ys.length → address (n + i) ≠ address (n + j)) →
        ∀ i, i < ys.length → r.1.read (address (n + i)) = ys.getD i 0))
  ∧ (∀ (s : State) (h : Handle) (c : ChannelNo) (i : Nat) (b : BlockNo), (s.desc h).chain[i / 64]? = some b →
    s.targetAddress (.telex h c) i = 64 * b.val + i % 64
    ∧ s.textSymbol h i = (s.store.cells.read (64 * b.val + i % 64)).toNat)
  ∧ (∀ (s : State) (a : AreaNo) (i : Nat),
    s.targetAddress (.bulletin a) i = 64 * ((s.area a).first + i / 64) + i % 64
    ∧ s.areaSymbol a i = (s.store.cells.read (64 * ((s.area a).first + i / 64) + i % 64)).toNat
    ∧ ∀ j, i ≠ j → s.targetAddress (.bulletin a) i ≠ s.targetAddress (.bulletin a) j)
  ∧ ∀ (s : State) (g h : Handle) (c d : ChannelNo) (i j : Nat), s.blocksOk →
    i < 64 * (s.desc g).chain.length →
    ((g, i) ≠ (h, j) → j < 64 * (s.desc h).chain.length →
      s.targetAddress (.telex g c) i ≠ s.targetAddress (.telex h d) j)
    ∧ ∀ a, (s.area a).first + j / 64 < s.store.split →
      s.targetAddress (.telex g c) i ≠ s.targetAddress (.bulletin a) j

/-- TEXT (R53, R54): refused NO-LOAD and OVER-CREDIT; otherwise its symbols are taken into the open load and its target
follows (shown for a TEXT that does not complete the load). A TEXT that uses up the credit of a telex load has the next
grant judged (R50, R51): made, with its CREDIT notice behind the reply (R52), or left waiting. -/
def Obligations.TextIsTakenWithinCredit : Prop :=
  ∀ (s : State) (bs : List Byte), s.takesAtOnce → 1 ≤ bs.length → bs.length ≤ 256 →
    let x := exec (.text bs) s
    (s.loadUnit.current = none → x = .next (s.refused 0x0F .noLoad))
    ∧ ∀ l, s.loadUnit.current = some l →
      (l.outstanding < bs.length → x = .next (s.refused 0x0F .overCredit))
      ∧ (bs.length ≤ l.outstanding → l.received + bs.length ≠ l.clamped →
        let r := storeText (s.targetAddress l.target) s.store.cells l.stored bs
        let stripped := l.stripped + (bs.filter fun b => decide (4 ≤ b.toNat ∧ b.toNat ≤ 6)).length
        let substituted := l.substituted + (bs.filter fun b => decide (64 ≤ b.toNat)).length
        let m : OpenLoad := { l with
          received := l.received + bs.length, outstanding := l.outstanding - bs.length, stored := r.2
          stripped := stripped, substituted := substituted }
        let u : State := { s with
          store := { s.store with cells := r.1 }, loadUnit := ⟨some m, s.loadUnit.grain⟩ }
        let fs : List Field := [.num 2 m.received, .num 2 m.outstanding, .num 2 r.2]
        (∀ a, l.target = .bulletin a → x = .next ((u.setArea a { s.area a with length := r.2 }).accepted 0x0F fs))
        ∧ ∀ h c, l.target = .telex h c →
          let d : Descriptor := { s.desc h with length := r.2, stripped := stripped, substituted := substituted }
          (bs.length < l.outstanding → x = .next ((u.setDesc h d).accepted 0x0F fs))
          ∧ (bs.length = l.outstanding →
            let need := min s.loadUnit.grain (l.clamped - m.received)
            let k := (m.received + need + 63) / 64 - d.chain.length
            let withheld := (allChannels.map fun e => if e = c then 0 else (s.chan e).reserve - s.use e).sum
            let usable := min ((s.chan c).cap - s.use c) (s.store.free.length - withheld)
            (k ≤ usable → x = .next ((State.setDesc { u with
                store := { u.store with free := s.store.free.drop k }
                loadUnit := ⟨some { m with outstanding := need, waiting := false }, s.loadUnit.grain⟩
                outbox := [⟨.credit, some c, s.clock.ms,
                  [.num 1 h.val, .num 2 need, .num 2 m.received, .num 2 l.clamped]⟩] } h
                { d with chain := d.chain ++ s.store.free.take k }).accepted 0x0F fs).flush)
            ∧ (usable < k → x = .next ((State.setDesc { u with
                loadUnit := ⟨some { m with waiting := true }, s.loadUnit.grain⟩ } h d).accepted 0x0F fs))))

/-- The TEXT that completes a load (R55 to R58, R38, R75, R126, R127, R138): the LOAD notice with its outcome QUEUED,
EMPTY, AREA-READY or AREA-EMPTY, and no load open. A telex message with text is READY at the tail of its queue, its trailing
blocks free; a relay requests a cut of what an ON-AIR channel keys; a message whose expiry is already passed is freed with
its EXPIRED notice behind LOAD. That the cut comes before the expiry is the model's reading, notes/assumptions/16.md. A
message without text is freed; the area is READY or EMPTY. -/
def Obligations.LoadsComplete : Prop :=
  ∀ (s : State) (bs : List Byte) (l : OpenLoad), s.takesAtOnce → 1 ≤ bs.length → bs.length ≤ 256 →
    s.loadUnit.current = some l → bs.length ≤ l.outstanding → l.received + bs.length = l.clamped →
    let r := storeText (s.targetAddress l.target) s.store.cells l.stored bs
    let stripped := l.stripped + (bs.filter fun b => decide (4 ≤ b.toNat ∧ b.toNat ≤ 6)).length
    let substituted := l.substituted + (bs.filter fun b => decide (64 ≤ b.toNat)).length
    let tail : List Field := [.num 2 l.clamped, .num 2 r.2, .num 2 stripped, .num 2 substituted,
      .num 1 l.truncated.toNat]
    let fs : List Field := [.num 2 l.clamped, .num 2 (l.outstanding - bs.length), .num 2 r.2]
    (∀ a, l.target = .bulletin a → exec (.text bs) s = .next ((State.setArea { s with
        store := { s.store with cells := r.1 }, loadUnit := ⟨none, s.loadUnit.grain⟩
        outbox := [⟨.load, none, s.clock.ms, [.num 1 (if 0 < r.2 then 2 else 3), .opt 1 none, .opt 1 (some a.val),
          .opt 2 none] ++ tail⟩] } a
        { s.area a with state := if 0 < r.2 then .ready else .empty, length := r.2 }).accepted 0x0F fs).flush)
    ∧ ∀ h c, l.target = .telex h c → (s.desc h).channel = c →
      let d := s.desc h
      let notice (outcome : Nat) : Notice := ⟨.load, some c, s.clock.ms, [.num 1 outcome, .opt 1 (some h.val),
        .opt 1 none, .opt 2 (some d.number)] ++ tail⟩
      (0 < r.2 →
        let n := (r.2 + 63) / 64
        let u := (State.setDesc { s with
          store := { s.store with cells := r.1, free := s.store.free ++ d.chain.drop n }
          loadUnit := ⟨none, s.loadUnit.grain⟩, outbox := [notice 0] } h
          { d with state := .ready, length := r.2, stripped := stripped, substituted := substituted, resume := 0
                   chain := d.chain.take n }).setChan c
          ((s.chan c).setQueue d.cls ((s.chan c).queue d.cls ++ [h]))
        let v := if d.cls = .relay ∧ (s.chan c).state = .onAir then (u.cutTelex c).cutBulletin c else u
        (d.expiry = none ∨ d.firstKeyed ≠ none ∨ (∃ e, d.expiry = some e ∧ s.now ≤ e) →
          exec (.text bs) s = .next ((v.judgeKeyUp [c]).accepted 0x0F fs).flush)
        ∧ ∀ e, d.expiry = some e → d.firstKeyed = none → e < s.now →
          exec (.text bs) s = .next ((State.judgeKeyUp { v.freeMessage h with outbox := [notice 0,
            ⟨.expired, some c, s.clock.ms, [.num 1 h.val, .num 2 d.number, .num 3 d.dest, .num 6 e]⟩] } [c]).accepted 0x0F
            fs).flush)
      ∧ (r.2 = 0 → exec (.text bs) s = .next (State.accepted { s.freeMessage h with
          store := { (s.freeMessage h).store with cells := r.1 }, loadUnit := ⟨none, s.loadUnit.grain⟩
          outbox := [notice 1] } 0x0F fs).flush)

/-- ABANDON-LOAD (R59): refused NO-LOAD; otherwise the telex descriptor is freed or the area is EMPTY, the load record is
empty, and the reply gives the counts as they stood. -/
def Obligations.AbandonLoadEndsTheLoad : Prop :=
  ∀ s : State, s.takesAtOnce →
    (s.loadUnit.current = none → exec (.abandonLoad []) s = .next (s.refused 0x10 .noLoad))
    ∧ ∀ l, s.loadUnit.current = some l →
      let counts : List Field := [.opt 2 (some l.received), .opt 2 (some l.stored), .opt 2 (some l.stripped),
        .opt 2 (some l.substituted)]
      (∀ h c, l.target = .telex h c → exec (.abandonLoad []) s = .next
        (State.accepted { s.freeMessage h with loadUnit := ⟨none, s.loadUnit.grain⟩ } 0x10
          ([.num 1 1, .opt 1 (some h.val), .opt 1 none] ++ counts)))
      ∧ ∀ a, l.target = .bulletin a → exec (.abandonLoad []) s = .next
        ((State.setArea { s with loadUnit := ⟨none, s.loadUnit.grain⟩ } a
          { s.area a with state := .empty, length := 0 }).accepted 0x10
          ([.num 1 2, .opt 1 none, .opt 1 (some a.val)] ++ counts))

/-! ### The Message Table -/

/-- READ-MESSAGE (R79, R174): a FREE descriptor reports its state and handle alone; a live one every field of section
5.1, and for the open load its received count, credit and waiting flag. LIST-QUEUE (R80) reports one of the five lists of
a channel in order, and refuses another list RANGE. Nothing changes. -/
def Obligations.MessagesAndQueuesAreReported : Prop :=
  ∀ (s : State) (h : Handle) (c : ChannelNo) (b : Byte), s.takesAtOnce →
    let d := s.desc h
    let ch := s.chan c
    let said (n : Nat) (hs : List Handle) := exec (.listQueue [byteOf c.val, byteOf n]) s
      = .next (s.accepted 0x12 ([.num 1 c.val, .num 1 n, .num 2 hs.length] ++ hs.map fun h => .num 1 h.val))
    let load : List Field := [.opt 2 none, .opt 2 none, .opt 1 none]
    said 0 ch.relayQ ∧ said 1 ch.urgentQ ∧ said 2 ch.ordinaryQ ∧ said 3 ch.active.toList ∧ said 4 ch.sent
    ∧ (4 < b.toNat → exec (.listQueue [byteOf c.val, b]) s = .next (s.refused 0x12 .range))
    ∧ (d.state = .free → (∀ l c, s.loadUnit.current = some l → l.target ≠ .telex h c) →
      exec (.readMessage [byteOf h.val]) s = .next (s.accepted 0x11 ([.num 1 0, .opt 1 (some h.val), .opt 1 none,
        .opt 2 none, .opt 3 none, .opt 1 none, .opt 2 none, .opt 2 none, .num 1 0, .num 2 0, .opt 1 none, .opt 6 none,
        .opt 1 none, .opt 1 none, .opt 2 none, .opt 2 none, .opt 2 none, .opt 6 none, .opt 6 none, .opt 6 none,
        .opt 1 none] ++ load)))
    ∧ (d.state ≠ .free →
      let fs : List Field := [.num 1 d.state.code, .opt 1 (some h.val), .opt 1 (some d.channel.val),
          .opt 2 (some d.number), .opt 3 (some d.dest), .opt 1 (some d.cls.code), .opt 2 (some d.length),
          .opt 2 (some d.resume), .num 1 1, .num 2 d.chain.length]
        ++ d.chain.map (fun b => .num 2 b.val)
        ++ [.opt 1 (some d.confirm.toNat), .opt 6 d.expiry, .opt 1 (some d.repeats), .opt 1 (some d.truncated.toNat),
          .opt 2 (some d.stripped), .opt 2 (some d.substituted), .opt 2 (some d.segments), .opt 6 d.firstKeyed,
          .opt 6 d.doneTime, .opt 6 d.ackDue, .opt 1 (some d.cancelRequested.toNat)]
      ((∀ l c, s.loadUnit.current = some l → l.target ≠ .telex h c) →
        exec (.readMessage [byteOf h.val]) s = .next (s.accepted 0x11 (fs ++ load)))
      ∧ ∀ l c, s.loadUnit.current = some l → l.target = .telex h c →
        exec (.readMessage [byteOf h.val]) s = .next (s.accepted 0x11 (fs ++ [.opt 2 (some l.received),
          .opt 2 (some l.outstanding), .opt 1 (some l.waiting.toNat)])))

/-- CANCEL by the message's state (R76, R128, R138): refused NOT-FOUND or STATE; a READY, SUSPENDED or PARKED message is
freed at once; an ACTIVE one has its cancel requested and is answered DEFERRED. Its SEGMENT, or the segment that its HEADER
begins, is cut at the following word boundary where that lies below the planned end, and goes on to the planned end
otherwise (R125); the marker that closes it is given the purpose CANCEL. A second CANCEL changes nothing. -/
def Obligations.CancelByState : Prop :=
  ∀ (s : State) (h : Handle), s.takesAtOnce →
    let d := s.desc h
    let ch := s.chan d.channel
    let x := exec (.cancel [byteOf h.val]) s
    let deferred : List Field := [.num 1 1, .opt 1 (some h.val), .opt 2 (some d.number), .opt 2 none]
    let u := s.setDesc h { d with cancelRequested := true }
    let next := followingBoundary (s.textSymbol h) d.length d.resume
    (d.state = .free → x = .next (s.refused 0x13 .notFound))
    ∧ (d.state ∈ [.loading, .awaitAck, .unconfirmed] ∨ d.state = .active ∧ d.cls = .relay →
      x = .next (s.refused 0x13 .state))
    ∧ (d.state ∈ [.ready, .suspended, .parked] →
      x = .next ((((s.freeMessage h).rejudgeGrant.judgeKeyUp [d.channel]).accepted 0x13
        [.num 1 0, .opt 1 (some h.val), .opt 2 (some d.number), .opt 2 (some d.resume)]).flush))
    ∧ (d.state = .active → d.cls ≠ .relay → d.cancelRequested = true → x = .next (s.accepted 0x13 deferred))
    ∧ (d.state = .active → d.cls ≠ .relay → d.cancelRequested = false →
      x = .next ((u.cancelActive d.channel h).accepted 0x13 deferred)
      ∧ (∀ start e cut b, ch.item = .segment h start e cut → next = some b → b < e →
        u.cancelActive d.channel h = u.setChan d.channel { ch with item := .segment h start b (some b) })
      ∧ (∀ cost n e cut b, ch.item = .header h cost n e cut → next = some b → b < e →
        u.cancelActive d.channel h = u.setChan d.channel { ch with item := .header h cost n b (some b) })
      ∧ (∀ e cut, (∃ start, ch.item = .segment h start e cut) ∨ (∃ cost n, ch.item = .header h cost n e cut) →
        (∀ b, next = some b → e ≤ b) → u.cancelActive d.channel h = u)
      ∧ ∀ p n, ch.item = .marker (.message h) p n →
        u.cancelActive d.channel h = u.setChan d.channel { ch with item := .marker (.message h) .cancel n })

/-- DISCARD and REQUEUE (R74, R78, R138) act on a message of the sent list: it is freed, or it is READY with r = 0 at the
head of its queue without a timer; in any other state they are refused. -/
def Obligations.DiscardAndRequeue : Prop :=
  ∀ (s : State) (h : Handle), s.takesAtOnce →
    let d := s.desc h
    let ch := (s.chan d.channel).detach h
    let x := exec (.discard [byteOf h.val]) s
    let y := exec (.requeue [byteOf h.val]) s
    (d.state = .free → x = .next (s.refused 0x14 .notFound) ∧ y = .next (s.refused 0x15 .notFound))
    ∧ (d.state ∈ [.loading, .ready, .active, .parked, .suspended] →
      x = .next (s.refused 0x14 .state) ∧ y = .next (s.refused 0x15 .state))
    ∧ (d.state = .awaitAck ∨ d.state = .unconfirmed →
      x = .next (((s.freeMessage h).rejudgeGrant.accepted 0x14
        [.num 1 h.val, .num 2 d.number, .num 1 d.state.code, .num 1 d.repeats]).flush)
      ∧ y = .next (((((s.setDesc h { d with state := .ready, resume := 0, ackDue := none }).setChan d.channel
        (ch.setQueue d.cls (h :: ch.queue d.cls))).judgeKeyUp [d.channel]).accepted 0x15
          [.num 1 h.val, .num 2 d.number, .num 1 d.repeats]).flush))

/-- The two times of a message. The acknowledgement timer runs out at its elapsed time (R70): UNCONFIRMED, with its
notice. A READY message never keyed expires when station time has passed its expiry (R75, R42, R138): freed, with its
notice. Before its time neither has an effect. -/
def Obligations.MessageTimesRunOut : Prop :=
  ∀ (s : State) (h : Handle), s.outbox = [] →
    let d := s.desc h
    let fs : List Field := [.num 1 h.val, .num 2 d.number, .num 3 d.dest]
    (∀ t, d.state = .awaitAck → d.ackDue = some t → t ≤ s.clock.elapsed →
      exec (.ackTimerRunsOut h) s = .next (State.flush (State.setDesc { s with
        outbox := [⟨.unconfirmed, some d.channel, s.clock.ms, fs ++ [.num 1 d.repeats, .num 6 (d.doneTime.getD 0)]⟩] } h
        { d with state := .unconfirmed, ackDue := none })))
    ∧ (d.state ≠ .awaitAck ∨ d.ackDue = none ∨ (∃ t, d.ackDue = some t ∧ s.clock.elapsed < t) →
      exec (.ackTimerRunsOut h) s = .next s)
    ∧ (∀ e, d.state = .ready → d.firstKeyed = none → d.expiry = some e → e < s.now →
      exec (.messageExpiry h) s = .next (State.flush (State.judgeKeyUp (State.rejudgeGrant
        { s.freeMessage h with outbox := [⟨.expired, some d.channel, s.clock.ms, fs ++ [.num 6 e]⟩] }) [d.channel])))
    ∧ (d.state ≠ .ready ∨ d.firstKeyed ≠ none ∨ d.expiry = none ∨ (∃ e, d.expiry = some e ∧ s.now ≤ e) →
      exec (.messageExpiry h) s = .next s)

/-! ### The Broadcast Schedule -/

/-- Occurrence times (R84, R92): the earliest occurrence at or after X is the smallest b + j × q not below X, with
b = A mod q; a channel's next occurrence is the earliest next-due of the ENABLED entries that name it. -/
def Obligations.EarliestOccurrence : Prop :=
  (∀ (e : Slot) (x : Nat), 0 < e.period →
    let q := e.period * 60000
    let b := e.anchor % q
    (∃ j, e.earliest x = b + j * q) ∧ x ≤ e.earliest x ∧ ∀ j, x ≤ b + j * q → e.earliest x ≤ b + j * q)
  ∧ ∀ (s : State) (c : ChannelNo) (m : Nat),
    let dueAt (i : SlotNo) (t : Nat) := (s.slot i).state = .enabled ∧ inSet (s.slot i).channels c = true
      ∧ (s.slot i).nextDue = some t
    s.nextOccurrence c = some m ↔ (∃ i, dueAt i m) ∧ ∀ i t, dueAt i t → m ≤ t

/-- SET-SLOT (R85, R89, R138): refused RANGE for a field out of range; otherwise the entry takes the five fields, an EMPTY
one becomes DISABLED, and an ENABLED one has its next-due recomputed and an occurrence of the present time taken. That the
reply gives the next-due as computed, even when its occurrence is of the present time and taken at once, is the model's
reading, notes/assumptions/15.md. -/
def Obligations.SetSlotWritesAnEntry : Prop :=
  ∀ (s : State) (i : SlotNo) (set : Byte) (anchor period area window : Nat), s.takesAtOnce → anchor < 2 ^ 32 →
    period < 2 ^ 16 → area < 2 ^ 8 → window < 2 ^ 32 →
    let x := exec (.setSlot (byteOf i.val :: set :: (toBe 4 anchor ++ toBe 2 period ++ byteOf area :: toBe 4 window))) s
    let ok := set ≠ 0 ∧ anchor ≤ 86399999 ∧ period ≠ 0 ∧ 1440 % period = 0 ∧ area ≤ 31 ∧ window ≤ 1800000
    let st := if (s.slot i).state = .empty then .disabled else (s.slot i).state
    let e0 : Slot := ⟨st, set, anchor, period, Fin.ofNat 32 area, window, none⟩
    let e := if st = .enabled then { e0 with nextDue := some (e0.earliest s.now) } else e0
    let u := s.setSlot i e
    (¬ok → x = .next (s.refused 0x16 .range))
    ∧ (ok → x = .next (((((if e.nextDue = some s.now then u.takeOccurrence i else u).judgeKeyUp
        (allChannels.filter fun c => inSet (s.slot i).channels c || inSet set c)).accepted 0x16
          [.num 1 i.val, .num 1 st.code, .opt 6 e.nextDue])).flush))

/-- ENABLE-SLOT (R86) and DISABLE-SLOT and CLEAR-SLOT (R87): the refusals in order, the entry's new state and next-due,
an occurrence of the present time taken at ENABLE, and what is accepted without a change. That the reply of ENABLE-SLOT
gives the next-due as computed, even when its occurrence is taken at once, is the model's reading,
notes/assumptions/15.md. -/
def Obligations.SlotsAreEnabledDisabledAndCleared : Prop :=
  ∀ (s : State) (i : SlotNo), s.takesAtOnce →
    let e := s.slot i
    let named := allChannels.filter fun c => inSet e.channels c
    let due := e.earliest s.now
    let u := s.setSlot i { e with state := .enabled, nextDue := some due }
    let x := exec (.enableSlot [byteOf i.val]) s
    let y := exec (.disableSlot [byteOf i.val]) s
    (e.state = .empty → x = .next (s.refused 0x17 .state)
      ∧ y = .next (s.accepted 0x18 [.num 1 i.val, .num 1 0]))
    ∧ (e.state ≠ .empty → s.clock.isSet = false → x = .next (s.refused 0x17 .clockUnset))
    ∧ (∀ t, e.state = .enabled → e.nextDue = some t → s.clock.isSet = true →
      x = .next (s.accepted 0x17 [.num 1 i.val, .num 6 t]))
    ∧ (e.state = .disabled → s.clock.isSet = true → 0 < e.period →
      x = .next (((((if due = s.now then u.takeOccurrence i else u).judgeKeyUp named).accepted 0x17
        [.num 1 i.val, .num 6 due])).flush))
    ∧ (e.state = .disabled → y = .next (s.accepted 0x18 [.num 1 i.val, .num 1 1]))
    ∧ (e.state = .enabled → y = .next ((((s.setSlot i { e with state := .disabled, nextDue := none }).judgeKeyUp
        named).accepted 0x18 [.num 1 i.val, .num 1 1]).flush))
    ∧ ∃ t e', exec (.clearSlot [byteOf i.val]) s = .next (t.flush) ∧ e'.state = .empty ∧ e'.nextDue = none
      ∧ t = ((s.setSlot i e').judgeKeyUp (allChannels.filter fun c => inSet e.channels c || inSet e'.channels c)).accepted
        0x19 [.num 1 i.val, .num 1 0]

/-- READ-SLOT (R88), in the variant form that R174 gives it: the state first, then every field as an optional field. An
EMPTY entry has its number alone, a DISABLED one its five fields too, an ENABLED one its next-due as well; nothing changes.
That the number is one of the optional fields is the model's reading, notes/assumptions/11.md. -/
def Obligations.SlotEntriesAreReported : Prop :=
  ∀ (s : State) (i : SlotNo), s.takesAtOnce →
    let e := s.slot i
    let x := exec (.readSlot [byteOf i.val]) s
    let fields (due : Option Nat) : List Field := [.num 1 e.state.code, .opt 1 (some i.val),
      .opt 1 (some e.channels.toNat), .opt 4 (some e.anchor), .opt 2 (some e.period), .opt 1 (some e.area.val),
      .opt 4 (some e.window), .opt 6 due]
    (e.state = .empty → x = .next (s.accepted 0x1A [.num 1 0, .opt 1 (some i.val), .opt 1 none, .opt 4 none,
      .opt 2 none, .opt 1 none, .opt 4 none, .opt 6 none]))
    ∧ (e.state = .disabled → x = .next (s.accepted 0x1A (fields none)))
    ∧ (e.state = .enabled → x = .next (s.accepted 0x1A (fields e.nextDue)))

/-- An occurrence is taken once station time has reached it (R89): a request is placed on each channel of the set, and
next-due becomes S + q; before, and in an entry that is not ENABLED, nothing happens. The four cases of a placing (R90,
R91, R99, R100). That the channels are taken in ascending order, and so the OUTCOME notices of one occurrence stand in it,
is the model's choice, notes/assumptions/8.md. -/
def Obligations.OccurrencesPlaceRequests : Prop :=
  (∀ (s : State) (i : SlotNo), s.outbox = [] →
    let e := s.slot i
    (∀ due, e.state = .enabled → e.nextDue = some due → due ≤ s.now → exec (.slotOccurrence i) s = .next
      (State.flush (State.judgeKeyUp (State.setSlot
        ((channelsOf e.channels).foldl (fun s c => s.placeRequest i due c) s) i
        { e with nextDue := some (due + e.period * 60000) }) (channelsOf e.channels))))
    ∧ (e.state ≠ .enabled ∨ e.nextDue = none ∨ (∃ due, e.nextDue = some due ∧ s.now < due) →
      exec (.slotOccurrence i) s = .next s))
  ∧ ∀ (s : State) (i : SlotNo) (due : Nat) (c : ChannelNo),
    let e := s.slot i
    let ch := s.chan c
    let q : Request := ⟨i, e.area, due, due + e.window + ch.settings.period, .waiting, 0, none⟩
    let wraps := 15 ≤ ch.stats.overrun
    let missed := State.setChan { s with outbox := s.outbox ++ [⟨.outcome, some c, s.clock.ms, [.num 1 3, .num 1 i.val,
          .num 1 e.area.val, .num 6 due, .num 6 q.deadline, .opt 6 none, .num 1 0]⟩]
        ++ if wraps then [⟨.overrunWrap, some c, s.clock.ms, []⟩] else [] } c
      { ch with stats := { ch.stats with
        missed := if ch.stats.missed < 4294967295 then ch.stats.missed + 1 else 4294967295
        overrun := if wraps then 0 else ch.stats.overrun + 1 } }
    let held := ∃ p ∈ ch.requests, p.slot = i ∧ p.due = due
    (ch.state = .offline → s.placeRequest i due c = missed)
    ∧ (ch.state ≠ .offline → held → s.placeRequest i due c = s)
    ∧ (ch.state ≠ .offline → ¬held → 4 ≤ ch.requests.length → s.placeRequest i due c = missed)
    ∧ ∀ ps qs, ch.state ≠ .offline → ¬held → ch.requests = ps ++ qs → ch.requests.length < 4 →
      (∀ p ∈ ps, p.due < due ∨ p.due = due ∧ p.slot < i) →
      (∀ p ∈ qs.head?, due < p.due ∨ due = p.due ∧ i < p.slot) →
      s.placeRequest i due c = s.setChan c { ch with requests := ps ++ q :: qs }

/-- How requests end (R91, R93, R94, R99, R100, R147). An ending takes the request out of the list with its outcome notice
and its count; MISSED, INTERRUPTED and NO-TEXT advance the overrun count, from 15 to 0 with OVERRUN-WRAP behind the
outcome. A request that has lost its chance ends MISSED if it never started and INTERRUPTED otherwise: on a STANDBY, KEY-UP
or FAULTED channel when station time has reached D (R93, R138), and on a keyed channel, at a symbol boundary, when the next
boundary, at its projected station time, would reach D (R94, R9). On another channel, and before, it stays. That the
notices of several endings stand in list order is the model's choice, notes/assumptions/8.md; that R94's next boundary is
the projection of R9, on a stopped clock too, is its reading, notes/assumptions/19.md. -/
def Obligations.UnkeyedDeadlinesEndRequests : Prop :=
  let ended (s : State) (c : ChannelNo) (q : Request) (o : BulletinOutcome) (lateness : Option Nat) : State :=
    let ch := s.chan c
    let up (n : Nat) := if n < 4294967295 then n + 1 else 4294967295
    let t := match o with
      | .onTime => { ch.stats with onTime := up ch.stats.onTime }
      | .late => { ch.stats with late := up ch.stats.late }
      | .restarted => { ch.stats with restarted := up ch.stats.restarted }
      | .missed => { ch.stats with missed := up ch.stats.missed }
      | .interrupted => { ch.stats with interrupted := up ch.stats.interrupted }
      | .noText => { ch.stats with noText := up ch.stats.noText }
    let counts := decide (o ∈ ([.missed, .interrupted, .noText] : List BulletinOutcome))
    let wraps := counts && decide (15 ≤ ch.stats.overrun)
    State.setChan { s with outbox := s.outbox ++ [⟨.outcome, some c, s.clock.ms, [.num 1 o.code, .num 1 q.slot.val,
          .num 1 q.area.val, .num 6 q.due, .num 6 q.deadline, .opt 6 lateness, .num 1 q.restarts]⟩]
        ++ if wraps then [⟨.overrunWrap, some c, s.clock.ms, []⟩] else [] } c
      { ch with
        requests := ch.requests.filter fun p => decide (¬(p.slot = q.slot ∧ p.due = q.due))
        stats := { t with overrun := if wraps then 0 else if counts then ch.stats.overrun + 1 else ch.stats.overrun } }
  let broken (s : State) (c : ChannelNo) (q : Request) : State :=
    ended s c q (if q.firstStart = none then .missed else .interrupted) (q.firstStart.map fun t => t - q.due)
  (∀ s c q o lateness, s.endRequest c q o lateness false = ended s c q o lateness)
  ∧ (∀ s c q, s.endBroken c q false = broken s c q)
  ∧ (∀ (s : State) (c : ChannelNo),
    let next := if s.clock.running then min (s.now + (s.chan c).settings.period) (65535 * 86400000 + 86399999) else s.now
    s.judgeBoundary c =
    if (s.chan c).state = .onAir ∨ (s.chan c).state = .closing then
      ((s.chan c).requests.filter fun q => decide (q.state = .waiting ∧ q.deadline ≤ next)).foldl
        (fun s q => broken s c q) s
    else s)
  ∧ ∀ (s : State) (c : ChannelNo) (q : Request), s.outbox = [] → q ∈ (s.chan c).requests →
    (∀ p ∈ (s.chan c).requests, p.slot = q.slot → p.due = q.due → p = q) → q.state = .waiting →
    let x := exec (.requestDeadlineUnkeyed c q.slot q.due) s
    (q.deadline ≤ s.now → (s.chan c).state ∈ [.standby, .keyUp, .faulted] →
      x = .next (State.flush (State.judgeKeyUp (broken s c q) [c])))
    ∧ (s.now < q.deadline ∨ (s.chan c).state ∈ [.offline, .onAir, .closing] → x = .next s)

/-! ### The Channel Interleaver and the Keyer -/

/-- The following word boundary of a text of length L from x (R14, R15): the smallest e with x < e < L whose symbol before
it is SPACE, CR or LF; none when there is no such position. A cut request takes it from the resume point for a SEGMENT or a
HEADER, and from the area position for a BULLETIN (R125): below the planned end it becomes the cut point and the planned
end; without one the item is left to run to its end. A bulletin's cut point, once fixed, stays, and no other item is
cut. -/
def Obligations.FollowingWordBoundary : Prop :=
  (∀ (symbol : Nat → Nat) (L x e : Nat),
    let boundary (e : Nat) := symbol (e - 1) = 1 ∨ symbol (e - 1) = 2 ∨ symbol (e - 1) = 3
    (followingBoundary symbol L x = some e ↔
      (x < e ∧ e < L ∧ boundary e) ∧ ∀ e', x < e' → e' < L → boundary e' → e ≤ e')
    ∧ (followingBoundary symbol L x = none ↔ ∀ e', x < e' → e' < L → ¬boundary e'))
  ∧ ∀ (s : State) (c : ChannelNo),
    let ch := s.chan c
    let next (h : Handle) := followingBoundary (s.textSymbol h) (s.desc h).length (s.desc h).resume
    (∀ h start e cut b, ch.item = .segment h start e cut → next h = some b → b < e →
      s.cutTelex c = s.setChan c { ch with item := .segment h start b (some b) })
    ∧ (∀ h k n e cut b, ch.item = .header h k n e cut → next h = some b → b < e →
      s.cutTelex c = s.setChan c { ch with item := .header h k n b (some b) })
    ∧ (∀ h e cut, (∃ start, ch.item = .segment h start e cut) ∨ (∃ k n, ch.item = .header h k n e cut) →
      (∀ b, next h = some b → e ≤ b) → s.cutTelex c = s)
    ∧ (∀ slot due a pos, ch.item = .bulletin slot due a pos none → s.cutBulletin c = s.setChan c { ch with
      item := .bulletin slot due a pos (followingBoundary (s.areaSymbol a) (s.area a).length pos) })
    ∧ (∀ slot due a pos b, ch.item = .bulletin slot due a pos (some b) → s.cutBulletin c = s)
    ∧ (∀ it, ch.item = it → (∀ h start e cut, it ≠ .segment h start e cut) → (∀ h k n e cut, it ≠ .header h k n e cut) →
      s.cutTelex c = s)
    ∧ (∀ it, ch.item = it → (∀ slot due a pos cut, it ≠ .bulletin slot due a pos cut) → s.cutBulletin c = s)

/-- The key-up causes and the fit test. S_n is the earliest S of the WAITING requests and of the next occurrence; the
margin, the budget, the candidate ends, those that qualify, their cost and the plan are those of R115 to R118, so a fitting
plan with its marker ends by S_n - G (R119); case 4 chooses as R111 says. The causes (R138) are a relay in the queue, a
WAITING request, station time at S - G - key-up limit of the next occurrence, and a trial candidate that fits at the
projected start from line case UNKNOWN (R120, R9). A STANDBY channel with a cause goes to KEY-UP, and on to ON-AIR at once
when ready is present (R139), the channels that its first decision point may give requests being judged after it, within a
bound on the judgements of one step (the model's reading, notes/assumptions/14.md; the order of the notices,
notes/assumptions/8.md); any other channel, and one without a cause, stays (R134). -/
def Obligations.KeyUpCausesAreJudged : Prop :=
  (∀ (s : State) (c : ChannelNo) (m : Nat),
    let dueAt (t : Nat) := (∃ q ∈ (s.chan c).requests, q.state = .waiting ∧ q.due = t) ∨ s.nextOccurrence c = some t
    s.nextBulletin c = some m ↔ dueAt m ∧ ∀ t, dueAt t → m ≤ t)
  ∧ (∀ (s : State) (c : ChannelNo) (h : Handle) (t : Nat) (header : Bool) (lc : LineCase),
    let d := s.desc h
    let x := (s.chan c).settings
    let r := d.resume
    let f := s.fitTest c h t header lc
    let boundary (e : Nat) := s.textSymbol h (e - 1) = 1 ∨ s.textSymbol h (e - 1) = 2 ∨ s.textSymbol h (e - 1) = 3
    let candidate (e : Nat) := r < e ∧ e ≤ r + min x.quantum (d.length - r) ∧ (boundary e ∨ e = d.length
      ∨ e = r + x.quantum ∧ x.quantum < d.length - r ∧ ∀ b, r < b → b ≤ r + x.quantum → ¬boundary b)
    let long (e : Nat) := min x.minSegment x.quantum ≤ e - r ∨ e = d.length
    let qualifies (e : Nat) := candidate e ∧ (long e ∨ ∀ b, candidate b → ¬long b)
    let cost (e : Nat) := (if header then (if lc = .letters then 14 else 15) else 0) + (e - r)
      + shiftCount (if header then .figures else lc) ((List.range' r (e - r)).map (s.textSymbol h))
      + if e = d.length then 0 else 3
    f.time = t ∧ f.handle = h ∧ f.nextDue = s.nextBulletin c
    ∧ (s.nextBulletin c = none → f.margin = none ∧ f.budget = none
      ∧ ∀ e, f.planned = some e ↔ qualifies e ∧ ∀ b, qualifies b → b ≤ e)
    ∧ ∀ due, s.nextBulletin c = some due →
      let margin : Int := (due : Int) - x.guard - t
      f.margin = some margin ∧ f.budget = some (margin / (x.period : Int))
      ∧ (∀ e, f.planned = some e ↔ 0 ≤ margin ∧ qualifies e ∧ (cost e : Int) ≤ margin / (x.period : Int)
        ∧ ∀ b, qualifies b → (cost b : Int) ≤ margin / (x.period : Int) → b ≤ e)
      ∧ ∀ e, f.planned = some e → t + x.guard + cost e * x.period ≤ due)
  ∧ (∀ (s : State) (c : ChannelNo),
    let ch := s.chan c
    let held (h : Handle) := ∃ r ∈ ch.holds, r.ship = (s.desc h).dest
    let oldest (q : List Handle) (h : Handle) := ∃ ps qs, q = ps ++ h :: qs ∧ (∀ g ∈ ps, held g) ∧ ¬held h
    ∀ h, s.chooseNew c = some h ↔
      ch.urgentRun < ch.settings.urgentRun ∧ oldest ch.urgentQ h
      ∨ (¬ch.urgentRun < ch.settings.urgentRun ∨ ∀ g ∈ ch.urgentQ, held g) ∧ oldest ch.ordinaryQ h
      ∨ ¬ch.urgentRun < ch.settings.urgentRun ∧ (∀ g ∈ ch.ordinaryQ, held g) ∧ oldest ch.urgentQ h)
  ∧ ∀ (s : State) (c : ChannelNo),
    let ch := s.chan c
    let held (h : Handle) := ∃ r ∈ ch.holds, r.ship = (s.desc h).dest
    let parked (h : Handle) := ch.active = some h ∧ (s.desc h).state = .parked
    let candidate (h : Handle) := parked h ∧ ¬held h ∨ (∀ g, parked g → held g) ∧ s.chooseNew c = some h
    let start := if s.clock.running then min (s.now + ch.settings.keyUpLimit) (65535 * 86400000 + 86399999) else s.now
    (s.trialFits c = true ↔ ∃ h e, candidate h
      ∧ (s.fitTest c h start (decide ((s.desc h).state = .parked ∨ (s.desc h).state = .suspended)) .unknown).planned
        = some e)
    ∧ (s.keyUpCause c = true ↔ ch.relayQ ≠ [] ∨ (∃ q ∈ ch.requests, q.state = .waiting)
      ∨ (∃ due, s.nextOccurrence c = some due ∧ due ≤ s.now + ch.settings.guard + ch.settings.keyUpLimit)
      ∨ s.trialFits c = true)
    ∧ (ch.state ≠ .standby ∨ s.keyUpCause c = false → s.judgeKeyUp [c] = s)
    ∧ (ch.state = .standby → s.keyUpCause c = true → ch.ready = false →
      s.judgeKeyUp [c] = s.setChan c { ch with state := .keyUp, keyRise := s.clock.elapsed })
    ∧ (ch.state = .standby → s.keyUpCause c = true → ch.ready = true →
      let t := State.decisionPoint (s.setChan c { ch with
        state := .onAir, keyRise := s.clock.elapsed, lineCase := .unknown, item := .noItem, idleSince := none
        symbolEnd := s.clock.elapsed + ch.settings.period }) c none
      s.judgeKeyUp [c] = State.judgeWithin 1023
        (allChannels.filter fun d => (s.dueSlotsNaming c).any fun i => inSet (s.slot i).channels d)
        { t with outbox := t.outbox ++ [⟨.keyed, some c, s.clock.ms, [.num 6 0]⟩] })
    ∧ (s.keyRequest c = true ↔ ch.state ∈ [.keyUp, .onAir, .closing])

/-- SET-CHANNEL (R135, section 8.2): refused STATE on a channel that is not OFFLINE, then RANGE for a setting outside its
range; otherwise all ten settings are replaced, and nothing else. -/
def Obligations.SetChannelReplacesTheSettings : Prop :=
  ∀ (s : State) (c : ChannelNo) (p g u h q m n a k r : Nat), s.takesAtOnce →
    (∀ x ∈ [p, g, u, h, q, m, a], x < 2 ^ 16) → (∀ x ∈ [n, k, r], x < 2 ^ 8) →
    let x := exec (.setChannel (byteOf c.val :: (toBe 2 p ++ toBe 2 g ++ toBe 2 u ++ toBe 2 h ++ toBe 2 q ++ toBe 2 m
      ++ byteOf n :: toBe 2 a ++ [byteOf k, byteOf r]))) s
    let ok := (20 ≤ p ∧ p ≤ 400) ∧ g ≤ 60000 ∧ (100 ≤ u ∧ u ≤ 5000) ∧ h ≤ 60000 ∧ (16 ≤ q ∧ q ≤ 512)
      ∧ (1 ≤ m ∧ m ≤ 512) ∧ (1 ≤ n ∧ n ≤ 8) ∧ a ≤ 3600 ∧ (4 ≤ k ∧ k ≤ 16) ∧ 2 ≤ r ∧ r ≤ 4
    ((s.chan c).state ≠ .offline → x = .next (s.refused 0x1E .state))
    ∧ ((s.chan c).state = .offline → ¬ok → x = .next (s.refused 0x1E .range))
    ∧ ((s.chan c).state = .offline → ok →
      x = .next ((s.setChan c { s.chan c with settings := ⟨p, g, u, h, q, m, n, a, k, r⟩ }).accepted 0x1E
        [.num 1 c.val, .num 2 p, .num 2 g, .num 2 u, .num 2 h, .num 2 q, .num 2 m, .num 1 n, .num 2 a, .num 1 k,
          .num 1 r]))

/-- READ-PENDING (R103), READ-CHANNEL (R136), READ-STATS (R148) and READ-INTERLEAVER (R133), whatever the item in progress,
report and change nothing; a MARKER's closed thing is sent as a handle or as a slot and S (R174). CLEAR-STATS (R148) reports
the counts and sets every one of them, and nothing else, to 0. The one-byte counts, the forms of the variants and of the
list of requests, and the signed margin are the model's reading, notes/assumptions/9.md, 11.md and 12.md. -/
def Obligations.ChannelReports : Prop :=
  ∀ (s : State) (c : ChannelNo), s.takesAtOnce →
    let ch := s.chan c
    let x := ch.settings
    let t := ch.stats
    let counts : List Field := [.num 4 t.lineSymbols, .num 4 t.shifts, .num 4 t.idles, .num 4 t.segments,
      .num 4 t.markers, .num 4 t.done255, .num 4 t.done1023, .num 4 t.done4095, .num 4 t.done8192, .num 4 t.onTime,
      .num 4 t.late, .num 4 t.restarted, .num 4 t.missed, .num 4 t.interrupted, .num 4 t.noText, .num 1 t.overrun]
    let y := exec (.readInterleaver [byteOf c.val]) s
    let f := ch.lastFit
    let tail : List Field := [.opt 1 (ch.active.map Fin.val), .opt 1 (ch.active.map fun h => (s.desc h).state.code),
      .opt 1 (some ch.urgentRun), .opt 1 (some x.urgentRun), .opt 6 (f.map (·.time)), .opt 6 (f.bind (·.nextDue)),
      .opt 6 ((f.bind (·.margin)).map signed48), .opt 6 ((f.bind (·.budget)).map signed48),
      .opt 1 (f.map fun r => r.handle.val), .opt 2 (f.bind (·.planned))]
    let noSegment : List Field := [.opt 1 none, .opt 2 none, .opt 2 none, .opt 2 none, .opt 2 none]
    let noMarker : List Field := [.opt 1 none, .opt 1 none, .opt 6 none, .opt 1 none]
    let noRelay : List Field := [.opt 1 none, .opt 2 none]
    let noMarkerNoRelay : List Field := noMarker ++ noRelay
    let noBulletin : List Field := [.opt 1 none, .opt 6 none, .opt 1 none, .opt 2 none, .opt 2 none]
    exec (.readPending [byteOf c.val]) s = .next (s.accepted 0x1B ([.num 1 c.val, .num 1 t.overrun,
        .opt 6 (s.nextOccurrence c), .num 2 ch.requests.length]
      ++ ch.requests.flatMap fun q => [.num 1 q.slot.val, .num 1 q.area.val, .num 6 q.due, .num 6 q.deadline,
        .num 1 q.state.code, .num 1 q.restarts, .opt 6 q.firstStart]))
    ∧ exec (.readChannel [byteOf c.val]) s = .next (s.accepted 0x1F [.num 1 ch.state.code,
      .opt 1 (some (s.keyRequest c).toNat), .opt 1 (some ch.ready.toNat), .opt 1 (some ch.lineCase.code),
      .opt 2 (some x.period), .opt 2 (some x.guard), .opt 2 (some x.keyUpLimit), .opt 2 (some x.hangTime),
      .opt 2 (some x.quantum), .opt 2 (some x.minSegment), .opt 1 (some x.urgentRun), .opt 2 (some x.ackTimeout),
      .opt 1 (some x.phasingRun), .opt 1 (some x.copies),
      .opt 6 (if ch.state = .keyUp then some (s.clock.elapsed - ch.keyRise) else none),
      .opt 6 (if ch.state = .onAir then some (if ch.item = .idle then s.idleRun c else 0) else none),
      .opt 1 (if ch.state = .faulted then ch.faultReason.map FaultReason.code else none)])
    ∧ exec (.readStats [byteOf c.val]) s = .next (s.accepted 0x23 counts)
    ∧ exec (.clearStats [byteOf c.val]) s = .next ((s.setChan c { ch with
      stats := ⟨0, 0, 0, 0, 0, 0, 0, 0, 0, 0, 0, 0, 0, 0, 0, 0⟩ }).accepted 0x24 counts)
    ∧ (∃ fs, y = .next (s.accepted 0x1C (.num 1 ch.item.code :: fs)))
    ∧ (ch.item = .noItem →
      y = .next (s.accepted 0x1C ([.num 1 0] ++ noSegment ++ noMarkerNoRelay ++ noBulletin ++ tail)))
    ∧ (∀ h cost n e cut, ch.item = .header h cost n e cut → y = .next (s.accepted 0x1C ([.num 1 2, .opt 1 (some h.val),
      .opt 2 (some (s.desc h).number), .opt 2 (some (s.desc h).resume), .opt 2 (some e), .opt 2 cut]
        ++ noMarkerNoRelay ++ noBulletin ++ tail)))
    ∧ (∀ closes p n, ch.item = .marker closes p n →
      let purpose := match p with | .park _ => 0 | .hold => 1 | .cancel => 2 | .close => 3 | .bulletinCut => 4
      let closed : List Field := match closes with
        | .message h => [.opt 1 (some h.val), .opt 1 none, .opt 6 none]
        | .request slot due _ => [.opt 1 none, .opt 1 (some slot.val), .opt 6 (some due)]
      y = .next (s.accepted 0x1C ([.num 1 4] ++ noSegment ++ closed ++ [.opt 1 (some purpose)] ++ noRelay ++ noBulletin
        ++ tail)))
    ∧ (∀ h, ch.item = .relay h → y = .next (s.accepted 0x1C ([.num 1 5] ++ noSegment ++ noMarker
      ++ [.opt 1 (some h.val), .opt 2 (some (s.desc h).resume)] ++ noBulletin ++ tail)))
    ∧ (ch.item = .idle →
      y = .next (s.accepted 0x1C ([.num 1 1] ++ noSegment ++ noMarkerNoRelay ++ noBulletin ++ tail)))
    ∧ (∀ h start e cut, ch.item = .segment h start e cut → y = .next (s.accepted 0x1C ([.num 1 3, .opt 1 (some h.val),
      .opt 2 (some (s.desc h).number), .opt 2 (some (s.desc h).resume), .opt 2 (some e), .opt 2 cut]
        ++ noMarkerNoRelay ++ noBulletin ++ tail)))
    ∧ ∀ slot due a pos cut, ch.item = .bulletin slot due a pos cut → y = .next (s.accepted 0x1C ([.num 1 6] ++ noSegment
      ++ noMarkerNoRelay ++ [.opt 1 (some slot.val), .opt 6 (some due), .opt 1 (some a.val), .opt 2 (some pos),
        .opt 2 cut] ++ tail))

/-- OPEN-CHANNEL (R137) and RESTORE (R143): refused STATE unless the channel is OFFLINE, or FAULTED with ready present;
otherwise it becomes STANDBY, with its parser in HUNT or its fault reason absent, and its key-up causes are judged. That
both replies give STANDBY, even when a key-up cause takes the channel further in the same step, is the model's reading,
notes/assumptions/15.md. -/
def Obligations.ChannelsOpenAndRestore : Prop :=
  ∀ (s : State) (c : ChannelNo), s.takesAtOnce →
    let ch := s.chan c
    let x := exec (.openChannel [byteOf c.val]) s
    let y := exec (.restore [byteOf c.val]) s
    (ch.state ≠ .offline → x = .next (s.refused 0x1D .state))
    ∧ (ch.state = .offline → x = .next (((((s.setChan c { ch with
        state := .standby, parser := ⟨.hunt, 0, [], 0, [], false⟩ }).judgeKeyUp [c]).accepted 0x1D [.num 1 c.val, .num 1 1])).flush))
    ∧ (ch.state ≠ .faulted ∨ ch.ready = false → y = .next (s.refused 0x20 .state))
    ∧ (ch.state = .faulted → ch.ready = true → y = .next (((((s.setChan c { ch with
        state := .standby, faultReason := none }).judgeKeyUp [c]).accepted 0x20 [.num 1 c.val, .num 1 1])).flush))

/-- CLOSE-CHANNEL by the channel's state (R144, R145, R151), the end of CLOSING (R145), and RESET-CHANNEL (R146): the
channel reaches OFFLINE with no request, no item and its parser in HUNT, and keeps its settings and its allowance. Closing
keeps the holds, the latch, the receive counts, k and the last fit test, and returns a PARKED message SUSPENDED to the head
of its queue; a reset clears those five and the statistics. A reset returns the message of the slot SUSPENDED, or frees it
when its cancel was requested, and a relay being keyed READY with r = 0, and leaves the area on air. The notices are those
of the message, then one OUTCOME for each request in list order (the order of the two is notes/assumptions/8.md), then
CLOSED at the end of CLOSING; shown with no load open, and for a close with no OVERRUN-WRAP. That the reply of a reset gives
its handles as optional fields is notes/assumptions/11.md. -/
def Obligations.ChannelsCloseAndReset : Prop :=
  ∀ (s : State) (c : ChannelNo),
    let ch := s.chan c
    let x := exec (.closeChannel [byteOf c.val]) s
    let off (t : State) := (t.chan c).state = .offline ∧ (t.chan c).requests = [] ∧ (t.chan c).item = .noItem
      ∧ (t.chan c).faultReason = none ∧ (t.chan c).idleSince = none ∧ (t.chan c).parser = ⟨.hunt, 0, [], 0, [], false⟩
      ∧ (t.chan c).settings = ch.settings ∧ (t.chan c).reserve = ch.reserve ∧ (t.chan c).cap = ch.cap
      ∧ (t.chan c).ready = ch.ready ∧ t.store.cells = s.store.cells ∧ t.watches = s.watches ∧ t.clock = s.clock
    let suspendedNotice (h : Handle) (cause : Nat) : Notice := ⟨.suspended, some c, s.clock.ms, [.num 1 h.val,
      .num 2 (s.desc h).number, .num 1 cause, .num 2 (s.desc h).resume, .num 3 (s.desc h).dest]⟩
    let outcomes : List Notice := ch.requests.map fun q => ⟨.outcome, some c, s.clock.ms,
      [.num 1 (if q.firstStart = none then 3 else 4), .num 1 q.slot.val, .num 1 q.area.val, .num 6 q.due,
        .num 6 q.deadline, .opt 6 (q.firstStart.map fun t => t - q.due), .num 1 q.restarts]⟩
    let closed (t : State) := off t ∧ t.slots = s.slots
      ∧ (t.chan c).holds = ch.holds ∧ (t.chan c).latch = ch.latch ∧ (t.chan c).rx = ch.rx
      ∧ (t.chan c).urgentRun = ch.urgentRun ∧ (t.chan c).lastFit = ch.lastFit
      ∧ (∀ h, ch.active = some h → (s.desc h).state = .parked → (s.desc h).channel = c →
        t.desc h = { s.desc h with state := .suspended } ∧ (t.chan c).active = none
        ∧ ((t.chan c).queue (s.desc h).cls).head? = some h)
    let parked : List Notice := (ch.active.toList.filter fun h => decide ((s.desc h).state = .parked)).map
      (suspendedNotice · 1)
    let returned (t : State) (h : Handle) (d : Descriptor) := t.desc h = d
      ∧ (t.chan c).queue d.cls = h :: ch.queue d.cls
    (s.takesAtOnce →
      (ch.state = .offline → x = .next (s.accepted 0x21 [.num 1 c.val, .num 1 0]))
      ∧ (ch.state = .closing → x = .next (s.accepted 0x21 [.num 1 c.val, .num 1 4]))
      ∧ (ch.state = .onAir → x = .next (((s.setChan c { ch with state := .closing }).cutTelex c).accepted 0x21
        [.num 1 c.val, .num 1 4]))
      ∧ (ch.state ∈ [.standby, .keyUp, .faulted] → ∃ t, x = .next (t.accepted 0x21 [.num 1 c.val, .num 1 0]).flush
        ∧ closed t ∧ (ch.stats.overrun + ch.requests.length ≤ 15 →
          ((∀ h, ch.active = some h → (s.desc h).channel = c) → t.outbox = parked ++ outcomes)
          ∧ (t.chan c).stats.overrun = ch.stats.overrun + ch.requests.length))
      ∧ ∃ t, exec (.resetChannel [byteOf c.val]) s = .next (t.accepted 0x22 [.num 1 c.val, .num 1 ch.state.code,
          .opt 1 (ch.active.map Fin.val), .opt 2 (ch.active.map fun h => (s.desc h).resume),
          .opt 1 (ch.item.relayHandle.map Fin.val), .num 1 ch.requests.length]).flush
        ∧ off t ∧ t.slots = s.slots
        ∧ (t.chan c).urgentRun = 0 ∧ (t.chan c).lastFit = none ∧ (t.chan c).holds = [] ∧ (t.chan c).latch = none
        ∧ (t.chan c).rx = ⟨0, 0, 0, 0, 0, 0, 0, 0, 0, 0, 0⟩
        ∧ (t.chan c).stats = ⟨0, 0, 0, 0, 0, 0, 0, 0, 0, 0, 0, 0, 0, 0, 0, 0⟩
        ∧ (∀ a, (t.area a).onAir = (s.area a).onAir
          - if (ch.item.onAirRequest.map fun q => q.2.2) = some a then 1 else 0)
        ∧ (s.placesOk → s.itemsOk →
          (∀ h, ch.active = some h →
            ((s.desc h).state = .active → (s.desc h).cancelRequested = true → (t.desc h).state = .free)
            ∧ ((s.desc h).state = .parked ∨ (s.desc h).cancelRequested = false →
              returned t h { s.desc h with state := .suspended }))
          ∧ (∀ h, ch.item = .relay h → t.desc h = { s.desc h with state := .ready, resume := 0, ackDue := none }
            ∧ (t.chan c).relayQ.head? = some h)
          ∧ (t.chan c).active = none ∧ (t.chan c).sent = ch.sent
          ∧ (s.loadUnit.current = none → t.outbox = (ch.active.toList.map fun h =>
              if (s.desc h).state = .active ∧ (s.desc h).cancelRequested = true then
                ⟨.cancelled, some c, s.clock.ms, [.num 1 h.val, .num 2 (s.desc h).number, .num 3 (s.desc h).dest,
                  .num 2 (s.desc h).resume, .num 2 (s.desc h).length]⟩
              else suspendedNotice h 2) ++ outcomes)))
    ∧ (ch.state = .closing → s.dueSlotsNaming c = [] → (∀ h, ch.active = some h → (s.desc h).state = .parked) →
      closed (s.decisionPoint c none)
      ∧ (ch.stats.overrun + ch.requests.length ≤ 15 → (∀ h, ch.active = some h → (s.desc h).channel = c) →
        (s.decisionPoint c none).outbox = s.outbox ++ parked ++ outcomes ++ [⟨.closed, some c, s.clock.ms, []⟩]))

/-- Faults (R139, R141, R142, R150, R165, R77, R82, R97), with what a return does to a message and to a request. At a
KEY-UP limit that has run out, and at a drop of ready in ON-AIR or CLOSING, whatever the channel held: the channel is
FAULTED with its reason and no item; a PENDING hold of the segment broken off begins to run; the message of the slot is
SUSPENDED at the head of its queue with r kept, a relay being keyed is READY at the head of its queue with r = 0, the
request on air is WAITING again with its restarts raised and its area left; the FAULT notice; and last an ACTIVE message
whose cancel was requested is freed with its CANCELLED notice. Before the limit nothing happens, and a drop in another state
changes the level alone. -/
def Obligations.TransmittersFault : Prop :=
  (∀ (s : State) (h : Handle),
    let d := s.desc h
    let ch := (s.chan d.channel).detach h
    let back (d' : Descriptor) := (s.setDesc h d').setChan d.channel (ch.setQueue d.cls (h :: ch.queue d.cls))
    s.suspend h = back { d with state := .suspended }
    ∧ s.requeueReady h = back { d with state := .ready, resume := 0, ackDue := none })
  ∧ (∀ (s : State) (c : ChannelNo) (i : SlotNo) (due : Nat) (a : AreaNo), s.returnRequest c i due a =
    (s.setArea a { s.area a with onAir := (s.area a).onAir - 1 }).setChan c { s.chan c with
      requests := (s.chan c).requests.map fun q => if q.slot = i ∧ q.due = due then { q with
        state := .waiting, restarts := if q.restarts < 255 then q.restarts + 1 else 255 } else q })
  ∧ ∀ (s : State) (c : ChannelNo), s.outbox = [] →
    let ch := s.chan c
    let x := exec (.keyUpLimit c) s
    let y := exec (.transmitterReadyDrops c) s
    let faulted (ready : Bool) (reason : FaultReason) : State :=
      let ship := match ch.item with
        | .segment h _ _ _ => some (s.desc h).dest
        | .header h _ _ _ _ => some (s.desc h).dest
        | _ => none
      let s1 := s.setChan c { ch with
        ready := ready, state := .faulted, faultReason := some reason, item := .noItem, idleSince := none
        holds := ch.holds.map fun r => if ship = some r.ship ∧ r.state = .pending then { r with
          state := .running, endsAt := s.clock.elapsed + r.count * 1000 } else r }
      let freed (h : Handle) := (s.desc h).state = .active ∧ (s.desc h).cancelRequested = true
      let s2 := match ch.active with
        | some h => if freed h then s1 else s1.suspend h
        | none => s1
      let s3 := match ch.item with
        | .relay h => s2.requeueReady h
        | _ => s2
      let s4 := match ch.item.onAirRequest with
        | some (i, due, a) => s3.returnRequest c i due a
        | none => s3
      let fault : Notice := ⟨.fault, some c, s.clock.ms, [.num 1 reason.code, .num 1 ch.item.code,
        .opt 1 (ch.active.map Fin.val), .opt 2 (ch.active.map fun h => (s.desc h).resume),
        .opt 1 (ch.item.relayHandle.map Fin.val), .opt 1 (ch.item.onAirRequest.map fun q => q.1.val),
        .opt 6 (ch.item.onAirRequest.map fun q => q.2.1)]⟩
      match ch.active with
      | some h =>
        if freed h then State.rejudgeGrant { s4.freeMessage h with outbox := [fault, ⟨.cancelled,
          some (s4.desc h).channel, s.clock.ms, [.num 1 h.val, .num 2 (s4.desc h).number, .num 3 (s4.desc h).dest,
            .num 2 (s4.desc h).resume, .num 2 (s4.desc h).length]⟩] }
        else { s4 with outbox := [fault] }
      | none => { s4 with outbox := [fault] }
    (ch.state = .keyUp → ch.keyRise + ch.settings.keyUpLimit ≤ s.clock.elapsed →
      x = .next (faulted ch.ready .keyUpFailed).flush)
    ∧ (ch.state ≠ .keyUp ∨ s.clock.elapsed < ch.keyRise + ch.settings.keyUpLimit → x = .next s)
    ∧ (ch.state ∈ [.offline, .standby, .keyUp, .faulted] → y = .next (s.setChan c { ch with ready := false }))
    ∧ (ch.state ∈ [.onAir, .closing] → y = .next (faulted false .transmitterDropped).flush)

/-- Ready arrives (R139, R150): a KEY-UP channel in time enters ON-AIR with its line case UNKNOWN and its symbol clock
started, reaches its first decision point and then sends KEYED; shown in full for a channel with nothing to send, which
keys IDLE fill (R22, R140). Any other channel takes the level alone. The threshold of a slot (R138 cause 3) raises the key
request of a STANDBY channel, shown while ready is absent; before it, and in another state, nothing happens. A decision
point (R105) takes the occurrences that are due (R92), then settles an unfinished message by the orders of R123, or begins
the BULLETIN-CUT marker (R127), or selects, and judges the deadlines last (R94). Selection (R107): a relay (R108); the due
requests in list order until one starts (R95, R109, R131); the PARKED message, returned when its ship is held (R110); a new
message (R111, R114); IDLE fill or, by the hang rule, the key off (R113, R140). -/
def Obligations.ReadyAndThresholdKeyChannels : Prop :=
  (∀ (s : State) (c : ChannelNo), s.outbox = [] →
    let ch := s.chan c
    let x := exec (.transmitterReadyArrives c) s
    let y := exec (.slotKeyUpThreshold c) s
    let inTime := ch.state = .keyUp ∧ s.clock.elapsed ≤ ch.keyRise + ch.settings.keyUpLimit
    (inTime →
      let t := State.decisionPoint (s.setChan c { ch with ready := true, state := .onAir, lineCase := .unknown
                                                          item := .noItem, idleSince := none
                                                          symbolEnd := s.clock.elapsed + ch.settings.period }) c none
      x = .next (State.flush (State.judgeKeyUp
        { t with outbox := t.outbox ++ [⟨.keyed, some c, s.clock.ms, [.num 6 (s.clock.elapsed - ch.keyRise)]⟩] }
        (allChannels.filter fun d => (s.dueSlotsNaming c).any fun i => inSet (s.slot i).channels d))))
    ∧ (inTime → ch.relayQ = [] → ch.urgentQ = [] →
      ch.ordinaryQ = [] → ch.active = none → ch.requests = [] → s.dueSlotsNaming c = [] → 0 < ch.settings.hangTime →
      x = .next (State.flush (State.setChan { s with
          choices := s.choices + 1
          outbox := [⟨.keyed, some c, s.clock.ms, [.num 6 (s.clock.elapsed - ch.keyRise)]⟩] } c
        { ch with ready := true, state := .onAir, lineCase := .unknown, item := .idle
                  symbolEnd := s.clock.elapsed + ch.settings.period, idleSince := some s.clock.elapsed })))
    ∧ (¬inTime → x = .next (s.setChan c { ch with ready := true }))
    ∧ (∀ due, ch.state = .standby → s.nextOccurrence c = some due →
      due ≤ s.now + ch.settings.guard + ch.settings.keyUpLimit → ch.ready = false →
      y = .next (s.setChan c { ch with state := .keyUp, keyRise := s.clock.elapsed }))
    ∧ (ch.state ≠ .standby ∨ s.nextOccurrence c = none
      ∨ (∃ due, s.nextOccurrence c = some due ∧ s.now + ch.settings.guard + ch.settings.keyUpLimit < due) →
      y = .next s))
  ∧ (∀ (s₀ : State) (c : ChannelNo) (cut : Option Closes),
    let s := s₀.takeOccurrences (s₀.dueSlotsNaming c)
    let ch := s.chan c
    let does (t : State) := s₀.decisionPoint c cut = t.judgeBoundary c
    (∀ h, ch.active = some h → (s.desc h).state = .active →
      let d := s.desc h
      let marker (p : Purpose) (fit : Option FitRecord) := s.setChan c { ch with
        item := .marker (.message h) p 0, idleSince := none, lastFit := fit }
      let held := ∃ r ∈ ch.holds, r.ship = d.dest
      let bulletinDue := ∃ q ∈ ch.requests, q.state = .waiting ∧ q.due ≤ s.now ∧ s.now < q.deadline
      (d.cancelRequested = true → does (marker .cancel ch.lastFit))
      ∧ (d.cancelRequested = false → ch.state = .closing → does (marker .close ch.lastFit))
      ∧ (d.cancelRequested = false → ch.state ≠ .closing → held → does (marker .hold ch.lastFit))
      ∧ (d.cancelRequested = false → ch.state ≠ .closing → ¬held → ch.relayQ ≠ [] →
        does (marker (.park .relay) ch.lastFit))
      ∧ (d.cancelRequested = false → ch.state ≠ .closing → ¬held → ch.relayQ = [] → bulletinDue →
        does (marker (.park .bulletin) ch.lastFit))
      ∧ (d.cancelRequested = false → ch.state ≠ .closing → ¬held → ch.relayQ = [] → ¬bulletinDue →
        let f := s.fitTest c h s.now false ch.lineCase
        (∀ e, f.planned = some e → does (s.setChan c { ch with
          item := .segment h d.resume e none, idleSince := none, lastFit := some f }))
        ∧ (f.planned = none → does (marker (.park .budget) (some f)))))
    ∧ ((∀ h, ch.active = some h → (s.desc h).state ≠ .active) →
      (∀ w, cut = some w → does (s.setChan c { ch with item := .marker w .bulletinCut 0, idleSince := none }))
      ∧ (cut = none → ch.state = .closing → does (s.reachOffline c))
      ∧ (cut = none → ch.state ≠ .closing → does (s.select c))))
  ∧ ∀ (s : State) (c : ChannelNo), ((s.chan c).requests.Pairwise fun p q => p.before q = true) →
    let ch := s.chan c
    let held (h : Handle) := ∃ r ∈ ch.holds, r.ship = (s.desc h).dest
    let due (q : Request) := q.state = .waiting ∧ q.due ≤ s.now
    let idle (t : State) := if ch.settings.hangTime ≤ (ch.idleSince.map (s.clock.elapsed - ·)).getD 0
        ∧ t.keyUpCause c = false then
      State.setChan { t with outbox := t.outbox ++ [⟨.unkeyed, some c, s.clock.ms,
          [.num 6 ((ch.idleSince.map (s.clock.elapsed - ·)).getD 0)]⟩] } c
        { t.chan c with state := .standby, item := .noItem, idleSince := none }
      else t.setChan c { t.chan c with item := .idle, idleSince := some (ch.idleSince.getD s.clock.elapsed) }
    let resumed (h : Handle) (e : Nat) : Notice := ⟨.resumed, some c, s.clock.ms, [.num 1 h.val,
      .num 2 (s.desc h).number, .num 2 (s.desc h).resume, .num 1 (if ch.lineCase = .letters then 14 else 15), .num 2 e]⟩
    let begun (h : Handle) (f : FitRecord) (e : Nat) (v : Channel) : State :=
      if (s.desc h).state = .parked ∨ (s.desc h).state = .suspended then
        State.setChan { s.setDesc h { s.desc h with state := .active } with outbox := s.outbox ++ [resumed h e] } c
          { v with item := .header h (if ch.lineCase = .letters then 14 else 15) 0 e none, idleSince := none, lastFit := some f }
      else (s.setDesc h { s.desc h with state := .active }).setChan c
        { v with item := .segment h (s.desc h).resume e none, idleSince := none, lastFit := some f }
    let tried (h : Handle) (v : Channel) :=
      let f := s.fitTest c h s.now (decide ((s.desc h).state = .parked ∨ (s.desc h).state = .suspended)) ch.lineCase
      (∀ e, f.planned = some e → s.select c = begun h f e v)
      ∧ (f.planned = none → s.select c = idle (s.setChan c { ch with lastFit := some f }))
    (∀ h hs, ch.relayQ = h :: hs → s.select c = (s.setDesc h { s.desc h with state := .active, resume := 0 }).setChan c
      { ch with item := .relay h, idleSince := none })
    ∧ (∀ ps q qs, ch.relayQ = [] → ch.requests = ps ++ q :: qs → (∀ p ∈ ps, ¬due p) → due q →
      (q.deadline ≤ s.now → s.select c = (s.endBroken c q false).select c)
      ∧ (s.now < q.deadline → (s.area q.area).state ≠ .ready →
        s.select c = (s.endRequest c q .noText (some (s.now - q.due)) false).select c)
      ∧ (s.now < q.deadline → (s.area q.area).state = .ready →
        s.select c = (s.setArea q.area { s.area q.area with onAir := (s.area q.area).onAir + 1 }).setChan c { ch with
          requests := ps ++ { q with state := .onAir, firstStart := some (q.firstStart.getD s.now) } :: qs
          item := .bulletin q.slot q.due q.area 0 none, idleSince := none }))
    ∧ (ch.relayQ = [] → (∀ q ∈ ch.requests, ¬due q) →
      (∀ h, ch.active = some h → (s.desc h).state = .parked → (s.desc h).channel = c → (s.desc h).cls ≠ .relay →
        (held h → s.select c = State.select { s.suspend h with outbox := s.outbox ++ [⟨.suspended, some c, s.clock.ms,
          [.num 1 h.val, .num 2 (s.desc h).number, .num 1 0, .num 2 (s.desc h).resume, .num 3 (s.desc h).dest]⟩] } c)
        ∧ (¬held h → tried h ch))
      ∧ (ch.active = none →
        (∀ h, s.chooseNew c = some h → tried h { ch.detach h with
          active := some h
          urgentRun := if (s.desc h).cls = .urgent then min (ch.urgentRun + 1) ch.settings.urgentRun else 0 })
        ∧ (s.chooseNew c = none → s.select c = idle s)))

/-- A line symbol completes (R18 to R20, R139, R147). Before its period has ended, and on a channel that is not keyed,
nothing completes. The symbol is the item's next one (R22 to R24, R106), behind the shift that a symbol of the other case
needs, which alone changes the line case. It is counted, the count of line symbols wrapping with COUNTER-WRAP ahead of every
other notice of the completion (notes/assumptions/8.md), and the next period begins where this one ended. After a shift, and
while the item goes on, the deadlines are judged at the boundary (R94); at its end a decision point follows (R105). IDLE
fill ends at once. A header's segment follows it (R114). A marker does at its end what its purpose asks (R124, R97, R145). A
text symbol raises r, and the first of a segment is counted (R62, R121); a segment ends at its planned end, starting a
PENDING hold (R122, R165), and a message at its last symbol; a relay is keyed to its end (R108). A bulletin ends at its cut
point with its marker (R127), or at its last symbol with its outcome (R96, R131). A message that ends (R67, R69, R77, R147)
is counted by its length, and freed as CANCELLED or DONE, or put at the tail of the sent list with its timer, SENT carrying
the ack due as an optional time (notes/assumptions/11.md). -/
def Obligations.LineSymbolsComplete : Prop :=
  (∀ (s : State) (c : ChannelNo), s.outbox = [] →
    let ch := s.chan c
    let x := exec (.lineSymbolCompletes c) s
    let up (n : Nat) := if n < 4294967295 then n + 1 else 4294967295
    let base (f : Channel → Channel) : State := State.setChan { s with
        outbox := if ch.stats.lineSymbols < 4294967295 then [] else [⟨.counterWrap, some c, s.clock.ms, []⟩] } c
      (f { ch with
        symbolEnd := ch.symbolEnd + ch.settings.period
        stats := { ch.stats with
          lineSymbols := if ch.stats.lineSymbols < 4294967295 then ch.stats.lineSymbols + 1 else 0 } })
    let gives (t : State) := x = .next (State.flush (t.judgeKeyUp (allChannels.filter fun d =>
      decide ((s.chan d).requests ≠ (t.chan d).requests) || decide (d = c))))
    let goesOn (t : State) (it : Item) := gives (State.judgeBoundary (t.setChan c { t.chan c with item := it }) c)
    let ends (t : State) (cut : Option Closes) :=
      gives (State.decisionPoint (t.setChan c { t.chan c with item := .noItem }) c cut)
    let digits (n : Nat) := [n / 10000 % 10, n / 1000 % 10, n / 100 % 10, n / 10 % 10, n % 10].map (33 + ·)
    let symbol : Option Nat := match ch.item with
      | .noItem => none
      | .idle => some 0
      | .header h _ n _ _ => ([2, 3, 9, 26, 10, 1] ++ digits (s.desc h).number ++ [2, 3])[n]?
      | .marker _ _ n => [2, 3, 3][n]?
      | .segment h _ _ _ | .relay h => some (s.textSymbol h (s.desc h).resume)
      | .bulletin _ _ a pos _ => some (s.areaSymbol a pos)
    let shift (y : Nat) := if 7 ≤ y ∧ y ≤ 32 ∧ ch.lineCase ≠ .letters then some LineCase.letters
      else if 33 ≤ y ∧ y ≤ 63 ∧ ch.lineCase ≠ .figures then some LineCase.figures else none
    let keyed (h : Handle) (start : Nat) : State :=
      let d := s.desc h
      (base fun v => { v with stats := { v.stats with
        segments := if d.resume = start then up v.stats.segments else v.stats.segments } }).setDesc h { d with
          resume := d.resume + 1
          segments := if d.resume = start then (if d.segments < 65535 then d.segments + 1 else 65535) else d.segments
          firstKeyed := some (d.firstKeyed.getD s.now) }
    let released (t : State) (ship : Nat) : State := t.setChan c { t.chan c with
      holds := (t.chan c).holds.map fun r => if r.ship = ship ∧ r.state = .pending then { r with
        state := .running, endsAt := s.clock.elapsed + r.count * 1000 } else r }
    (ch.state ∉ [.onAir, .closing] ∨ s.clock.elapsed < ch.symbolEnd ∨ ch.item = .noItem → x = .next s)
    ∧ (ch.state ∈ [.onAir, .closing] → ch.symbolEnd ≤ s.clock.elapsed → ∀ y, symbol = some y →
      (∀ k, shift y = some k → gives (State.judgeBoundary (base fun v => { v with
        lineCase := k, stats := { v.stats with shifts := up v.stats.shifts } }) c))
      ∧ (shift y = none →
        (ch.item = .idle → ends (base fun v => { v with stats := { v.stats with idles := up v.stats.idles } }) none)
        ∧ (∀ h k n e cut, ch.item = .header h k n e cut →
          (n < 12 → goesOn (base id) (.header h k (n + 1) e cut))
          ∧ (n = 12 → goesOn (base id) (.segment h (s.desc h).resume e cut)))
        ∧ (∀ w p n, ch.item = .marker w p n →
          (n < 2 → goesOn (base id) (.marker w p (n + 1)))
          ∧ (n = 2 →
            let t := base fun v => { v with stats := { v.stats with markers := up v.stats.markers } }
            (∀ i due a, w = .request i due a → ends (t.returnRequest c i due a) none)
            ∧ ∀ h, w = .message h →
              let d := s.desc h
              (∀ reason, p = .park reason → ends { t.setDesc h { d with state := .parked } with
                outbox := t.outbox ++ [⟨.parked, some c, s.clock.ms, [.num 1 h.val, .num 2 d.number,
                  .num 1 reason.code, .num 2 d.resume, .num 2 d.length]⟩] } none)
              ∧ (p = .hold ∨ p = .close → ends { t.suspend h with
                outbox := t.outbox ++ [⟨.suspended, some d.channel, s.clock.ms, [.num 1 h.val, .num 2 d.number,
                  .num 1 (if p = .hold then 0 else 1), .num 2 d.resume, .num 3 d.dest]⟩] } none)
              ∧ (p = .cancel → ends (State.rejudgeGrant { t.freeMessage h with
                outbox := t.outbox ++ [⟨.cancelled, some d.channel, s.clock.ms, [.num 1 h.val, .num 2 d.number,
                  .num 3 d.dest, .num 2 d.resume, .num 2 d.length]⟩] }) none)))
        ∧ (∀ h start e cut, ch.item = .segment h start e cut →
          let d := s.desc h
          (d.resume + 1 = d.length → ends ((released (keyed h start) d.dest).messageEnds c h) none)
          ∧ (d.resume + 1 ≠ d.length → e ≤ d.resume + 1 → ends (released (keyed h start) d.dest) none)
          ∧ (d.resume + 1 ≠ d.length → d.resume + 1 < e → goesOn (keyed h start) ch.item))
        ∧ (∀ h, ch.item = .relay h →
          ((s.desc h).resume + 1 = (s.desc h).length → ends ((keyed h 0).messageEnds c h) none)
          ∧ ((s.desc h).resume + 1 ≠ (s.desc h).length → goesOn (keyed h 0) ch.item))
        ∧ ∀ i due a pos cut, ch.item = .bulletin i due a pos cut →
          ((s.area a).length ≤ pos + 1 → ∀ q, ch.requests.find? (fun q => decide (q.slot = i ∧ q.due = due)) = some q →
            let late := (q.firstStart.map fun t => t - q.due).getD 0
            ends (State.endRequest ((base id).setArea a { s.area a with onAir := (s.area a).onAir - 1 }) c q
              (if 0 < q.restarts then .restarted else if late < ch.settings.period then .onTime else .late)
              (q.firstStart.map fun t => t - q.due) false) none)
          ∧ (pos + 1 < (s.area a).length → cut = some (pos + 1) → ends (base id) (some (.request i due a)))
          ∧ (pos + 1 < (s.area a).length → cut ≠ some (pos + 1) →
            goesOn (base id) (.bulletin i due a (pos + 1) cut)))))
  ∧ ∀ (s : State) (c : ChannelNo) (h : Handle),
    let d := s.desc h
    let t := s.chan c
    let up (n : Nat) := if n < 4294967295 then n + 1 else 4294967295
    let u := (s.setDesc h { d with doneTime := some s.now }).setChan c { t with stats :=
      if d.length ≤ 255 then { t.stats with done255 := up t.stats.done255 }
      else if d.length ≤ 1023 then { t.stats with done1023 := up t.stats.done1023 }
      else if d.length ≤ 4095 then { t.stats with done4095 := up t.stats.done4095 }
      else { t.stats with done8192 := up t.stats.done8192 } }
    let freed (e : Event) (fs : List Field) := State.rejudgeGrant { u.freeMessage h with
      outbox := s.outbox ++ [⟨e, some d.channel, s.clock.ms, [.num 1 h.val, .num 2 d.number, .num 3 d.dest] ++ fs⟩] }
    let due := if (s.chan d.channel).settings.ackTimeout = 0 then none
      else some (s.clock.elapsed + (s.chan d.channel).settings.ackTimeout * 1000)
    (d.cancelRequested = true → s.messageEnds c h = freed .cancelled [.num 2 d.resume, .num 2 d.length])
    ∧ (d.cancelRequested = false → d.cls = .relay ∨ d.confirm = false → s.messageEnds c h = freed .done
      [.num 1 d.cls.code, .num 2 d.length, .num 2 d.segments, .num 6 (d.firstKeyed.getD 0), .num 6 s.now])
    ∧ (d.cancelRequested = false → d.cls ≠ .relay → d.confirm = true → d.channel = c →
      s.messageEnds c h = State.setChan { u.setDesc h { d with
          doneTime := some s.now, state := .awaitAck, ackDue := due } with
        outbox := s.outbox ++ [⟨.sent, some c, s.clock.ms, [.num 1 h.val, .num 2 d.number, .num 3 d.dest,
          .num 2 d.length, .num 1 d.repeats, .num 6 s.now, .opt 6 due]⟩] } c
        { (u.chan c).detach h with sent := ((u.chan c).detach h).sent ++ [h] })

/-! ### The Receive Watch -/

/-- SET-WATCH, CLEAR-WATCH and READ-WATCH (R159); RELEASE-CAPTURE and READ-CAPTURE (R162). A SET-WATCH of the right size is
refused RANGE for a watch above 3, an empty channel set, a value count of 0 or above 32, a value symbol above 63, a care
flag above 1 or a minimum length above 48. A body that is damaged or has none of the three forms (R157) is captured when its
ending symbol is taken (R155), as PATTERN n for the first watch that matches it, as CALL when none does (R160), with at
most 48 symbols; at a full latch it is lost (R161). The one-byte minimum length of READ-WATCH is notes/assumptions/9.md,
the layout of absent fields notes/assumptions/11.md. -/
def Obligations.WatchesAndCaptures : Prop :=
  (∀ (s : State) (b set m : Byte) (w : WatchNo) (vs : List (Byte × Byte)) (c : ChannelNo), s.takesAtOnce →
    vs.length < 256 →
    let x := exec (.setWatch ([b, set, byteOf vs.length, m] ++ vs.flatMap fun v => [v.1, v.2])) s
    let ok := b = byteOf w.val ∧ set ≠ 0 ∧ vs ≠ [] ∧ vs.length ≤ 32 ∧ (∀ v ∈ vs, v.1.toNat ≤ 63 ∧ v.2.toNat ≤ 1)
      ∧ m.toNat ≤ 48
    let bad := 3 < b.toNat ∨ set = 0 ∨ vs = [] ∨ 32 < vs.length ∨ (∃ v ∈ vs, 63 < v.1.toNat ∨ 1 < v.2.toNat)
      ∨ 48 < m.toNat
    let y := exec (.readWatch [byteOf w.val]) s
    let z := exec (.readCapture [byteOf c.val]) s
    let ch := s.chan c
    (ok → x = .next ((s.setWatch w (some ⟨set, vs.map fun v => (v.1.toNat, decide (v.2 = 1)), m.toNat⟩)).accepted 0x25
      [.num 1 w.val, .num 1 1]))
    ∧ (bad → x = .next (s.refused 0x25 .range))
    ∧ exec (.clearWatch [byteOf w.val]) s = .next ((s.setWatch w none).accepted 0x26 [.num 1 w.val, .num 1 0])
    ∧ (s.watch w = none →
      y = .next (s.accepted 0x27 [.num 1 0, .opt 1 none, .opt 1 none, .num 1 0, .num 2 0, .opt 1 none]))
    ∧ (∀ p, s.watch w = some p → y = .next (s.accepted 0x27 ([.num 1 1, .opt 1 (some p.channels.toNat),
        .opt 1 (some p.values.length), .num 1 1, .num 2 p.values.length]
      ++ p.values.flatMap (fun v => [.num 1 v.1, .num 1 v.2.toNat]) ++ [.opt 1 (some p.minLength)])))
    ∧ exec (.releaseCapture [byteOf c.val]) s = .next ((s.setChan c { ch with latch := none }).accepted 0x28
      [.num 1 ch.latch.isSome.toNat, .num 1 ch.rx.capturesLost])
    ∧ (ch.latch = none → z = .next (s.accepted 0x29 [.num 1 0, .opt 1 none, .opt 3 none, .opt 6 none, .opt 2 none,
      .num 1 0, .num 2 0, .opt 1 none, .opt 1 (some ch.rx.capturesLost)]))
    ∧ ∀ k, ch.latch = some k → z = .next (s.accepted 0x29 ([.num 1 1, .opt 1 (some (k.pattern.elim 4 Fin.val)),
        .opt 3 (some k.ident), .opt 6 (some k.arrival), .opt 2 (some k.bodyLength), .num 1 1, .num 2 k.symbols.length]
      ++ k.symbols.map (fun y => .num 1 y) ++ [.opt 1 (some k.damaged.toNat), .opt 1 (some ch.rx.capturesLost)])))
  ∧ ∀ (s : State) (c : ChannelNo) (y : Nat) (mutilated : Bool) (call after : Parser) (kind : Option WatchNo),
    s.outbox = [] → (s.chan c).state ≠ .offline → (s.chan c).parser.bodyEnds y mutilated call after →
    (call.damaged = false → ∀ form ds rest, ¬calls call.body form ds rest) →
    let ch := s.chan c
    let x := exec (.receivedSymbol c y mutilated) s
    let counted := ch.rx.counted mutilated
    let fits (w : WatchNo) := ∃ p, s.watch w = some p ∧ inSet p.channels c = true ∧ p.minLength ≤ call.body.length
      ∧ ∀ (i : Nat) (v : Nat), p.values[i]? = some (v, true) → call.body[i]? = some v
    (∀ w, kind = some w → fits w ∧ ∀ v, v < w → ¬fits v) → (kind = none → ∀ w, ¬fits w) →
    (ch.latch = none → x = .next (State.flush (State.setChan { s with
        outbox := [⟨.capture, some c, s.clock.ms, [.num 1 (kind.elim 4 Fin.val), .num 3 call.ident,
          .num 2 call.body.length, .num 1 call.damaged.toNat]⟩] } c
      { ch with
        parser := after
        latch := some ⟨kind, call.ident, s.now, call.body.length, call.body.take 48, call.damaged⟩
        rx := { counted with latched := if ch.rx.latched < 4294967295 then ch.rx.latched + 1 else 4294967295 } })))
    ∧ (ch.latch ≠ none → x = .next (s.setChan c { ch with
        parser := after
        rx := { counted with capturesLost := if ch.rx.capturesLost < 255 then ch.rx.capturesLost + 1 else 255 } }))

/-- Hold records are removed by CLEAR-HOLD (R167), by expiry and by a HOLD with count 0 (R166), and reported with their
remaining seconds (R163); the key-up causes are judged after each removal. A PENDING record, and a RUNNING one before its
time, does not expire; a HOLD 0 from a ship with no record is counted alone. -/
def Obligations.HoldsAreRemoved : Prop :=
  (∀ (s : State) (c : ChannelNo) (ship : Nat), ship < 2 ^ 24 →
    let ch := s.chan c
    let x := exec (.clearHold (byteOf c.val :: toBe 3 ship)) s
    let y := exec (.holdExpiry c ship) s
    let gone := ch.holds.filter fun r => decide (r.ship ≠ ship)
    (s.takesAtOnce →
      (ship = 0 ∨ 99999 < ship → x = .next (s.refused 0x2A .range))
      ∧ (1 ≤ ship → ship ≤ 99999 → (∀ r ∈ ch.holds, r.ship ≠ ship) → x = .next (s.refused 0x2A .notFound))
      ∧ ∀ r, 1 ≤ ship → ship ≤ 99999 → r ∈ ch.holds → r.ship = ship → (ch.holds.map (·.ship)).Nodup →
        x = .next (((((s.setChan c { ch with holds := gone }).judgeKeyUp [c]).accepted 0x2A [.num 1 c.val, .num 3 ship,
          .num 1 r.state.code,
          .num 2 (if r.state = .pending then r.count else (r.endsAt - s.clock.elapsed + 999) / 1000)])).flush))
    ∧ (s.outbox = [] →
      (∀ r ∈ ch.holds, r.ship = ship → r.state = .running → r.endsAt ≤ s.clock.elapsed →
        y = .next (State.flush (State.judgeKeyUp (State.setChan { s with
          outbox := [⟨.holdEnded, some c, s.clock.ms, [.num 3 ship, .num 1 1]⟩] } c { ch with holds := gone }) [c])))
      ∧ ((∀ r ∈ ch.holds, r.ship = ship → r.state = .pending ∨ s.clock.elapsed < r.endsAt) → y = .next s)))
  ∧ ∀ (s : State) (c : ChannelNo) (y : Nat) (mutilated : Bool) (call after : Parser) (ds rest : List Nat),
    s.outbox = [] → (s.chan c).state ≠ .offline → (s.chan c).parser.bodyEnds y mutilated call after →
    call.damaged = false → calls call.body .hold ds rest → spelled ds = 0 →
    let ch := s.chan c
    let x := exec (.receivedSymbol c y mutilated) s
    let counted := ch.rx.counted mutilated
    let rx : RxCounts := { counted with
      holdsTaken := if ch.rx.holdsTaken < 4294967295 then ch.rx.holdsTaken + 1 else 4294967295 }
    ((∃ r ∈ ch.holds, r.ship = call.ident) → x = .next (State.flush (State.judgeKeyUp (State.setChan { s with
        outbox := [⟨.holdEnded, some c, s.clock.ms, [.num 3 call.ident, .num 1 0]⟩] } c
      { ch with parser := after, holds := ch.holds.filter fun r => decide (r.ship ≠ call.ident), rx := rx }) [c])))
    ∧ ((∀ r ∈ ch.holds, r.ship ≠ call.ident) → x = .next (s.setChan c { ch with parser := after, rx := rx }))

/-- READ-RECEIVE (R168) reports the parser, the counts, the hold table and the latch, and with its clear flag sets every
count to 0 and nothing else. That the hold records are listed in the order of their creation, in which the table is kept,
is the model's choice, notes/assumptions/26.md. -/
def Obligations.ReadReceiveReportsAndClears : Prop :=
  ∀ (s : State) (c : ChannelNo) (b : Byte), s.takesAtOnce →
    let ch := s.chan c
    let r := ch.rx
    let fs : List Field := [.num 1 ch.parser.state.code, .num 1 ch.parser.run, .num 4 r.symbols, .num 4 r.mutilated,
        .num 4 r.accepted, .num 4 r.rejected, .num 4 r.holdsTaken, .num 2 r.holdsLost, .num 4 r.acksMatched,
        .num 4 r.repeatsMatched, .num 4 r.unmatched, .num 4 r.latched, .num 1 r.capturesLost, .num 2 ch.holds.length]
      ++ ch.holds.flatMap (fun r => [.num 3 r.ship, .num 1 r.state.code,
        .num 2 (if r.state = .pending then r.count else (r.endsAt - s.clock.elapsed + 999) / 1000)])
      ++ [.num 1 ch.latch.isSome.toNat]
    exec (.readReceive [byteOf c.val, 0]) s = .next (s.accepted 0x2B fs)
    ∧ exec (.readReceive [byteOf c.val, 1]) s = .next ((s.setChan c { ch with
      rx := ⟨0, 0, 0, 0, 0, 0, 0, 0, 0, 0, 0⟩ }).accepted 0x2B fs)
    ∧ (1 < b.toNat → exec (.readReceive [byteOf c.val, b]) s = .next (s.refused 0x2B .range))

/-- SKIP (R156). In it an undamaged PHASING starts a run of 1, and every other symbol is counted and leaves the parser in
SKIP. It is entered after a rejected identity, unless an undamaged PHASING rejected it, and after a body cut at 64
symbols. -/
def Obligations.SkipWaitsForPhasing : Prop :=
  ∀ (s : State) (c : ChannelNo) (y : Nat) (mutilated : Bool), s.outbox = [] → (s.chan c).state ≠ .offline →
    let ch := s.chan c
    let p := ch.parser
    let x := exec (.receivedSymbol c y mutilated) s
    let after (p : Parser) := s.setChan c { ch with parser := p, rx := ch.rx.counted mutilated }
    (p.state = .skip → x = .next (if y = 6 ∧ mutilated = false then after ⟨.phasing, 1, [], 0, [], false⟩ else after p))
    ∧ (∀ t, p.state = .ident → x = .next t → (t.chan c).rx.rejected ≠ ch.rx.rejected → ¬(y = 6 ∧ mutilated = false) →
      (t.chan c).parser.state = .skip)
    ∧ ∀ t, p.state = .body → p.body.length = 63 → (mutilated = true ∨ y ∉ [0, 4, 5, 6]) → x = .next t →
      (t.chan c).parser.state = .skip

/-- Received symbols, the call parser (R151 to R155) and what a call brings (R157, R158, R164, R71 to R73). A symbol at an
OFFLINE channel changes nothing; any other is counted, and an undamaged shift does nothing more. In HUNT and PHASING the
run is counted, broken or complete; the symbol that completes it, and every one in IDENT, joins the identity when it is an
undamaged digit that agrees with the first copy, and otherwise rejects the call; the identity is accepted with its last
digit unless its value is 0. In BODY a symbol joins the body and a mutilated one damages it. A HOLD with a count above 0
creates a record, PENDING or RUNNING, at the end of the table (notes/assumptions/26.md), reloads the ship's own, or is lost at
a full table (notes/assumptions/17.md). An ACK frees the matched message, ACKED or ACKED-LATE; a REPEAT returns it READY to
the head of its queue, or is refused at three repeats; a call that matches none is UNMATCHED, its form sent as ACK 0 or
REPEAT 1 (notes/assumptions/10.md). The run count in IDENT, BODY and SKIP is notes/assumptions/18.md. -/
def Obligations.ReceivedCallsAreActedOn : Prop :=
  (∀ (s : State) (c : ChannelNo) (y : Nat) (mutilated : Bool), s.outbox = [] →
    let ch := s.chan c
    let p := ch.parser
    let x := exec (.receivedSymbol c y mutilated) s
    let up (n : Nat) := if n < 4294967295 then n + 1 else 4294967295
    let counted := ch.rx.counted mutilated
    let becomes (q : Parser) := x = .next (s.setChan c { ch with parser := q, rx := counted })
    let hunt : Parser := ⟨.hunt, 0, [], 0, [], false⟩
    let run : Parser := ⟨.phasing, 1, [], 0, [], false⟩
    let phasing := y = 6 ∧ mutilated = false
    let digit := 33 ≤ y ∧ y ≤ 42 ∧ mutilated = false
    let rejects (q : Parser) := x = .next (s.setChan c { ch with
      parser := q, rx := { counted with rejected := up ch.rx.rejected } })
    let skip : Parser := ⟨.skip, p.run, [], 0, [], false⟩
    let joins (ds : List Nat) :=
      let value := spelled (((ds ++ [y]).take 5).map (· - 33))
      let good := digit ∧ (5 ≤ ds.length → ds[ds.length % 5]? = some y)
      (¬good → ¬phasing → rejects skip)
      ∧ (good → ds.length + 1 < 5 * ch.settings.copies → becomes ⟨.ident, p.run, ds ++ [y], p.ident, p.body, p.damaged⟩)
      ∧ (good → 5 * ch.settings.copies ≤ ds.length + 1 → value = 0 → rejects skip)
      ∧ (good → 5 * ch.settings.copies ≤ ds.length + 1 → value ≠ 0 → x = .next (s.setChan c { ch with
        parser := ⟨.body, p.run, ds ++ [y], value, [], false⟩
        rx := { counted with accepted := up ch.rx.accepted } }))
    (ch.state = .offline → x = .next s)
    ∧ (ch.state ≠ .offline →
      ((y = 4 ∨ y = 5) → mutilated = false → becomes p)
      ∧ (¬((y = 4 ∨ y = 5) ∧ mutilated = false) →
        (p.state = .hunt → (phasing → becomes run) ∧ (¬phasing → becomes p))
        ∧ (p.state = .phasing →
          (phasing → becomes { p with run := if p.run < 16 then p.run + 1 else 16 })
          ∧ (mutilated = true ∨ ¬phasing ∧ p.run < ch.settings.phasingRun → becomes hunt)
          ∧ (mutilated = false → ¬phasing → ch.settings.phasingRun ≤ p.run → p.ident = 0 → p.body = [] →
            p.damaged = false → joins []))
        ∧ (p.state = .ident → (phasing → rejects run) ∧ joins p.digits)
        ∧ (p.state = .body → (mutilated = true ∨ y ∉ [0, 6]) → p.body.length < 63 →
          becomes { p with body := p.body ++ [y], damaged := p.damaged || mutilated }))))
  ∧ ∀ (s : State) (c : ChannelNo) (y : Nat) (mutilated : Bool) (call after : Parser) (ds rest : List Nat),
    s.outbox = [] → (s.chan c).state ≠ .offline → (s.chan c).parser.bodyEnds y mutilated call after →
    call.damaged = false →
    let ch := s.chan c
    let x := exec (.receivedSymbol c y mutilated) s
    let up (n : Nat) := if n < 4294967295 then n + 1 else 4294967295
    let counted := ch.rx.counted mutilated
    let n := spelled ds
    (calls call.body .hold ds rest → n ≠ 0 →
      let taken : RxCounts := { counted with holdsTaken := up ch.rx.holdsTaken }
      let notice (st reloaded : Nat) : Notice := ⟨.hold, some c, s.clock.ms,
        [.num 3 call.ident, .num 2 n, .num 1 st, .num 1 reloaded]⟩
      ((∀ r ∈ ch.holds, r.ship ≠ call.ident) → ch.holds.length < 8 →
        let r : Hold := if s.segmentShip c = some call.ident then ⟨call.ident, .pending, n, 0⟩
          else ⟨call.ident, .running, n, s.clock.elapsed + n * 1000⟩
        x = .next (State.flush (State.judgeKeyUp (State.setChan { s with outbox := [notice r.state.code 0] } c
          { ch with parser := after, holds := ch.holds ++ [r], rx := taken }) [c])))
      ∧ ((∀ r ∈ ch.holds, r.ship ≠ call.ident) → 8 ≤ ch.holds.length →
        x = .next (State.flush (State.setChan { s with
            outbox := [⟨.holdLost, some c, s.clock.ms, [.num 3 call.ident, .num 2 n]⟩] } c { ch with
          parser := after
          rx := { counted with holdsLost := if ch.rx.holdsLost < 65535 then ch.rx.holdsLost + 1 else 65535 } })))
      ∧ ∀ r ps qs, ch.holds = ps ++ r :: qs → r.ship = call.ident → (∀ q ∈ ps ++ qs, q.ship ≠ call.ident) →
        let r' : Hold := if r.state = .pending then { r with count := n }
          else { r with endsAt := s.clock.elapsed + n * 1000 }
        x = .next (State.flush (State.setChan { s with outbox := [notice r.state.code 1] } c
          { ch with parser := after, holds := ps ++ r' :: qs, rx := taken })))
    ∧ ((calls call.body .ack ds rest ∨ calls call.body .repeat ds rest) →
      let u := s.setChan c { ch with parser := after, rx := counted }
      let matched (h : Handle) := 1 ≤ n ∧ n ≤ 65535 ∧ h ∈ ch.sent
        ∧ ((s.desc h).state = .awaitAck ∨ (s.desc h).state = .unconfirmed) ∧ (s.desc h).number = n
        ∧ (s.desc h).dest = call.ident
      ((∀ h, ¬matched h) → ∀ form : CallForm, (form = .ack ↔ calls call.body .ack ds rest) →
        x = .next (State.flush (State.setChan { s with outbox := [⟨.unmatched, some c, s.clock.ms,
            [.num 1 (if form = .ack then 0 else 1), .num 3 call.ident, .num 3 n]⟩] } c
          { ch with parser := after, rx := { counted with unmatched := up ch.rx.unmatched } })))
      ∧ ∀ h, matched h → (∀ g, matched g → g = h) → (s.desc h).channel = c →
        let d := s.desc h
        let fs : List Field := [.num 1 h.val, .num 2 d.number, .num 3 d.dest]
        (calls call.body .ack ds rest →
          let t := State.rejudgeGrant { u.freeMessage h with outbox :=
            [⟨if d.state = .awaitAck then .acked else .ackedLate, some c, s.clock.ms,
              fs ++ [.num 1 d.repeats, .num 6 (d.doneTime.getD 0)]⟩] }
          x = .next (State.flush (t.setChan c { t.chan c with
            rx := { (t.chan c).rx with acksMatched := up ch.rx.acksMatched } })))
        ∧ (calls call.body .repeat ds rest → d.repeats < 3 →
          let v := u.requeueReady h
          let t := State.judgeKeyUp { v.setDesc h { v.desc h with repeats := d.repeats + 1 } with
            outbox := [⟨.repeated, some c, s.clock.ms, fs ++ [.num 1 (d.repeats + 1)]⟩] } [c]
          x = .next (State.flush (t.setChan c { t.chan c with
            rx := { (t.chan c).rx with repeatsMatched := up ch.rx.repeatsMatched } })))
        ∧ (calls call.body .repeat ds rest → 3 ≤ d.repeats →
          x = .next (State.flush (State.setChan { s with outbox := [⟨.repeatRefused, some c, s.clock.ms,
              fs ++ [.num 1 d.repeats, .num 1 d.state.code]⟩] } c
            { ch with parser := after, rx := { counted with repeatsMatched := up ch.rx.repeatsMatched } }))))

/-! ### Laws that every step keeps -/

/-- The store's cells keep their canonical form, and the clock (R1 to R3), the settings and counts with a range (section
8.2, R100, R104, R153) and the allowances (R39) stay in their ranges. -/
def Obligations.StepKeepsMemoryAndRanges : Prop :=
  ∀ s t : State, step s = .next t →
    (s.memoryOk → t.memoryOk) ∧ (s.clockOk → t.clockOk) ∧ (s.settingsOk → t.settingsOk)
    ∧ (s.allowancesOk → t.allowancesOk)

/-- The Office Link keeps its law (R173, R175, R178): at most 64 notices, one reply and four frames, a free transmitter
with nothing to send, and no frame that waits without a reply in its way. -/
def Obligations.StepKeepsTheLinkLaw : Prop := ∀ s t : State, s.linkOk → step s = .next t → t.linkOk

/-- Every pending list holds at most four requests in order, never two of one occurrence (R91); every hold table at most
eight records, no two of one ship; and the captures-lost count stays at most 255 (R161). From a state that keeps the laws
of the traffic (StepKeepsTheBlocks) no segment begins, by its header or by its text, to a ship with a record in the hold
table of its channel (R112), and one that begins is planned so that its header, its text with its shifts and the marker
reserved for it end by S - G of the earliest bulletin known (R119). -/
def Obligations.StepKeepsListsInOrder : Prop :=
  ∀ s t : State, step s = .next t → (s.requestsOk → t.requestsOk) ∧ (s.holdsOk → t.holdsOk)
    ∧ (s.trafficOk → ∀ c h header e, s.begins t c h header e →
      (∀ r ∈ (t.chan c).holds, r.ship ≠ (t.desc h).dest)
      ∧ ∀ due, t.nextBulletin c = some due →
        t.now + (t.chan c).settings.guard + (t.chan c).settings.period * (header.getD 0 + (e - (t.desc h).resume)
          + shiftCount (if header.isSome then .figures else (t.chan c).lineCase)
            ((List.range' (t.desc h).resume (e - (t.desc h).resume)).map (t.textSymbol h))
          + if e = (t.desc h).length then 0 else 3) ≤ due)

/-- The pool, the messages, the areas and the open load. Every step keeps each pool block in one place, free or in one
chain (R35 to R38), so F, the uses of the eight channels and the split always make 1,024 (R37). Every step keeps each
message in the one place that its state tells (R63 to R66), each channel's item in agreement with its state, its active
slot and its pending list (R104, R121, R131), 0 ≤ r ≤ L ≤ 8,192 (R62), each area's on-air count equal to the requests that
key it, with no keyed area redefined, cleared or reloaded (R33), and the credit of the open load within what it may still
receive, with blocks enough for what it has received and been granted (R17, R50). -/
def Obligations.StepKeepsTheBlocks : Prop :=
  (∀ s t : State, s.blocksOk → step s = .next t → t.blocksOk)
  ∧ (∀ s : State, s.blocksOk →
    s.store.free.length + (allChannels.map fun c => s.use c).sum + s.store.split = 1024)
  ∧ (∀ s t : State, s.trafficOk → step s = .next t → t.trafficOk)
  ∧ ∀ (s : State) (l : OpenLoad), s.trafficOk → s.loadUnit.current = some l →
    l.outstanding ≤ l.clamped - l.received
    ∧ ∀ h c, l.target = .telex h c → l.received + l.outstanding ≤ 64 * (s.desc h).chain.length

/-- The part right after power-on reset meets every law that its steps keep. -/
def Obligations.ResetMeetsTheLaws : Prop :=
  State.reset.memoryOk ∧ State.reset.clockOk ∧ State.reset.settingsOk ∧ State.reset.allowancesOk ∧ State.reset.linkOk
    ∧ State.reset.requestsOk ∧ State.reset.holdsOk ∧ State.reset.blocksOk ∧ State.reset.trafficOk
end

