-- ==== Sys2Proof/Laws/Encoding.lean ====
section
/-! SUPPORT. The encodings of section 10.1: numbers in bytes, and the sizes of fields. -/

namespace Sys2Proof.Machine

@[simp] theorem be_nil : be [] = 0 := rfl

theorem be_concat (bs : List Byte) (b : Byte) : be (bs ++ [b]) = be bs * 256 + b.toNat := by
  simp [be]

/-- The bytes of a number number its width. -/
@[simp] theorem toBe_length (w n : Nat) : (toBe w n).length = w := by
  induction w generalizing n with
  | zero => rfl
  | succ w ih => simp [toBe, ih]

/-- A number that fits its width comes back from its bytes. -/
theorem be_toBe (w n : Nat) : be (toBe w n) = n % 256 ^ w := by
  induction w generalizing n with
  | zero => simp [toBe, Nat.mod_one]
  | succ w ih =>
    have h := Nat.mod_mul (x := n) (a := 256) (b := 256 ^ w)
    rw [← Nat.pow_succ'] at h
    rw [toBe, be_concat, ih, BitVec.toNat_ofNat, h]
    omega

theorem be_toBe_of_lt {w n : Nat} (h : n < 256 ^ w) : be (toBe w n) = n := by
  rw [be_toBe, Nat.mod_eq_of_lt h]

/-- The bytes of a number of one to four bytes. -/
theorem toBe_one (n : Nat) : toBe 1 n = [BitVec.ofNat 8 n] := rfl

theorem toBe_two (n : Nat) : toBe 2 n = [BitVec.ofNat 8 (n / 256), BitVec.ofNat 8 n] := rfl

theorem toBe_three (n : Nat) :
    toBe 3 n = [BitVec.ofNat 8 (n / 256 / 256), BitVec.ofNat 8 (n / 256), BitVec.ofNat 8 n] := rfl

theorem toBe_four (n : Nat) : toBe 4 n
    = [BitVec.ofNat 8 (n / 256 / 256 / 256), BitVec.ofNat 8 (n / 256 / 256), BitVec.ofNat 8 (n / 256), BitVec.ofNat 8 n] :=
  rfl

theorem be_two {n : Nat} (h : n < 65536) : be [BitVec.ofNat 8 (n / 256), BitVec.ofNat 8 n] = n := be_toBe_of_lt (w := 2) h

theorem be_three {n : Nat} (h : n < 16777216) :
    be [BitVec.ofNat 8 (n / 256 / 256), BitVec.ofNat 8 (n / 256), BitVec.ofNat 8 n] = n := be_toBe_of_lt (w := 3) h

theorem be_four {n : Nat} (h : n < 4294967296) :
    be [BitVec.ofNat 8 (n / 256 / 256 / 256), BitVec.ofNat 8 (n / 256 / 256), BitVec.ofNat 8 (n / 256), BitVec.ofNat 8 n]
      = n := be_toBe_of_lt (w := 4) h

/-- Bytes spell a number below the number of their spellings. -/
theorem be_lt (bs : List Byte) : be bs < 256 ^ bs.length := by
  induction bs using List.reverseRecOn with
  | nil => simp
  | append_singleton bs b ih =>
    rw [be_concat, List.length_append, List.length_singleton, Nat.pow_succ]
    have := b.isLt
    omega

/-- Bytes are the bytes of the number they spell. -/
theorem toBe_be (bs : List Byte) : toBe bs.length (be bs) = bs := by
  induction bs using List.reverseRecOn with
  | nil => rfl
  | append_singleton bs b ih =>
    have hb := b.isLt
    rw [List.length_append, List.length_singleton, be_concat, toBe]
    have h1 : (be bs * 256 + b.toNat) / 256 = be bs := by omega
    have h2 : BitVec.ofNat 8 (be bs * 256 + b.toNat) = b := by
      apply BitVec.eq_of_toNat_eq
      rw [BitVec.toNat_ofNat]
      omega
    rw [h1, h2, ih]

/-- A field's size on the line. -/
theorem Field.bytes_length (f : Field) :
    f.bytes.length = match f with
      | .num w _ => w
      | .opt w _ => w + 1 := by
  cases f with
  | num w n => simp [Field.bytes]
  | opt w n => cases n <;> simp [Field.bytes]

theorem fieldBytes_append (xs ys : List Field) : fieldBytes (xs ++ ys) = fieldBytes xs ++ fieldBytes ys := by
  simp [fieldBytes]

/-- A frame occupies n + 6 bytes on the line (section 10.1). -/
theorem frameBytes_length (kind : Byte) (body : Body) : (frameBytes kind body).length = body.length + 6 := by
  simp [frameBytes, frameCore]
  omega

/-- A channel byte is read as the channel it names. -/
theorem channelOf_val (c : ChannelNo) : channelOf (BitVec.ofNat 8 c.val) = some c := by revert c; decide

theorem slotOf_val (i : SlotNo) : slotOf (BitVec.ofNat 8 i.val) = some i := by revert i; decide

theorem areaOf_val (a : AreaNo) : areaOf (BitVec.ofNat 8 a.val) = some a := by revert a; decide

theorem watchOf_val (w : WatchNo) : watchOf (BitVec.ofNat 8 w.val) = some w := by revert w; decide

theorem handleOf_val (h : Handle) : handleOf (BitVec.ofNat 8 h.val) = h := by
  apply Fin.ext
  have := h.isLt
  simp [handleOf]

end Sys2Proof.Machine
end

