-- ==== Sys2Proof/Laws/State.lean ====
section
/-! SUPPORT. What each update of the state leaves in each field, and what each access finds after an update. -/

namespace Sys2Proof.Machine

variable (s : State)

/-! ### setChan -/

@[simp] theorem State.setChan_clock (c : ChannelNo) (x : Channel) : (s.setChan c x).clock = s.clock := rfl
@[simp] theorem State.setChan_store (c : ChannelNo) (x : Channel) : (s.setChan c x).store = s.store := rfl
@[simp] theorem State.setChan_loadUnit (c : ChannelNo) (x : Channel) : (s.setChan c x).loadUnit = s.loadUnit := rfl
@[simp] theorem State.setChan_descs (c : ChannelNo) (x : Channel) : (s.setChan c x).descs = s.descs := rfl
@[simp] theorem State.setChan_slots (c : ChannelNo) (x : Channel) : (s.setChan c x).slots = s.slots := rfl
@[simp] theorem State.setChan_channels (c : ChannelNo) (x : Channel) :
    (s.setChan c x).channels = vput s.channels c x := rfl
@[simp] theorem State.setChan_watches (c : ChannelNo) (x : Channel) : (s.setChan c x).watches = s.watches := rfl
@[simp] theorem State.setChan_link (c : ChannelNo) (x : Channel) : (s.setChan c x).link = s.link := rfl
@[simp] theorem State.setChan_outbox (c : ChannelNo) (x : Channel) : (s.setChan c x).outbox = s.outbox := rfl
@[simp] theorem State.setChan_choices (c : ChannelNo) (x : Channel) : (s.setChan c x).choices = s.choices := rfl
@[simp] theorem State.setChan_pending (c : ChannelNo) (x : Channel) : (s.setChan c x).pending = s.pending := rfl

/-! ### modChan -/

@[simp] theorem State.modChan_clock (c : ChannelNo) (f : Channel → Channel) : (s.modChan c f).clock = s.clock := rfl
@[simp] theorem State.modChan_store (c : ChannelNo) (f : Channel → Channel) : (s.modChan c f).store = s.store := rfl
@[simp] theorem State.modChan_loadUnit (c : ChannelNo) (f : Channel → Channel) :
    (s.modChan c f).loadUnit = s.loadUnit := rfl
@[simp] theorem State.modChan_descs (c : ChannelNo) (f : Channel → Channel) : (s.modChan c f).descs = s.descs := rfl
@[simp] theorem State.modChan_slots (c : ChannelNo) (f : Channel → Channel) : (s.modChan c f).slots = s.slots := rfl
@[simp] theorem State.modChan_channels (c : ChannelNo) (f : Channel → Channel) :
    (s.modChan c f).channels = vput s.channels c (f (s.chan c)) := rfl
@[simp] theorem State.modChan_watches (c : ChannelNo) (f : Channel → Channel) :
    (s.modChan c f).watches = s.watches := rfl
@[simp] theorem State.modChan_link (c : ChannelNo) (f : Channel → Channel) : (s.modChan c f).link = s.link := rfl
@[simp] theorem State.modChan_outbox (c : ChannelNo) (f : Channel → Channel) :
    (s.modChan c f).outbox = s.outbox := rfl
@[simp] theorem State.modChan_choices (c : ChannelNo) (f : Channel → Channel) :
    (s.modChan c f).choices = s.choices := rfl
@[simp] theorem State.modChan_pending (c : ChannelNo) (f : Channel → Channel) :
    (s.modChan c f).pending = s.pending := rfl

/-! ### setDesc -/

@[simp] theorem State.setDesc_clock (h : Handle) (d : Descriptor) : (s.setDesc h d).clock = s.clock := rfl
@[simp] theorem State.setDesc_store (h : Handle) (d : Descriptor) : (s.setDesc h d).store = s.store := rfl
@[simp] theorem State.setDesc_loadUnit (h : Handle) (d : Descriptor) : (s.setDesc h d).loadUnit = s.loadUnit := rfl
@[simp] theorem State.setDesc_descs (h : Handle) (d : Descriptor) : (s.setDesc h d).descs = vput s.descs h d := rfl
@[simp] theorem State.setDesc_slots (h : Handle) (d : Descriptor) : (s.setDesc h d).slots = s.slots := rfl
@[simp] theorem State.setDesc_channels (h : Handle) (d : Descriptor) : (s.setDesc h d).channels = s.channels := rfl
@[simp] theorem State.setDesc_watches (h : Handle) (d : Descriptor) : (s.setDesc h d).watches = s.watches := rfl
@[simp] theorem State.setDesc_link (h : Handle) (d : Descriptor) : (s.setDesc h d).link = s.link := rfl
@[simp] theorem State.setDesc_outbox (h : Handle) (d : Descriptor) : (s.setDesc h d).outbox = s.outbox := rfl
@[simp] theorem State.setDesc_choices (h : Handle) (d : Descriptor) : (s.setDesc h d).choices = s.choices := rfl
@[simp] theorem State.setDesc_pending (h : Handle) (d : Descriptor) : (s.setDesc h d).pending = s.pending := rfl

/-! ### modDesc -/

@[simp] theorem State.modDesc_clock (h : Handle) (f : Descriptor → Descriptor) :
    (s.modDesc h f).clock = s.clock := rfl
@[simp] theorem State.modDesc_store (h : Handle) (f : Descriptor → Descriptor) :
    (s.modDesc h f).store = s.store := rfl
@[simp] theorem State.modDesc_loadUnit (h : Handle) (f : Descriptor → Descriptor) :
    (s.modDesc h f).loadUnit = s.loadUnit := rfl
@[simp] theorem State.modDesc_descs (h : Handle) (f : Descriptor → Descriptor) :
    (s.modDesc h f).descs = vput s.descs h (f (s.desc h)) := rfl
@[simp] theorem State.modDesc_slots (h : Handle) (f : Descriptor → Descriptor) :
    (s.modDesc h f).slots = s.slots := rfl
@[simp] theorem State.modDesc_channels (h : Handle) (f : Descriptor → Descriptor) :
    (s.modDesc h f).channels = s.channels := rfl
@[simp] theorem State.modDesc_watches (h : Handle) (f : Descriptor → Descriptor) :
    (s.modDesc h f).watches = s.watches := rfl
@[simp] theorem State.modDesc_link (h : Handle) (f : Descriptor → Descriptor) : (s.modDesc h f).link = s.link := rfl
@[simp] theorem State.modDesc_outbox (h : Handle) (f : Descriptor → Descriptor) :
    (s.modDesc h f).outbox = s.outbox := rfl
@[simp] theorem State.modDesc_choices (h : Handle) (f : Descriptor → Descriptor) :
    (s.modDesc h f).choices = s.choices := rfl
@[simp] theorem State.modDesc_pending (h : Handle) (f : Descriptor → Descriptor) :
    (s.modDesc h f).pending = s.pending := rfl

/-! ### setSlot -/

@[simp] theorem State.setSlot_clock (i : SlotNo) (e : Slot) : (s.setSlot i e).clock = s.clock := rfl
@[simp] theorem State.setSlot_store (i : SlotNo) (e : Slot) : (s.setSlot i e).store = s.store := rfl
@[simp] theorem State.setSlot_loadUnit (i : SlotNo) (e : Slot) : (s.setSlot i e).loadUnit = s.loadUnit := rfl
@[simp] theorem State.setSlot_descs (i : SlotNo) (e : Slot) : (s.setSlot i e).descs = s.descs := rfl
@[simp] theorem State.setSlot_slots (i : SlotNo) (e : Slot) : (s.setSlot i e).slots = vput s.slots i e := rfl
@[simp] theorem State.setSlot_channels (i : SlotNo) (e : Slot) : (s.setSlot i e).channels = s.channels := rfl
@[simp] theorem State.setSlot_watches (i : SlotNo) (e : Slot) : (s.setSlot i e).watches = s.watches := rfl
@[simp] theorem State.setSlot_link (i : SlotNo) (e : Slot) : (s.setSlot i e).link = s.link := rfl
@[simp] theorem State.setSlot_outbox (i : SlotNo) (e : Slot) : (s.setSlot i e).outbox = s.outbox := rfl
@[simp] theorem State.setSlot_choices (i : SlotNo) (e : Slot) : (s.setSlot i e).choices = s.choices := rfl
@[simp] theorem State.setSlot_pending (i : SlotNo) (e : Slot) : (s.setSlot i e).pending = s.pending := rfl

/-! ### setArea -/

@[simp] theorem State.setArea_clock (a : AreaNo) (x : Area) : (s.setArea a x).clock = s.clock := rfl
@[simp] theorem State.setArea_store (a : AreaNo) (x : Area) :
    (s.setArea a x).store = { s.store with areas := vput s.store.areas a x } := rfl
@[simp] theorem State.setArea_loadUnit (a : AreaNo) (x : Area) : (s.setArea a x).loadUnit = s.loadUnit := rfl
@[simp] theorem State.setArea_descs (a : AreaNo) (x : Area) : (s.setArea a x).descs = s.descs := rfl
@[simp] theorem State.setArea_slots (a : AreaNo) (x : Area) : (s.setArea a x).slots = s.slots := rfl
@[simp] theorem State.setArea_channels (a : AreaNo) (x : Area) : (s.setArea a x).channels = s.channels := rfl
@[simp] theorem State.setArea_watches (a : AreaNo) (x : Area) : (s.setArea a x).watches = s.watches := rfl
@[simp] theorem State.setArea_link (a : AreaNo) (x : Area) : (s.setArea a x).link = s.link := rfl
@[simp] theorem State.setArea_outbox (a : AreaNo) (x : Area) : (s.setArea a x).outbox = s.outbox := rfl
@[simp] theorem State.setArea_choices (a : AreaNo) (x : Area) : (s.setArea a x).choices = s.choices := rfl
@[simp] theorem State.setArea_pending (a : AreaNo) (x : Area) : (s.setArea a x).pending = s.pending := rfl

/-! ### setWatch -/

@[simp] theorem State.setWatch_clock (w : WatchNo) (p : Option Pattern) : (s.setWatch w p).clock = s.clock := rfl
@[simp] theorem State.setWatch_store (w : WatchNo) (p : Option Pattern) : (s.setWatch w p).store = s.store := rfl
@[simp] theorem State.setWatch_loadUnit (w : WatchNo) (p : Option Pattern) :
    (s.setWatch w p).loadUnit = s.loadUnit := rfl
@[simp] theorem State.setWatch_descs (w : WatchNo) (p : Option Pattern) : (s.setWatch w p).descs = s.descs := rfl
@[simp] theorem State.setWatch_slots (w : WatchNo) (p : Option Pattern) : (s.setWatch w p).slots = s.slots := rfl
@[simp] theorem State.setWatch_channels (w : WatchNo) (p : Option Pattern) :
    (s.setWatch w p).channels = s.channels := rfl
@[simp] theorem State.setWatch_watches (w : WatchNo) (p : Option Pattern) :
    (s.setWatch w p).watches = vput s.watches w p := rfl
@[simp] theorem State.setWatch_link (w : WatchNo) (p : Option Pattern) : (s.setWatch w p).link = s.link := rfl
@[simp] theorem State.setWatch_outbox (w : WatchNo) (p : Option Pattern) : (s.setWatch w p).outbox = s.outbox := rfl
@[simp] theorem State.setWatch_choices (w : WatchNo) (p : Option Pattern) :
    (s.setWatch w p).choices = s.choices := rfl
@[simp] theorem State.setWatch_pending (w : WatchNo) (p : Option Pattern) :
    (s.setWatch w p).pending = s.pending := rfl

/-! ### setLoad -/

@[simp] theorem State.setLoad_clock (l : Option OpenLoad) : (s.setLoad l).clock = s.clock := rfl
@[simp] theorem State.setLoad_store (l : Option OpenLoad) : (s.setLoad l).store = s.store := rfl
@[simp] theorem State.setLoad_loadUnit (l : Option OpenLoad) :
    (s.setLoad l).loadUnit = { s.loadUnit with current := l } := rfl
@[simp] theorem State.setLoad_descs (l : Option OpenLoad) : (s.setLoad l).descs = s.descs := rfl
@[simp] theorem State.setLoad_slots (l : Option OpenLoad) : (s.setLoad l).slots = s.slots := rfl
@[simp] theorem State.setLoad_channels (l : Option OpenLoad) : (s.setLoad l).channels = s.channels := rfl
@[simp] theorem State.setLoad_watches (l : Option OpenLoad) : (s.setLoad l).watches = s.watches := rfl
@[simp] theorem State.setLoad_link (l : Option OpenLoad) : (s.setLoad l).link = s.link := rfl
@[simp] theorem State.setLoad_outbox (l : Option OpenLoad) : (s.setLoad l).outbox = s.outbox := rfl
@[simp] theorem State.setLoad_choices (l : Option OpenLoad) : (s.setLoad l).choices = s.choices := rfl
@[simp] theorem State.setLoad_pending (l : Option OpenLoad) : (s.setLoad l).pending = s.pending := rfl

/-! ### emit -/

@[simp] theorem State.emit_clock (e : Event) (ch : Option ChannelNo) (fs : List Field) :
    (s.emit e ch fs).clock = s.clock := rfl
@[simp] theorem State.emit_store (e : Event) (ch : Option ChannelNo) (fs : List Field) :
    (s.emit e ch fs).store = s.store := rfl
@[simp] theorem State.emit_loadUnit (e : Event) (ch : Option ChannelNo) (fs : List Field) :
    (s.emit e ch fs).loadUnit = s.loadUnit := rfl
@[simp] theorem State.emit_descs (e : Event) (ch : Option ChannelNo) (fs : List Field) :
    (s.emit e ch fs).descs = s.descs := rfl
@[simp] theorem State.emit_slots (e : Event) (ch : Option ChannelNo) (fs : List Field) :
    (s.emit e ch fs).slots = s.slots := rfl
@[simp] theorem State.emit_channels (e : Event) (ch : Option ChannelNo) (fs : List Field) :
    (s.emit e ch fs).channels = s.channels := rfl
@[simp] theorem State.emit_watches (e : Event) (ch : Option ChannelNo) (fs : List Field) :
    (s.emit e ch fs).watches = s.watches := rfl
@[simp] theorem State.emit_link (e : Event) (ch : Option ChannelNo) (fs : List Field) :
    (s.emit e ch fs).link = s.link := rfl
@[simp] theorem State.emit_outbox (e : Event) (ch : Option ChannelNo) (fs : List Field) :
    (s.emit e ch fs).outbox = s.outbox ++ [⟨e, ch, s.clock.ms, fs⟩] := rfl
@[simp] theorem State.emit_choices (e : Event) (ch : Option ChannelNo) (fs : List Field) :
    (s.emit e ch fs).choices = s.choices := rfl
@[simp] theorem State.emit_pending (e : Event) (ch : Option ChannelNo) (fs : List Field) :
    (s.emit e ch fs).pending = s.pending := rfl

/-! ### drawn -/

@[simp] theorem State.drawn_clock : (s.drawn).clock = s.clock := rfl
@[simp] theorem State.drawn_store : (s.drawn).store = s.store := rfl
@[simp] theorem State.drawn_loadUnit : (s.drawn).loadUnit = s.loadUnit := rfl
@[simp] theorem State.drawn_descs : (s.drawn).descs = s.descs := rfl
@[simp] theorem State.drawn_slots : (s.drawn).slots = s.slots := rfl
@[simp] theorem State.drawn_channels : (s.drawn).channels = s.channels := rfl
@[simp] theorem State.drawn_watches : (s.drawn).watches = s.watches := rfl
@[simp] theorem State.drawn_link : (s.drawn).link = s.link := rfl
@[simp] theorem State.drawn_outbox : (s.drawn).outbox = s.outbox := rfl
@[simp] theorem State.drawn_choices : (s.drawn).choices = s.choices + 1 := rfl
@[simp] theorem State.drawn_pending : (s.drawn).pending = s.pending := rfl

/-! ### returnBlocks -/

@[simp] theorem State.returnBlocks_clock (bs : List BlockNo) : (s.returnBlocks bs).clock = s.clock := rfl
@[simp] theorem State.returnBlocks_store (bs : List BlockNo) :
    (s.returnBlocks bs).store = { s.store with free := s.store.free ++ bs } := rfl
@[simp] theorem State.returnBlocks_loadUnit (bs : List BlockNo) : (s.returnBlocks bs).loadUnit = s.loadUnit := rfl
@[simp] theorem State.returnBlocks_descs (bs : List BlockNo) : (s.returnBlocks bs).descs = s.descs := rfl
@[simp] theorem State.returnBlocks_slots (bs : List BlockNo) : (s.returnBlocks bs).slots = s.slots := rfl
@[simp] theorem State.returnBlocks_channels (bs : List BlockNo) : (s.returnBlocks bs).channels = s.channels := rfl
@[simp] theorem State.returnBlocks_watches (bs : List BlockNo) : (s.returnBlocks bs).watches = s.watches := rfl
@[simp] theorem State.returnBlocks_link (bs : List BlockNo) : (s.returnBlocks bs).link = s.link := rfl
@[simp] theorem State.returnBlocks_outbox (bs : List BlockNo) : (s.returnBlocks bs).outbox = s.outbox := rfl
@[simp] theorem State.returnBlocks_choices (bs : List BlockNo) : (s.returnBlocks bs).choices = s.choices := rfl
@[simp] theorem State.returnBlocks_pending (bs : List BlockNo) : (s.returnBlocks bs).pending = s.pending := rfl

/-! ### modLink -/

@[simp] theorem State.modLink_clock (f : Link → Link) : (s.modLink f).clock = s.clock := rfl
@[simp] theorem State.modLink_store (f : Link → Link) : (s.modLink f).store = s.store := rfl
@[simp] theorem State.modLink_loadUnit (f : Link → Link) : (s.modLink f).loadUnit = s.loadUnit := rfl
@[simp] theorem State.modLink_descs (f : Link → Link) : (s.modLink f).descs = s.descs := rfl
@[simp] theorem State.modLink_slots (f : Link → Link) : (s.modLink f).slots = s.slots := rfl
@[simp] theorem State.modLink_channels (f : Link → Link) : (s.modLink f).channels = s.channels := rfl
@[simp] theorem State.modLink_watches (f : Link → Link) : (s.modLink f).watches = s.watches := rfl
@[simp] theorem State.modLink_link (f : Link → Link) : (s.modLink f).link = f s.link := rfl
@[simp] theorem State.modLink_outbox (f : Link → Link) : (s.modLink f).outbox = s.outbox := rfl
@[simp] theorem State.modLink_choices (f : Link → Link) : (s.modLink f).choices = s.choices := rfl
@[simp] theorem State.modLink_pending (f : Link → Link) : (s.modLink f).pending = s.pending := rfl

/-! ### withPending -/

@[simp] theorem State.withPending_clock (cs : List Instr) : (s.withPending cs).clock = s.clock := rfl
@[simp] theorem State.withPending_store (cs : List Instr) : (s.withPending cs).store = s.store := rfl
@[simp] theorem State.withPending_loadUnit (cs : List Instr) : (s.withPending cs).loadUnit = s.loadUnit := rfl
@[simp] theorem State.withPending_descs (cs : List Instr) : (s.withPending cs).descs = s.descs := rfl
@[simp] theorem State.withPending_slots (cs : List Instr) : (s.withPending cs).slots = s.slots := rfl
@[simp] theorem State.withPending_channels (cs : List Instr) : (s.withPending cs).channels = s.channels := rfl
@[simp] theorem State.withPending_watches (cs : List Instr) : (s.withPending cs).watches = s.watches := rfl
@[simp] theorem State.withPending_link (cs : List Instr) : (s.withPending cs).link = s.link := rfl
@[simp] theorem State.withPending_outbox (cs : List Instr) : (s.withPending cs).outbox = s.outbox := rfl
@[simp] theorem State.withPending_choices (cs : List Instr) : (s.withPending cs).choices = s.choices := rfl
@[simp] theorem State.withPending_pending (cs : List Instr) : (s.withPending cs).pending = cs := rfl

/-! ### accepted -/

@[simp] theorem State.accepted_clock (k : Byte) (fs : List Field) : (s.accepted k fs).clock = s.clock := rfl
@[simp] theorem State.accepted_store (k : Byte) (fs : List Field) : (s.accepted k fs).store = s.store := rfl
@[simp] theorem State.accepted_loadUnit (k : Byte) (fs : List Field) : (s.accepted k fs).loadUnit = s.loadUnit := rfl
@[simp] theorem State.accepted_descs (k : Byte) (fs : List Field) : (s.accepted k fs).descs = s.descs := rfl
@[simp] theorem State.accepted_slots (k : Byte) (fs : List Field) : (s.accepted k fs).slots = s.slots := rfl
@[simp] theorem State.accepted_channels (k : Byte) (fs : List Field) : (s.accepted k fs).channels = s.channels := rfl
@[simp] theorem State.accepted_watches (k : Byte) (fs : List Field) : (s.accepted k fs).watches = s.watches := rfl
@[simp] theorem State.accepted_link (k : Byte) (fs : List Field) :
    (s.accepted k fs).link = s.link.place (.reply k (.accept fs)) := rfl
@[simp] theorem State.accepted_outbox (k : Byte) (fs : List Field) : (s.accepted k fs).outbox = s.outbox := rfl
@[simp] theorem State.accepted_choices (k : Byte) (fs : List Field) : (s.accepted k fs).choices = s.choices := rfl
@[simp] theorem State.accepted_pending (k : Byte) (fs : List Field) : (s.accepted k fs).pending = s.pending := rfl

/-! ### refused -/

@[simp] theorem State.refused_clock (k : Byte) (r : Reason) : (s.refused k r).clock = s.clock := rfl
@[simp] theorem State.refused_store (k : Byte) (r : Reason) : (s.refused k r).store = s.store := rfl
@[simp] theorem State.refused_loadUnit (k : Byte) (r : Reason) : (s.refused k r).loadUnit = s.loadUnit := rfl
@[simp] theorem State.refused_descs (k : Byte) (r : Reason) : (s.refused k r).descs = s.descs := rfl
@[simp] theorem State.refused_slots (k : Byte) (r : Reason) : (s.refused k r).slots = s.slots := rfl
@[simp] theorem State.refused_channels (k : Byte) (r : Reason) : (s.refused k r).channels = s.channels := rfl
@[simp] theorem State.refused_watches (k : Byte) (r : Reason) : (s.refused k r).watches = s.watches := rfl
@[simp] theorem State.refused_link (k : Byte) (r : Reason) :
    (s.refused k r).link = s.link.place (.reply k (.refuse r)) := rfl
@[simp] theorem State.refused_outbox (k : Byte) (r : Reason) : (s.refused k r).outbox = s.outbox := rfl
@[simp] theorem State.refused_choices (k : Byte) (r : Reason) : (s.refused k r).choices = s.choices := rfl
@[simp] theorem State.refused_pending (k : Byte) (r : Reason) : (s.refused k r).pending = s.pending := rfl

/-! ### Access after an update -/

@[simp] theorem vget_vput {α : Type} {n : Nat} (v : Vector α n) (i j : Fin n) (x : α) :
    vget (vput v i x) j = if j = i then x else vget v j := by
  by_cases h : j = i
  · subst h; simp [vget, vput]
  · have h' : i.val ≠ j.val := fun e => h (Fin.ext e.symm)
    simp [vget, vput, h, h']

@[simp] theorem vput_vput {α : Type} {n : Nat} (v : Vector α n) (i : Fin n) (x y : α) :
    vput (vput v i x) i y = vput v i y := by
  simp [vput]

@[simp] theorem vput_vget {α : Type} {n : Nat} (v : Vector α n) (i : Fin n) : vput v i (vget v i) = v := by
  simp [vput, vget]

/-- The later of two changes of one place stands. -/
@[simp] theorem State.setChan_setChan (c : ChannelNo) (x y : Channel) : (s.setChan c x).setChan c y = s.setChan c y := by
  simp [State.setChan]

@[simp] theorem State.setDesc_setDesc (h : Handle) (d e : Descriptor) : (s.setDesc h d).setDesc h e = s.setDesc h e := by
  simp [State.setDesc]

@[simp] theorem State.setSlot_setSlot (i : SlotNo) (d e : Slot) : (s.setSlot i d).setSlot i e = s.setSlot i e := by
  simp [State.setSlot]

/-- Writing back what stands changes nothing. -/
@[simp] theorem State.setChan_chan (c : ChannelNo) : s.setChan c (s.chan c) = s := by
  simp [State.setChan, State.chan]

@[simp] theorem State.setDesc_desc (h : Handle) : s.setDesc h (s.desc h) = s := by
  simp [State.setDesc, State.desc]

@[simp] theorem State.chan_setChan (c d : ChannelNo) (x : Channel) :
    (s.setChan c x).chan d = if d = c then x else s.chan d := vget_vput ..

@[simp] theorem State.chan_modChan (c d : ChannelNo) (f : Channel → Channel) :
    (s.modChan c f).chan d = if d = c then f (s.chan c) else s.chan d := vget_vput ..

@[simp] theorem State.desc_setDesc (h g : Handle) (d : Descriptor) :
    (s.setDesc h d).desc g = if g = h then d else s.desc g := vget_vput ..

@[simp] theorem State.desc_modDesc (h g : Handle) (f : Descriptor → Descriptor) :
    (s.modDesc h f).desc g = if g = h then f (s.desc h) else s.desc g := vget_vput ..

@[simp] theorem State.slot_setSlot (i j : SlotNo) (e : Slot) :
    (s.setSlot i e).slot j = if j = i then e else s.slot j := vget_vput ..

@[simp] theorem State.area_setArea (a b : AreaNo) (x : Area) :
    (s.setArea a x).area b = if b = a then x else s.area b := vget_vput ..

@[simp] theorem State.watch_setWatch (w v : WatchNo) (p : Option Pattern) :
    (s.setWatch w p).watch v = if v = w then p else s.watch v := vget_vput ..

@[simp] theorem State.desc_setChan (c : ChannelNo) (x : Channel) (x' : Handle) :
    (s.setChan c x).desc x' = s.desc x' := rfl
@[simp] theorem State.slot_setChan (c : ChannelNo) (x : Channel) (x' : SlotNo) :
    (s.setChan c x).slot x' = s.slot x' := rfl
@[simp] theorem State.area_setChan (c : ChannelNo) (x : Channel) (x' : AreaNo) :
    (s.setChan c x).area x' = s.area x' := rfl
@[simp] theorem State.watch_setChan (c : ChannelNo) (x : Channel) (x' : WatchNo) :
    (s.setChan c x).watch x' = s.watch x' := rfl
@[simp] theorem State.desc_modChan (c : ChannelNo) (f : Channel → Channel) (x' : Handle) :
    (s.modChan c f).desc x' = s.desc x' := rfl
@[simp] theorem State.slot_modChan (c : ChannelNo) (f : Channel → Channel) (x' : SlotNo) :
    (s.modChan c f).slot x' = s.slot x' := rfl
@[simp] theorem State.area_modChan (c : ChannelNo) (f : Channel → Channel) (x' : AreaNo) :
    (s.modChan c f).area x' = s.area x' := rfl
@[simp] theorem State.watch_modChan (c : ChannelNo) (f : Channel → Channel) (x' : WatchNo) :
    (s.modChan c f).watch x' = s.watch x' := rfl
@[simp] theorem State.chan_setDesc (h : Handle) (d : Descriptor) (x' : ChannelNo) :
    (s.setDesc h d).chan x' = s.chan x' := rfl
@[simp] theorem State.slot_setDesc (h : Handle) (d : Descriptor) (x' : SlotNo) :
    (s.setDesc h d).slot x' = s.slot x' := rfl
@[simp] theorem State.area_setDesc (h : Handle) (d : Descriptor) (x' : AreaNo) :
    (s.setDesc h d).area x' = s.area x' := rfl
@[simp] theorem State.watch_setDesc (h : Handle) (d : Descriptor) (x' : WatchNo) :
    (s.setDesc h d).watch x' = s.watch x' := rfl
@[simp] theorem State.chan_modDesc (h : Handle) (f : Descriptor → Descriptor) (x' : ChannelNo) :
    (s.modDesc h f).chan x' = s.chan x' := rfl
@[simp] theorem State.slot_modDesc (h : Handle) (f : Descriptor → Descriptor) (x' : SlotNo) :
    (s.modDesc h f).slot x' = s.slot x' := rfl
@[simp] theorem State.area_modDesc (h : Handle) (f : Descriptor → Descriptor) (x' : AreaNo) :
    (s.modDesc h f).area x' = s.area x' := rfl
@[simp] theorem State.watch_modDesc (h : Handle) (f : Descriptor → Descriptor) (x' : WatchNo) :
    (s.modDesc h f).watch x' = s.watch x' := rfl
@[simp] theorem State.chan_setSlot (i : SlotNo) (e : Slot) (x' : ChannelNo) :
    (s.setSlot i e).chan x' = s.chan x' := rfl
@[simp] theorem State.desc_setSlot (i : SlotNo) (e : Slot) (x' : Handle) : (s.setSlot i e).desc x' = s.desc x' := rfl
@[simp] theorem State.area_setSlot (i : SlotNo) (e : Slot) (x' : AreaNo) : (s.setSlot i e).area x' = s.area x' := rfl
@[simp] theorem State.watch_setSlot (i : SlotNo) (e : Slot) (x' : WatchNo) :
    (s.setSlot i e).watch x' = s.watch x' := rfl
@[simp] theorem State.chan_setArea (a : AreaNo) (x : Area) (x' : ChannelNo) :
    (s.setArea a x).chan x' = s.chan x' := rfl
@[simp] theorem State.desc_setArea (a : AreaNo) (x : Area) (x' : Handle) : (s.setArea a x).desc x' = s.desc x' := rfl
@[simp] theorem State.slot_setArea (a : AreaNo) (x : Area) (x' : SlotNo) : (s.setArea a x).slot x' = s.slot x' := rfl
@[simp] theorem State.watch_setArea (a : AreaNo) (x : Area) (x' : WatchNo) :
    (s.setArea a x).watch x' = s.watch x' := rfl
@[simp] theorem State.chan_setWatch (w : WatchNo) (p : Option Pattern) (x' : ChannelNo) :
    (s.setWatch w p).chan x' = s.chan x' := rfl
@[simp] theorem State.desc_setWatch (w : WatchNo) (p : Option Pattern) (x' : Handle) :
    (s.setWatch w p).desc x' = s.desc x' := rfl
@[simp] theorem State.slot_setWatch (w : WatchNo) (p : Option Pattern) (x' : SlotNo) :
    (s.setWatch w p).slot x' = s.slot x' := rfl
@[simp] theorem State.area_setWatch (w : WatchNo) (p : Option Pattern) (x' : AreaNo) :
    (s.setWatch w p).area x' = s.area x' := rfl
@[simp] theorem State.chan_setLoad (l : Option OpenLoad) (x' : ChannelNo) : (s.setLoad l).chan x' = s.chan x' := rfl
@[simp] theorem State.desc_setLoad (l : Option OpenLoad) (x' : Handle) : (s.setLoad l).desc x' = s.desc x' := rfl
@[simp] theorem State.slot_setLoad (l : Option OpenLoad) (x' : SlotNo) : (s.setLoad l).slot x' = s.slot x' := rfl
@[simp] theorem State.area_setLoad (l : Option OpenLoad) (x' : AreaNo) : (s.setLoad l).area x' = s.area x' := rfl
@[simp] theorem State.watch_setLoad (l : Option OpenLoad) (x' : WatchNo) : (s.setLoad l).watch x' = s.watch x' := rfl
@[simp] theorem State.chan_emit (e : Event) (ch : Option ChannelNo) (fs : List Field) (x' : ChannelNo) :
    (s.emit e ch fs).chan x' = s.chan x' := rfl
@[simp] theorem State.desc_emit (e : Event) (ch : Option ChannelNo) (fs : List Field) (x' : Handle) :
    (s.emit e ch fs).desc x' = s.desc x' := rfl
@[simp] theorem State.slot_emit (e : Event) (ch : Option ChannelNo) (fs : List Field) (x' : SlotNo) :
    (s.emit e ch fs).slot x' = s.slot x' := rfl
@[simp] theorem State.area_emit (e : Event) (ch : Option ChannelNo) (fs : List Field) (x' : AreaNo) :
    (s.emit e ch fs).area x' = s.area x' := rfl
@[simp] theorem State.watch_emit (e : Event) (ch : Option ChannelNo) (fs : List Field) (x' : WatchNo) :
    (s.emit e ch fs).watch x' = s.watch x' := rfl
@[simp] theorem State.chan_drawn (x' : ChannelNo) : (s.drawn).chan x' = s.chan x' := rfl
@[simp] theorem State.desc_drawn (x' : Handle) : (s.drawn).desc x' = s.desc x' := rfl
@[simp] theorem State.slot_drawn (x' : SlotNo) : (s.drawn).slot x' = s.slot x' := rfl
@[simp] theorem State.area_drawn (x' : AreaNo) : (s.drawn).area x' = s.area x' := rfl
@[simp] theorem State.watch_drawn (x' : WatchNo) : (s.drawn).watch x' = s.watch x' := rfl
@[simp] theorem State.chan_returnBlocks (bs : List BlockNo) (x' : ChannelNo) :
    (s.returnBlocks bs).chan x' = s.chan x' := rfl
@[simp] theorem State.desc_returnBlocks (bs : List BlockNo) (x' : Handle) :
    (s.returnBlocks bs).desc x' = s.desc x' := rfl
@[simp] theorem State.slot_returnBlocks (bs : List BlockNo) (x' : SlotNo) :
    (s.returnBlocks bs).slot x' = s.slot x' := rfl
@[simp] theorem State.area_returnBlocks (bs : List BlockNo) (x' : AreaNo) :
    (s.returnBlocks bs).area x' = s.area x' := rfl
@[simp] theorem State.watch_returnBlocks (bs : List BlockNo) (x' : WatchNo) :
    (s.returnBlocks bs).watch x' = s.watch x' := rfl
@[simp] theorem State.chan_modLink (f : Link → Link) (x' : ChannelNo) : (s.modLink f).chan x' = s.chan x' := rfl
@[simp] theorem State.desc_modLink (f : Link → Link) (x' : Handle) : (s.modLink f).desc x' = s.desc x' := rfl
@[simp] theorem State.slot_modLink (f : Link → Link) (x' : SlotNo) : (s.modLink f).slot x' = s.slot x' := rfl
@[simp] theorem State.area_modLink (f : Link → Link) (x' : AreaNo) : (s.modLink f).area x' = s.area x' := rfl
@[simp] theorem State.watch_modLink (f : Link → Link) (x' : WatchNo) : (s.modLink f).watch x' = s.watch x' := rfl
@[simp] theorem State.chan_withPending (cs : List Instr) (x' : ChannelNo) :
    (s.withPending cs).chan x' = s.chan x' := rfl
@[simp] theorem State.desc_withPending (cs : List Instr) (x' : Handle) : (s.withPending cs).desc x' = s.desc x' := rfl
@[simp] theorem State.slot_withPending (cs : List Instr) (x' : SlotNo) : (s.withPending cs).slot x' = s.slot x' := rfl
@[simp] theorem State.area_withPending (cs : List Instr) (x' : AreaNo) : (s.withPending cs).area x' = s.area x' := rfl
@[simp] theorem State.watch_withPending (cs : List Instr) (x' : WatchNo) :
    (s.withPending cs).watch x' = s.watch x' := rfl
@[simp] theorem State.chan_accepted (k : Byte) (fs : List Field) (x' : ChannelNo) :
    (s.accepted k fs).chan x' = s.chan x' := rfl
@[simp] theorem State.desc_accepted (k : Byte) (fs : List Field) (x' : Handle) :
    (s.accepted k fs).desc x' = s.desc x' := rfl
@[simp] theorem State.slot_accepted (k : Byte) (fs : List Field) (x' : SlotNo) :
    (s.accepted k fs).slot x' = s.slot x' := rfl
@[simp] theorem State.area_accepted (k : Byte) (fs : List Field) (x' : AreaNo) :
    (s.accepted k fs).area x' = s.area x' := rfl
@[simp] theorem State.watch_accepted (k : Byte) (fs : List Field) (x' : WatchNo) :
    (s.accepted k fs).watch x' = s.watch x' := rfl
@[simp] theorem State.chan_refused (k : Byte) (r : Reason) (x' : ChannelNo) :
    (s.refused k r).chan x' = s.chan x' := rfl
@[simp] theorem State.desc_refused (k : Byte) (r : Reason) (x' : Handle) : (s.refused k r).desc x' = s.desc x' := rfl
@[simp] theorem State.slot_refused (k : Byte) (r : Reason) (x' : SlotNo) : (s.refused k r).slot x' = s.slot x' := rfl
@[simp] theorem State.area_refused (k : Byte) (r : Reason) (x' : AreaNo) : (s.refused k r).area x' = s.area x' := rfl
@[simp] theorem State.watch_refused (k : Byte) (r : Reason) (x' : WatchNo) :
    (s.refused k r).watch x' = s.watch x' := rfl

end Sys2Proof.Machine
end

