-- ==== Sys2Proof/Laws/Link.lean ====
section
/-! SUPPORT. The Office Link: what a placed record, an offered notice and a taken command add to the records formed. -/

namespace Sys2Proof.Machine

/-! ### The transmitter -/

/-- Beginning a record forms none and loses none. -/
@[simp] theorem Link.formed_kick (k : Link) : k.kick.formed = k.formed := by
  unfold Link.kick Link.formed
  split <;> simp_all

/-- A placed record stands after all records formed before. -/
@[simp] theorem Link.formed_place (k : Link) (r : Record) : (k.place r).formed = k.formed ++ [r] := by
  rw [Link.place, Link.formed_kick]
  simp [Link.formed]

@[simp] theorem Link.restarting_kick (k : Link) : k.kick.restarting = k.restarting := by
  unfold Link.kick; split <;> rfl

@[simp] theorem Link.buffer_kick (k : Link) : k.kick.buffer = k.buffer := by unfold Link.kick; split <;> rfl

@[simp] theorem Link.restarting_place (k : Link) (r : Record) : (k.place r).restarting = k.restarting := by
  simp [Link.place]

@[simp] theorem Link.buffer_place (k : Link) (r : Record) : (k.place r).buffer = k.buffer := by simp [Link.place]

/-- A record placed on a busy transmitter joins the output list. -/
theorem Link.place_busy {k : Link} (h : k.sending ≠ none) (r : Record) :
    k.place r = { k with output := k.output ++ [r] } := by
  unfold Link.place Link.kick
  split <;> simp_all

/-- A record placed on a free transmitter with nothing to send begins at once (R175). -/
theorem Link.place_free {k : Link} (h : k.sending = none) (ho : k.output = []) (r : Record) :
    k.place r = { k with sending := some r } := by
  obtain ⟨_, _, out, sending⟩ := k
  cases sending <;> simp_all [Link.place, Link.kick]

/-! ### Offered notices -/

/-- All that offering a notice can do (R177, R178, R181): nothing, a loss, the notice, the report of a loss and the
notice, or the report of a loss and a loss. -/
theorem Link.offer_cases (k : Link) (now : Nat) (n : Notice) :
    ((k.restarting = true ∨ k.passes n = false) ∧ k.offer now n = k)
      ∨ (k.restarting = false ∧ k.passes n = true ∧
        ((64 ≤ k.queued ∧ k.offer now n = k.lose)
          ∨ (k.queued < 64 ∧ k.pendingLoss = 0 ∧ k.offer now n = k.place (.notice n))
          ∨ (k.queued < 63 ∧ k.pendingLoss ≠ 0 ∧ k.offer now n = (k.reportLoss now).place (.notice n))
          ∨ (k.queued = 63 ∧ k.pendingLoss ≠ 0 ∧ k.offer now n = (k.reportLoss now).lose))) := by
  have h64 : Config.noticePlaces = 64 := rfl
  unfold Link.offer
  split
  · rename_i h
    refine .inl ⟨?_, rfl⟩
    simpa using h
  · rename_i h
    refine .inr ⟨by simp_all, by simp_all, ?_⟩
    by_cases h1 : Config.noticePlaces ≤ k.queued
    · exact .inl ⟨h1, if_pos h1⟩
    · rw [if_neg h1]
      by_cases h2 : k.pendingLoss = 0
      · exact .inr (.inl ⟨by omega, h2, if_pos h2⟩)
      · rw [if_neg h2]
        by_cases h3 : k.queued + 1 < Config.noticePlaces
        · exact .inr (.inr (.inl ⟨by omega, h2, if_pos h3⟩))
        · exact .inr (.inr (.inr ⟨by omega, h2, if_neg h3⟩))

@[simp] theorem Link.formed_lose (k : Link) : k.lose.formed = k.formed := rfl

@[simp] theorem Link.formed_reportLoss (k : Link) (now : Nat) :
    (k.reportLoss now).formed = k.formed ++ [.notice ⟨.noticesLost, none, now, [.num 2 k.pendingLoss]⟩] := by
  unfold Link.reportLoss
  rw [Link.formed_place]
  rfl

/-- An offered notice adds notices alone to the records formed, behind them. -/
theorem Link.formed_offer (k : Link) (now : Nat) (n : Notice) :
    ∃ ns : List Notice, (k.offer now n).formed = k.formed ++ ns.map .notice := by
  rcases k.offer_cases now n with ⟨-, h⟩ | ⟨-, -, ⟨-, h⟩ | ⟨-, -, h⟩ | ⟨-, -, h⟩ | ⟨-, -, h⟩⟩ <;> rw [h]
  · exact ⟨[], by simp⟩
  · exact ⟨[], by simp⟩
  · exact ⟨[n], by simp⟩
  · exact ⟨[⟨.noticesLost, none, now, [.num 2 k.pendingLoss]⟩, n], by simp⟩
  · exact ⟨[⟨.noticesLost, none, now, [.num 2 k.pendingLoss]⟩], by simp⟩

@[simp] theorem Link.restarting_offer (k : Link) (now : Nat) (n : Notice) :
    (k.offer now n).restarting = k.restarting := by
  rcases k.offer_cases now n with ⟨-, h⟩ | ⟨-, -, ⟨-, h⟩ | ⟨-, -, h⟩ | ⟨-, -, h⟩ | ⟨-, -, h⟩⟩ <;>
    simp [h, Link.lose, Link.reportLoss]

@[simp] theorem Link.buffer_offer (k : Link) (now : Nat) (n : Notice) : (k.offer now n).buffer = k.buffer := by
  rcases k.offer_cases now n with ⟨-, h⟩ | ⟨-, -, ⟨-, h⟩ | ⟨-, -, h⟩ | ⟨-, -, h⟩ | ⟨-, -, h⟩⟩ <;>
    simp [h, Link.lose, Link.reportLoss]

/-- Offering some notices in turn adds notices alone. -/
theorem Link.formed_offers (now : Nat) (ns : List Notice) (k : Link) :
    ∃ ms : List Notice, (ns.foldl (fun k n => k.offer now n) k).formed = k.formed ++ ms.map .notice := by
  induction ns generalizing k with
  | nil => exact ⟨[], by simp⟩
  | cons n ns ih =>
    obtain ⟨a, ha⟩ := k.formed_offer now n
    obtain ⟨b, hb⟩ := ih (k.offer now n)
    exact ⟨a ++ b, by simp [hb, ha]⟩

/-! ### The end of a step -/

/-- With no notice formed, the end of the step offers none. -/
theorem State.flush_eq {s : State} (h : s.outbox = []) : s.flush = s := by
  cases s
  simp_all [State.flush]

/-- The end of a step changes the Office Link and the outbox alone. -/
theorem State.flush_frame (s : State) : s.flush = { s with link := s.flush.link, outbox := [] } := rfl

@[simp] theorem State.outbox_flush (s : State) : s.flush.outbox = [] := rfl

theorem State.formed_flush (s : State) : ∃ ns : List Notice, s.flush.link.formed = s.link.formed ++ ns.map .notice :=
  Link.formed_offers s.clock.ms s.outbox s.link

/-! ### Taking a command -/

/-- All that receiving a frame can do (R173, R181). -/
theorem State.receive_cases (s : State) (k : Byte) (b : Body) (f : State → State) :
    (s.link.restarting = true ∧ s.receive k b f = s)
      ∨ (s.link.restarting = false ∧ s.link.buffer = [] ∧ s.link.replyWaits = false ∧ s.receive k b f = f s)
      ∨ (s.link.restarting = false ∧ (s.link.buffer ≠ [] ∨ s.link.replyWaits = true)
        ∧ s.receive k b f = s.modLink (·.bufferFrame ⟨k, b⟩)) := by
  unfold State.receive Link.mayTake
  cases hr : s.link.restarting with
  | true => exact .inl ⟨rfl, if_pos rfl⟩
  | false =>
    cases hb : s.link.buffer with
    | nil =>
      cases hw : s.link.replyWaits with
      | true => exact .inr (.inr ⟨rfl, .inr rfl, by simp⟩)
      | false => exact .inr (.inl ⟨rfl, rfl, rfl, by simp⟩)
    | cons x xs => exact .inr (.inr ⟨rfl, .inl (by simp), by simp⟩)

/-- A command that is taken at once. -/
theorem State.receive_now {s : State} (h : s.takesAtOnce) (k : Byte) (b : Body) (f : State → State) :
    s.receive k b f = f s := by
  obtain ⟨h1, h2, h3, -⟩ := h
  rcases s.receive_cases k b f with ⟨hr, -⟩ | ⟨-, -, -, h⟩ | ⟨-, h | h, -⟩
  · simp [hr] at h1
  · exact h
  · exact absurd h2 h
  · simp [h] at h3

/-- A refused command changes nothing but its reply (R174). -/
theorem commandStep_refused {s : State} (h : s.takesAtOnce) {kind : Byte} {act : Body → State → Judged} {body : Body}
    {r : Reason} (hj : act body s = .error r) : commandStep s kind act body = .next (s.refused kind r) := by
  simp [commandStep, s.receive_now h, hj, State.take, State.modLink, State.refused]

/-- An accepted command: its action, its reply, then the notices of the action (R173). -/
theorem commandStep_accepted {s t : State} (h : s.takesAtOnce) {kind : Byte} {act : Body → State → Judged}
    {body : Body} {fs : List Field} (hj : act body s = .ok (t, fs)) :
    commandStep s kind act body = .next (t.accepted kind fs).flush := by
  simp [commandStep, s.receive_now h, hj, State.take, State.modLink, State.accepted]

/-- An accepted command that forms no notice. -/
theorem commandStep_silent {s t : State} (h : s.takesAtOnce) {kind : Byte} {act : Body → State → Judged} {body : Body}
    {fs : List Field} (hj : act body s = .ok (t, fs)) (ho : t.outbox = []) :
    commandStep s kind act body = .next (t.accepted kind fs) := by
  rw [commandStep_accepted h hj, State.flush_eq (by simpa using ho)]

end Sys2Proof.Machine
end

