-- ==== Sys2Proof/Laws/Memory.lean ====
section
/-! SUPPORT. The cells of the text store: reading after writing, and the canonical form. -/

namespace Sys2Proof.Machine

/-- Every listed address lies above `a`. -/
def Memory.above (a : Nat) (m : Memory) : Prop := ∀ e ∈ m, a < e.1

/-- The canonical form, entry by entry. -/
theorem Memory.wf_cons (b : Nat) (w : Byte) (m : Memory) :
    Memory.wf ((b, w) :: m) = true ↔ w ≠ Memory.unwritten ∧ Memory.above b m ∧ Memory.wf m = true := by
  induction m generalizing b w with
  | nil => simp [Memory.wf, Memory.above]
  | cons e m ih =>
    obtain ⟨c, x⟩ := e
    have h : Memory.wf ((b, w) :: (c, x) :: m) = true ↔
        w ≠ Memory.unwritten ∧ b < c ∧ Memory.wf ((c, x) :: m) = true := by
      simp [Memory.wf, and_assoc]
    rw [h]
    constructor
    · rintro ⟨h1, h2, h3⟩
      refine ⟨h1, fun e he => ?_, h3⟩
      rcases List.mem_cons.mp he with rfl | he
      · exact h2
      · exact Nat.lt_trans h2 (((ih c x).mp h3).2.1 e he)
    · rintro ⟨h1, h2, h3⟩
      exact ⟨h1, h2 (c, x) (List.mem_cons_self ..), h3⟩

/-- An address below every listed one reads as a cell that nothing has written. -/
theorem Memory.read_above {a : Nat} {m : Memory} (h : Memory.above a m) : m.read a = Memory.unwritten := by
  induction m with
  | nil => rfl
  | cons e m ih =>
    obtain ⟨b, w⟩ := e
    have hb : a ≠ b := Nat.ne_of_lt (h (b, w) (List.mem_cons_self ..))
    simpa [Memory.read, hb] using ih fun e he => h e (List.mem_cons_of_mem _ he)

/-- A cell holds the code last written to it, and a write leaves every other cell alone. -/
theorem Memory.read_write {m : Memory} (h : m.wf = true) (a b : Nat) (v : Byte) :
    (m.write a v).read b = if b = a then v else m.read b := by
  induction m with
  | nil =>
    by_cases hv : v = Memory.unwritten <;> by_cases hb : b = a <;>
      simp [Memory.write, Memory.cons, Memory.read, hv, hb]
  | cons e m ih =>
    obtain ⟨c, w⟩ := e
    obtain ⟨-, hab, hm⟩ := (Memory.wf_cons c w m).mp h
    rcases Nat.lt_trichotomy a c with hac | rfl | hac
    · have ha : (Memory.read ((c, w) :: m) a) = Memory.unwritten :=
        Memory.read_above fun e he => by
          rcases List.mem_cons.mp he with rfl | he
          · exact hac
          · exact Nat.lt_trans hac (hab e he)
      by_cases hv : v = Memory.unwritten <;> by_cases hb : b = a
      · subst hb; simp [Memory.write, Memory.cons, hac, hv, ha]
      · simp [Memory.write, Memory.cons, hac, hv, hb]
      · subst hb; simp [Memory.write, Memory.cons, hac, hv, Memory.read]
      · simp [Memory.write, Memory.cons, hac, hv, Memory.read, hb]
    · have ha := Memory.read_above hab
      by_cases hv : v = Memory.unwritten <;> by_cases hb : b = a
      · subst hb; simp [Memory.write, Memory.cons, hv, ha]
      · simp [Memory.write, Memory.cons, hv, Memory.read, hb]
      · subst hb; simp [Memory.write, Memory.cons, hv, Memory.read]
      · simp [Memory.write, Memory.cons, hv, Memory.read, hb]
    · have h1 : ¬ a < c := Nat.lt_asymm hac
      have h2 : a ≠ c := Nat.ne_of_gt hac
      by_cases hb : b = c
      · subst hb; simp [Memory.write, h1, h2, Memory.read, h2.symm]
      · simp [Memory.write, h1, h2, Memory.read, hb, ih hm]

/-- What a write lists was listed before, or is the address written. -/
theorem Memory.mem_write {m : Memory} {a : Nat} {v : Byte} {e : Nat × Byte} (he : e ∈ m.write a v) :
    e ∈ m ∨ e = (a, v) := by
  induction m with
  | nil =>
    by_cases hv : v = Memory.unwritten <;> simp_all [Memory.write, Memory.cons]
  | cons x m ih =>
    obtain ⟨c, w⟩ := x
    unfold Memory.write at he
    split at he
    · by_cases hv : v = Memory.unwritten <;> simp_all [Memory.cons]
      tauto
    · split at he
      · by_cases hv : v = Memory.unwritten <;> simp_all [Memory.cons]
        tauto
      · rcases List.mem_cons.mp he with rfl | he
        · exact .inl (List.mem_cons_self ..)
        · rcases ih he with h | h
          · exact .inl (List.mem_cons_of_mem _ h)
          · exact .inr h

/-- A write keeps the canonical form. -/
theorem Memory.wf_write {m : Memory} (h : m.wf = true) (a : Nat) (v : Byte) : (m.write a v).wf = true := by
  induction m with
  | nil => by_cases hv : v = Memory.unwritten <;> simp [Memory.write, Memory.cons, hv, Memory.wf]
  | cons x m ih =>
    obtain ⟨c, w⟩ := x
    obtain ⟨hw, hab, hm⟩ := (Memory.wf_cons c w m).mp h
    unfold Memory.write
    split
    · rename_i hac
      by_cases hv : v = Memory.unwritten
      · simpa [Memory.cons, hv] using h
      · rw [Memory.cons, if_neg hv, Memory.wf_cons]
        refine ⟨hv, fun e he => ?_, h⟩
        rcases List.mem_cons.mp he with rfl | he
        · exact hac
        · exact Nat.lt_trans hac (hab e he)
    · split
      · rename_i hac
        subst hac
        by_cases hv : v = Memory.unwritten
        · simpa [Memory.cons, hv] using hm
        · rw [Memory.cons, if_neg hv, Memory.wf_cons]
          exact ⟨hv, hab, hm⟩
      · rename_i h1 h2
        rw [Memory.wf_cons]
        refine ⟨hw, fun e he => ?_, ih hm⟩
        rcases Memory.mem_write he with he | rfl
        · exact hab e he
        · exact Nat.lt_of_le_of_ne (Nat.le_of_not_lt h1) fun e => h2 e.symm

/-- Two memories in canonical form that read alike everywhere are equal. -/
theorem Memory.ext_read {m n : Memory} (hm : m.wf = true) (hn : n.wf = true) (h : ∀ a, m.read a = n.read a) :
    m = n := by
  induction m generalizing n with
  | nil =>
    cases n with
    | nil => rfl
    | cons y n =>
      obtain ⟨b, w⟩ := y
      exact absurd (by simpa [Memory.read] using (h b).symm) ((Memory.wf_cons b w n).mp hn).1
  | cons x m ih =>
    obtain ⟨a, v⟩ := x
    obtain ⟨hv, hma, hm'⟩ := (Memory.wf_cons a v m).mp hm
    cases n with
    | nil => exact absurd (by simpa [Memory.read] using h a) hv
    | cons y n =>
      obtain ⟨b, w⟩ := y
      obtain ⟨hw, hnb, hn'⟩ := (Memory.wf_cons b w n).mp hn
      rcases Nat.lt_trichotomy a b with hab | rfl | hab
      · have hr : Memory.read ((b, w) :: n) a = Memory.unwritten :=
          Memory.read_above fun e he => by
            rcases List.mem_cons.mp he with rfl | he
            · exact hab
            · exact Nat.lt_trans hab (hnb e he)
        exact absurd (by simpa [Memory.read] using (h a).trans hr) hv
      · have hvw : v = w := by simpa [Memory.read] using h a
        subst hvw
        congr 1
        refine ih hm' hn' fun c => ?_
        by_cases hc : c = a
        · subst hc; rw [Memory.read_above hma, Memory.read_above hnb]
        · simpa [Memory.read, hc] using h c
      · have hr : Memory.read ((a, v) :: m) b = Memory.unwritten :=
          Memory.read_above fun e he => by
            rcases List.mem_cons.mp he with rfl | he
            · exact hab
            · exact Nat.lt_trans hab (hma e he)
        exact absurd (by simpa [Memory.read] using (h b).symm.trans hr) hw

end Sys2Proof.Machine
end

