-- ==== Sys2Proof/Laws/Ops.lean ====
section
/-! SUPPORT. What the shared operations over lists, times, blocks and texts can do, said once for each. -/

namespace Sys2Proof.Machine

/-! ### Free orders -/

theorem insertBy_perm {α : Type} (key : α → Nat) (x : α) (xs : List α) : (insertBy key x xs).Perm (x :: xs) := by
  induction xs with
  | nil => exact .refl _
  | cons y ys ih =>
    unfold insertBy
    split
    · exact .refl _
    · exact (ih.cons y).trans (.swap x y ys)

theorem sortBy_perm {α : Type} (key : α → Nat) (xs : List α) : (sortBy key xs).Perm xs := by
  induction xs with
  | nil => exact .refl _
  | cons x xs ih => exact (insertBy_perm key x _).trans (ih.cons x)

/-- A free order takes each of its numbers once. -/
theorem freeOrder_perm {n : Nat} (draw : Nat) (xs : List (Fin n)) : (freeOrder draw xs).Perm xs := sortBy_perm _ xs

@[simp] theorem mem_freeOrder {n : Nat} {draw : Nat} {xs : List (Fin n)} {x : Fin n} : x ∈ freeOrder draw xs ↔ x ∈ xs :=
  (freeOrder_perm draw xs).mem_iff

/-! ### Occurrence times -/

/-- The earliest occurrence is not before the time asked for (R84). -/
theorem Slot.le_earliest {e : Slot} (h : 0 < e.period) (x : Nat) : x ≤ e.earliest x := by
  unfold Slot.earliest Slot.periodMs
  simp only
  split
  · assumption
  · have hq : 0 < e.period * 60000 := by omega
    have h1 := Nat.div_add_mod (x - e.anchor % (e.period * 60000) + e.period * 60000 - 1) (e.period * 60000)
    have h2 := Nat.mod_lt (x - e.anchor % (e.period * 60000) + e.period * 60000 - 1) hq
    unfold ceilDiv
    rw [Nat.mul_comm] at h1
    omega

/-! ### Pending lists -/

@[simp] theorem insertRequest_length (q : Request) (qs : List Request) :
    (insertRequest q qs).length = qs.length + 1 := by
  induction qs with
  | nil => rfl
  | cons p ps ih => unfold insertRequest; split <;> simp [ih]

theorem insertRequest_perm (q : Request) (qs : List Request) : (insertRequest q qs).Perm (q :: qs) := by
  induction qs with
  | nil => exact .refl _
  | cons p ps ih =>
    unfold insertRequest
    split
    · exact .refl _
    · exact (ih.cons p).trans (.swap q p ps)

/-- Two requests of different occurrences stand in one order or the other (R91). -/
theorem Request.before_total {p q : Request} (h : ¬(p.slot = q.slot ∧ p.due = q.due)) (hn : p.before q = false) :
    q.before p = true := by
  simp only [Request.before, Bool.or_eq_false_iff, Bool.and_eq_false_iff, decide_eq_false_iff_not, Bool.or_eq_true,
    Bool.and_eq_true, decide_eq_true_eq] at *
  have : p.due = q.due → p.slot.val ≠ q.slot.val := fun hd hs => h ⟨Fin.ext hs, hd⟩
  omega

theorem Request.before_trans {p q r : Request} (h : p.before q = true) (g : q.before r = true) : p.before r = true := by
  simp only [Request.before, Bool.or_eq_true, Bool.and_eq_true, decide_eq_true_eq] at *
  omega

/-! ### The text store -/

@[simp] theorem poolBlocks_val (n : Nat) : (poolBlocks n).map Fin.val = List.range' n (1024 - n) := by
  rw [poolBlocks, List.map_drop, List.map_coe_finRange_eq_range, List.range_eq_range', List.drop_range']
  simp

@[simp] theorem poolBlocks_length (n : Nat) : (poolBlocks n).length = 1024 - n := by simp [poolBlocks]

/-- A descriptor whose chain stays empty leaves every channel's use (R37). -/
theorem State.use_setDesc {s : State} {h : Handle} {d : Descriptor} (c : ChannelNo) (hs : (s.desc h).chain = [])
    (hd : d.chain = []) : (s.setDesc h d).use c = s.use c := by
  unfold State.use
  simp only [State.setDesc_descs]
  congr 1
  apply List.ext_getElem
  · simp [vput]
  · intro i h1 h2
    simp only [List.getElem_map, Vector.getElem_toList, vput, Vector.getElem_set]
    split
    · rename_i e
      subst e
      simp only [State.desc, vget] at hs
      simp [hd, hs]
    · rfl

/-- Cleaning and storing keeps the one form of the cells (R16). -/
theorem storeText_wf (address : Nat → Nat) (bs : List Byte) {m : Memory} (n : Nat) (h : m.wf = true) :
    (storeText address m n bs).1.wf = true := by
  induction bs generalizing m n with
  | nil => exact h
  | cons b bs ih =>
    unfold storeText
    split
    · exact ih _ (Memory.wf_write h _ _)
    · exact ih _ h

/-- The stored length rises by the symbols that are not removed (R16). -/
theorem storeText_length (address : Nat → Nat) (bs : List Byte) (m : Memory) (n : Nat) :
    (storeText address m n bs).2 = n + bs.countP fun b => (cleaned b.toNat).isSome := by
  induction bs generalizing m n with
  | nil => rfl
  | cons b bs ih =>
    unfold storeText
    cases h : cleaned b.toNat <;> simp [ih, h]
    omega

/-- The cells after reset have the one form. -/
theorem reset_memoryOk : State.reset.memoryOk := rfl

/-! ### Key-up causes -/

/-- A channel that is not STANDBY, or that has no cause, is left as it is (R138). -/
theorem State.judgeKeyUp_none {s : State} {c : ChannelNo} (h : (s.chan c).state ≠ .standby ∨ s.keyUpCause c = false) :
    s.judgeKeyUp [c] = s := by
  unfold State.judgeKeyUp judgeBound
  rw [State.judgeWithin, if_neg (by rcases h with h | h <;> simp [h]), State.judgeWithin]

/-- A STANDBY channel with a cause, and ready absent, goes to KEY-UP and stays there (R138, R139). -/
theorem State.judgeKeyUp_absent {s : State} {c : ChannelNo} (h : (s.chan c).state = .standby)
    (hc : s.keyUpCause c = true) (hr : (s.chan c).ready = false) :
    s.judgeKeyUp [c] = s.setChan c { s.chan c with state := .keyUp, keyRise := s.clock.elapsed } := by
  unfold State.judgeKeyUp judgeBound
  rw [State.judgeWithin, if_pos ⟨h, hc⟩]
  simp [hr, State.keyUp, State.judgeWithin, State.modChan]

end Sys2Proof.Machine
end

