-- ==== Sys2Proof/Laws/PerInstr.lean ====
section
/-! SUPPORT. The family of laws that is proved row by row of the command table. -/

namespace Sys2Proof.Laws.FrameForm

/-- The frame that a row of the table is (section 10.3): its kind and its body; none for an event that is no frame. -/
def frame : Instr → Option (Byte × Body)
  | .powerOnReset | .officeLinkByte _ | .gapTimeout | .frameTransmitEnd => none
  | .ping b => some (0x01, b)
  | .restart b => some (0x02, b)
  | .readLink b => some (0x03, b)
  | .setNotices b => some (0x04, b)
  | .setClock b => some (0x05, b)
  | .readClock b => some (0x06, b)
  | .setSplit b => some (0x07, b)
  | .defineArea b => some (0x08, b)
  | .clearArea b => some (0x09, b)
  | .setAllowance b => some (0x0A, b)
  | .readStore b => some (0x0B, b)
  | .setLoadGrain b => some (0x0C, b)
  | .declareMessage b => some (0x0D, b)
  | .openBulletin b => some (0x0E, b)
  | .text b => some (0x0F, b)
  | .abandonLoad b => some (0x10, b)
  | .readMessage b => some (0x11, b)
  | .listQueue b => some (0x12, b)
  | .cancel b => some (0x13, b)
  | .discard b => some (0x14, b)
  | .requeue b => some (0x15, b)
  | .setSlot b => some (0x16, b)
  | .enableSlot b => some (0x17, b)
  | .disableSlot b => some (0x18, b)
  | .clearSlot b => some (0x19, b)
  | .readSlot b => some (0x1A, b)
  | .readPending b => some (0x1B, b)
  | .readInterleaver b => some (0x1C, b)
  | .openChannel b => some (0x1D, b)
  | .setChannel b => some (0x1E, b)
  | .readChannel b => some (0x1F, b)
  | .restore b => some (0x20, b)
  | .closeChannel b => some (0x21, b)
  | .resetChannel b => some (0x22, b)
  | .readStats b => some (0x23, b)
  | .clearStats b => some (0x24, b)
  | .setWatch b => some (0x25, b)
  | .clearWatch b => some (0x26, b)
  | .readWatch b => some (0x27, b)
  | .releaseCapture b => some (0x28, b)
  | .readCapture b => some (0x29, b)
  | .clearHold b => some (0x2A, b)
  | .readReceive b => some (0x2B, b)
  | .midnightRollover => none
  | .clockStopped => none
  | .slotOccurrence _ => none
  | .requestDeadlineUnkeyed _ _ _ => none
  | .messageExpiry _ => none
  | .ackTimerRunsOut _ => none
  | .holdExpiry _ _ => none
  | .keyUpLimit _ => none
  | .slotKeyUpThreshold _ => none
  | .transmitterReadyArrives _ => none
  | .transmitterReadyDrops _ => none
  | .lineSymbolCompletes _ => none
  | .receivedSymbol _ _ _ => none
  | .badForm k b => some (k, b)

/-- What is claimed of one row: its frame, if it has one, spells this row and no other, and a well-formed row's body fits a
frame. -/
def Statement (i : Instr) : Prop :=
  ∀ f ∈ frame i, i.wellFormed = true → Machine.commandOf f.1 f.2 = i ∧ f.2.length ≤ 512

/-- An event that is no frame has nothing to show. -/
theorem of_event (i : Instr) (h : frame i = none) : Statement i := by
  intro f hf; rw [h] at hf; exact absurd hf (by simp)

/-- A row that is the frame of a kind and a body, and is well formed only with a body that fits. -/
theorem of_command (i : Instr) (k : Byte) (b : Body) (h : frame i = some (k, b)) (hc : Machine.commandOf k b = i)
    (hw : i.wellFormed = bodyFits b) : Statement i := by
  intro f hf hi
  rw [h] at hf
  cases hf
  exact ⟨hc, of_decide_eq_true (hw ▸ hi : bodyFits b = true)⟩

/-- A kind that no command has spells BAD_FORM. -/
theorem commandOf_bad (k : Byte) (b : Body) (h : isCommandKind k = false) : Machine.commandOf k b = .badForm k b := by
  have h' : ¬(1 ≤ k.toNat ∧ k.toNat ≤ 0x2B) := by simpa [isCommandKind] using h
  unfold Machine.commandOf
  split <;> first | rfl | (exfalso; omega)

theorem powerOnReset : Statement (.powerOnReset) := of_event _ rfl
theorem officeLinkByte (b : Byte) : Statement (.officeLinkByte b) := of_event _ rfl
theorem gapTimeout : Statement (.gapTimeout) := of_event _ rfl
theorem frameTransmitEnd : Statement (.frameTransmitEnd) := of_event _ rfl
theorem ping (b : Body) : Statement (.ping b) := of_command _ 0x01 b rfl rfl rfl
theorem restart (b : Body) : Statement (.restart b) := of_command _ 0x02 b rfl rfl rfl
theorem readLink (b : Body) : Statement (.readLink b) := of_command _ 0x03 b rfl rfl rfl
theorem setNotices (b : Body) : Statement (.setNotices b) := of_command _ 0x04 b rfl rfl rfl
theorem setClock (b : Body) : Statement (.setClock b) := of_command _ 0x05 b rfl rfl rfl
theorem readClock (b : Body) : Statement (.readClock b) := of_command _ 0x06 b rfl rfl rfl
theorem setSplit (b : Body) : Statement (.setSplit b) := of_command _ 0x07 b rfl rfl rfl
theorem defineArea (b : Body) : Statement (.defineArea b) := of_command _ 0x08 b rfl rfl rfl
theorem clearArea (b : Body) : Statement (.clearArea b) := of_command _ 0x09 b rfl rfl rfl
theorem setAllowance (b : Body) : Statement (.setAllowance b) := of_command _ 0x0A b rfl rfl rfl
theorem readStore (b : Body) : Statement (.readStore b) := of_command _ 0x0B b rfl rfl rfl
theorem setLoadGrain (b : Body) : Statement (.setLoadGrain b) := of_command _ 0x0C b rfl rfl rfl
theorem declareMessage (b : Body) : Statement (.declareMessage b) := of_command _ 0x0D b rfl rfl rfl
theorem openBulletin (b : Body) : Statement (.openBulletin b) := of_command _ 0x0E b rfl rfl rfl
theorem text (b : Body) : Statement (.text b) := of_command _ 0x0F b rfl rfl rfl
theorem abandonLoad (b : Body) : Statement (.abandonLoad b) := of_command _ 0x10 b rfl rfl rfl
theorem readMessage (b : Body) : Statement (.readMessage b) := of_command _ 0x11 b rfl rfl rfl
theorem listQueue (b : Body) : Statement (.listQueue b) := of_command _ 0x12 b rfl rfl rfl
theorem cancel (b : Body) : Statement (.cancel b) := of_command _ 0x13 b rfl rfl rfl
theorem discard (b : Body) : Statement (.discard b) := of_command _ 0x14 b rfl rfl rfl
theorem requeue (b : Body) : Statement (.requeue b) := of_command _ 0x15 b rfl rfl rfl
theorem setSlot (b : Body) : Statement (.setSlot b) := of_command _ 0x16 b rfl rfl rfl
theorem enableSlot (b : Body) : Statement (.enableSlot b) := of_command _ 0x17 b rfl rfl rfl
theorem disableSlot (b : Body) : Statement (.disableSlot b) := of_command _ 0x18 b rfl rfl rfl
theorem clearSlot (b : Body) : Statement (.clearSlot b) := of_command _ 0x19 b rfl rfl rfl
theorem readSlot (b : Body) : Statement (.readSlot b) := of_command _ 0x1A b rfl rfl rfl
theorem readPending (b : Body) : Statement (.readPending b) := of_command _ 0x1B b rfl rfl rfl
theorem readInterleaver (b : Body) : Statement (.readInterleaver b) := of_command _ 0x1C b rfl rfl rfl
theorem openChannel (b : Body) : Statement (.openChannel b) := of_command _ 0x1D b rfl rfl rfl
theorem setChannel (b : Body) : Statement (.setChannel b) := of_command _ 0x1E b rfl rfl rfl
theorem readChannel (b : Body) : Statement (.readChannel b) := of_command _ 0x1F b rfl rfl rfl
theorem restore (b : Body) : Statement (.restore b) := of_command _ 0x20 b rfl rfl rfl
theorem closeChannel (b : Body) : Statement (.closeChannel b) := of_command _ 0x21 b rfl rfl rfl
theorem resetChannel (b : Body) : Statement (.resetChannel b) := of_command _ 0x22 b rfl rfl rfl
theorem readStats (b : Body) : Statement (.readStats b) := of_command _ 0x23 b rfl rfl rfl
theorem clearStats (b : Body) : Statement (.clearStats b) := of_command _ 0x24 b rfl rfl rfl
theorem setWatch (b : Body) : Statement (.setWatch b) := of_command _ 0x25 b rfl rfl rfl
theorem clearWatch (b : Body) : Statement (.clearWatch b) := of_command _ 0x26 b rfl rfl rfl
theorem readWatch (b : Body) : Statement (.readWatch b) := of_command _ 0x27 b rfl rfl rfl
theorem releaseCapture (b : Body) : Statement (.releaseCapture b) := of_command _ 0x28 b rfl rfl rfl
theorem readCapture (b : Body) : Statement (.readCapture b) := of_command _ 0x29 b rfl rfl rfl
theorem clearHold (b : Body) : Statement (.clearHold b) := of_command _ 0x2A b rfl rfl rfl
theorem readReceive (b : Body) : Statement (.readReceive b) := of_command _ 0x2B b rfl rfl rfl
theorem midnightRollover : Statement (.midnightRollover) := of_event _ rfl
theorem clockStopped : Statement (.clockStopped) := of_event _ rfl
theorem slotOccurrence (slot : SlotNo) : Statement (.slotOccurrence slot) := of_event _ rfl
theorem requestDeadlineUnkeyed (channel : ChannelNo) (slot : SlotNo) (due : Nat) : Statement (.requestDeadlineUnkeyed channel slot due) := of_event _ rfl
theorem messageExpiry (handle : Handle) : Statement (.messageExpiry handle) := of_event _ rfl
theorem ackTimerRunsOut (handle : Handle) : Statement (.ackTimerRunsOut handle) := of_event _ rfl
theorem holdExpiry (channel : ChannelNo) (ship : Nat) : Statement (.holdExpiry channel ship) := of_event _ rfl
theorem keyUpLimit (channel : ChannelNo) : Statement (.keyUpLimit channel) := of_event _ rfl
theorem slotKeyUpThreshold (channel : ChannelNo) : Statement (.slotKeyUpThreshold channel) := of_event _ rfl
theorem transmitterReadyArrives (channel : ChannelNo) : Statement (.transmitterReadyArrives channel) := of_event _ rfl
theorem transmitterReadyDrops (channel : ChannelNo) : Statement (.transmitterReadyDrops channel) := of_event _ rfl
theorem lineSymbolCompletes (channel : ChannelNo) : Statement (.lineSymbolCompletes channel) := of_event _ rfl
theorem receivedSymbol (channel : ChannelNo) (code : Nat) (mutilated : Bool) : Statement (.receivedSymbol channel code mutilated) := of_event _ rfl
theorem badForm (kind : Byte) (body : Body) : Statement (.badForm kind body) := by
  intro f hf hi
  cases hf
  have hi : (!isCommandKind kind && bodyFits body) = true := hi
  simp only [Bool.and_eq_true, Bool.not_eq_true'] at hi
  exact ⟨commandOf_bad kind body hi.1, of_decide_eq_true hi.2⟩

end Sys2Proof.Laws.FrameForm
end

