-- ==== Sys2Proof/Laws/Quiet.lean ====
section
/-! SUPPORT. What the traffic of the channels leaves alone: the station clock, the cells and the split of the store, the
Office Link, the pattern watches, the load grain, the waiting commands, and every channel's settings, allowance and ready
input. One lemma for each operation of the Message Table, the Schedule, the Interleaver, the Keyer and the Receive
Watch. -/

namespace Sys2Proof.Machine

/-- `t` differs from `s` in traffic alone. -/
structure State.Quiet (s t : State) : Prop where
  clock : t.clock = s.clock
  cells : t.store.cells = s.store.cells
  split : t.store.split = s.store.split
  link : t.link = s.link
  watches : t.watches = s.watches
  grain : t.loadUnit.grain = s.loadUnit.grain
  pending : t.pending = s.pending
  settings : ∀ c, (t.chan c).settings = (s.chan c).settings
  reserve : ∀ c, (t.chan c).reserve = (s.chan c).reserve
  cap : ∀ c, (t.chan c).cap = (s.chan c).cap
  ready : ∀ c, (t.chan c).ready = (s.chan c).ready

theorem State.Quiet.refl (s : State) : s.Quiet s :=
  ⟨rfl, rfl, rfl, rfl, rfl, rfl, rfl, fun _ => rfl, fun _ => rfl, fun _ => rfl, fun _ => rfl⟩

theorem State.Quiet.trans {s t u : State} (h : s.Quiet t) (g : t.Quiet u) : s.Quiet u :=
  ⟨g.clock.trans h.clock, g.cells.trans h.cells, g.split.trans h.split, g.link.trans h.link,
    g.watches.trans h.watches, g.grain.trans h.grain, g.pending.trans h.pending,
    fun c => (g.settings c).trans (h.settings c), fun c => (g.reserve c).trans (h.reserve c),
    fun c => (g.cap c).trans (h.cap c), fun c => (g.ready c).trans (h.ready c)⟩

/-- Doing something quiet after something quiet. -/
theorem State.Quiet.then {s t : State} (h : s.Quiet t) {f : State → State} (g : ∀ u, State.Quiet u (f u)) :
    s.Quiet (f t) := h.trans (g t)

theorem State.Quiet.ite {s t u : State} {p : Prop} [Decidable p] (h : p → s.Quiet t) (g : ¬ p → s.Quiet u) :
    s.Quiet (if p then t else u) := by
  split
  · exact h ‹_›
  · exact g ‹_›

theorem State.Quiet.foldl {α : Type} {f : State → α → State} (h : ∀ s x, State.Quiet s (f s x)) (xs : List α)
    (s : State) : s.Quiet (xs.foldl f s) := by
  induction xs generalizing s with
  | nil => exact .refl s
  | cons x xs ih => exact (h s x).trans (ih (f s x))

/-- A change of a channel that leaves its settings, allowance and ready input alone. -/
theorem State.modChan_quiet (s : State) (c : ChannelNo) {f : Channel → Channel}
    (h : ∀ ch, (f ch).settings = ch.settings ∧ (f ch).reserve = ch.reserve ∧ (f ch).cap = ch.cap
      ∧ (f ch).ready = ch.ready) : s.Quiet (s.modChan c f) := by
  refine ⟨rfl, rfl, rfl, rfl, rfl, rfl, rfl, fun d => ?_, fun d => ?_, fun d => ?_, fun d => ?_⟩ <;>
    rw [State.chan_modChan] <;> split <;> simp_all

theorem State.modDesc_quiet (s : State) (h : Handle) (f : Descriptor → Descriptor) : s.Quiet (s.modDesc h f) :=
  ⟨rfl, rfl, rfl, rfl, rfl, rfl, rfl, fun _ => rfl, fun _ => rfl, fun _ => rfl, fun _ => rfl⟩

theorem State.setDesc_quiet (s : State) (h : Handle) (d : Descriptor) : s.Quiet (s.setDesc h d) :=
  ⟨rfl, rfl, rfl, rfl, rfl, rfl, rfl, fun _ => rfl, fun _ => rfl, fun _ => rfl, fun _ => rfl⟩

theorem State.setSlot_quiet (s : State) (i : SlotNo) (e : Slot) : s.Quiet (s.setSlot i e) :=
  ⟨rfl, rfl, rfl, rfl, rfl, rfl, rfl, fun _ => rfl, fun _ => rfl, fun _ => rfl, fun _ => rfl⟩

theorem State.setArea_quiet (s : State) (a : AreaNo) (x : Area) : s.Quiet (s.setArea a x) :=
  ⟨rfl, rfl, rfl, rfl, rfl, rfl, rfl, fun _ => rfl, fun _ => rfl, fun _ => rfl, fun _ => rfl⟩

theorem State.setLoad_quiet (s : State) (l : Option OpenLoad) : s.Quiet (s.setLoad l) :=
  ⟨rfl, rfl, rfl, rfl, rfl, rfl, rfl, fun _ => rfl, fun _ => rfl, fun _ => rfl, fun _ => rfl⟩

theorem State.emit_quiet (s : State) (e : Event) (c : Option ChannelNo) (fs : List Field) : s.Quiet (s.emit e c fs) :=
  ⟨rfl, rfl, rfl, rfl, rfl, rfl, rfl, fun _ => rfl, fun _ => rfl, fun _ => rfl, fun _ => rfl⟩

theorem State.drawn_quiet (s : State) : s.Quiet s.drawn :=
  ⟨rfl, rfl, rfl, rfl, rfl, rfl, rfl, fun _ => rfl, fun _ => rfl, fun _ => rfl, fun _ => rfl⟩

theorem State.returnBlocks_quiet (s : State) (bs : List BlockNo) : s.Quiet (s.returnBlocks bs) :=
  ⟨rfl, rfl, rfl, rfl, rfl, rfl, rfl, fun _ => rfl, fun _ => rfl, fun _ => rfl, fun _ => rfl⟩

theorem State.modStats_quiet (s : State) (c : ChannelNo) (f : Stats → Stats) : s.Quiet (s.modStats c f) :=
  s.modChan_quiet c (by intro; exact ⟨rfl, rfl, rfl, rfl⟩)

theorem State.modRx_quiet (s : State) (c : ChannelNo) (f : RxCounts → RxCounts) : s.Quiet (s.modRx c f) :=
  s.modChan_quiet c (by intro; exact ⟨rfl, rfl, rfl, rfl⟩)

theorem State.modParser_quiet (s : State) (c : ChannelNo) (f : Parser → Parser) : s.Quiet (s.modParser c f) :=
  s.modChan_quiet c (by intro; exact ⟨rfl, rfl, rfl, rfl⟩)

/-! ### Credit and the places of messages -/

theorem State.takeBlocks_quiet (s : State) (h : Handle) (n : Nat) : s.Quiet (s.takeBlocks h n) :=
  ⟨rfl, rfl, rfl, rfl, rfl, rfl, rfl, fun _ => rfl, fun _ => rfl, fun _ => rfl, fun _ => rfl⟩

theorem State.judgeGrant_quiet (s : State) (notify : Bool) : s.Quiet (s.judgeGrant notify) := by
  unfold State.judgeGrant
  split
  · exact .refl s
  · split
    · exact .refl s
    · refine .ite (fun _ => ?_) fun _ => s.setLoad_quiet _
      have h := fun h n => (s.takeBlocks_quiet h n).trans (State.setLoad_quiet _ (some
        { ‹OpenLoad› with outstanding := s.grantNeed ‹OpenLoad›, waiting := false }))
      exact .ite (fun _ => (h _ _).trans (State.emit_quiet ..)) fun _ => h _ _

theorem State.rejudgeGrant_quiet (s : State) : s.Quiet s.rejudgeGrant := by
  unfold State.rejudgeGrant
  split
  · exact .ite (fun _ => s.judgeGrant_quiet true) fun _ => .refl s
  · exact .refl s

theorem Channel.setQueue_settings (ch : Channel) (k : MsgClass) (q : List Handle) :
    (ch.setQueue k q).settings = ch.settings ∧ (ch.setQueue k q).reserve = ch.reserve ∧ (ch.setQueue k q).cap = ch.cap
      ∧ (ch.setQueue k q).ready = ch.ready := by
  cases k <;> exact ⟨rfl, rfl, rfl, rfl⟩

theorem State.detach_quiet (s : State) (h : Handle) : s.Quiet (s.detach h) :=
  s.modChan_quiet _ (by intro; exact ⟨rfl, rfl, rfl, rfl⟩)

theorem State.toHead_quiet (s : State) (h : Handle) (f : Descriptor → Descriptor) : s.Quiet (s.toHead h f) :=
  ((s.detach_quiet h).trans (State.modDesc_quiet _ h f)).trans
    (State.modChan_quiet _ _ fun ch => ch.setQueue_settings _ _)

theorem State.suspend_quiet (s : State) (h : Handle) : s.Quiet (s.suspend h) := s.toHead_quiet h _

theorem State.requeueReady_quiet (s : State) (h : Handle) : s.Quiet (s.requeueReady h) := s.toHead_quiet h _

theorem State.freeMessage_quiet (s : State) (h : Handle) : s.Quiet (s.freeMessage h) :=
  ((s.detach_quiet h).trans (State.returnBlocks_quiet _ _)).trans (State.setDesc_quiet _ h _)

theorem State.freeWith_quiet (s : State) (h : Handle) (e : Event) (fs : List Field) : s.Quiet (s.freeWith h e fs) :=
  ((s.freeMessage_quiet h).trans (State.emit_quiet ..)).trans (State.rejudgeGrant_quiet _)

theorem State.freeSilent_quiet (s : State) (h : Handle) : s.Quiet (s.freeSilent h) :=
  (s.freeMessage_quiet h).trans (State.rejudgeGrant_quiet _)

theorem State.freeCancelled_quiet (s : State) (h : Handle) : s.Quiet (s.freeCancelled h) := s.freeWith_quiet h _ _

theorem State.suspendedNotice_quiet (s : State) (h : Handle) (cause : SuspendCause) :
    s.Quiet (s.suspendedNotice h cause) := s.emit_quiet ..

theorem State.expire_quiet (s : State) (h : Handle) : s.Quiet (s.expire h) := s.freeWith_quiet h _ _

theorem State.expireAll_quiet (s : State) : s.Quiet s.expireAll :=
  s.drawn_quiet.trans (.foldl State.expire_quiet _ _)

theorem State.segmentEnds_quiet (s : State) (c : ChannelNo) (ship : Nat) : s.Quiet (s.segmentEnds c ship) :=
  s.modChan_quiet c (by intro; exact ⟨rfl, rfl, rfl, rfl⟩)

/-! ### The Broadcast Schedule -/

theorem State.leaveArea_quiet (s : State) (a : AreaNo) : s.Quiet (s.leaveArea a) := s.setArea_quiet ..

theorem State.enterArea_quiet (s : State) (a : AreaNo) : s.Quiet (s.enterArea a) := s.setArea_quiet ..

theorem State.advanceOverrun_quiet (s : State) (c : ChannelNo) : s.Quiet (s.advanceOverrun c) :=
  .ite (fun _ => s.modStats_quiet c _) fun _ => (s.modStats_quiet c _).trans (State.emit_quiet ..)

theorem State.recordOutcome_quiet (s : State) (c : ChannelNo) (q : Request) (o : BulletinOutcome) (l : Option Nat)
    (quiet : Bool) : s.Quiet (s.recordOutcome c q o l quiet) := by
  have h := fun fs => (s.emit_quiet .outcome (some c) fs).trans (State.modStats_quiet _ c (·.countOutcome o))
  exact .ite (fun _ => (h _).trans (State.advanceOverrun_quiet _ c)) fun _ => h _

theorem State.dropRequest_quiet (s : State) (c : ChannelNo) (q : Request) : s.Quiet (s.dropRequest c q) :=
  s.modChan_quiet c (by intro; exact ⟨rfl, rfl, rfl, rfl⟩)

theorem State.endRequest_quiet (s : State) (c : ChannelNo) (q : Request) (o : BulletinOutcome) (l : Option Nat)
    (quiet : Bool) : s.Quiet (s.endRequest c q o l quiet) :=
  (s.dropRequest_quiet c q).trans (State.recordOutcome_quiet ..)

theorem State.endBroken_quiet (s : State) (c : ChannelNo) (q : Request) (quiet : Bool) : s.Quiet (s.endBroken c q quiet) :=
  s.endRequest_quiet ..

theorem State.endAllBroken_quiet (s : State) (c : ChannelNo) (quiet : Bool) (qs : List Request) :
    s.Quiet (s.endAllBroken c quiet qs) :=
  .foldl (fun s q => s.endBroken_quiet c q quiet) _ _

theorem State.setChan_quiet (s : State) (c : ChannelNo) {x : Channel}
    (h : x.settings = (s.chan c).settings ∧ x.reserve = (s.chan c).reserve ∧ x.cap = (s.chan c).cap
      ∧ x.ready = (s.chan c).ready) : s.Quiet (s.setChan c x) := by
  refine ⟨rfl, rfl, rfl, rfl, rfl, rfl, rfl, fun d => ?_, fun d => ?_, fun d => ?_, fun d => ?_⟩ <;>
    rw [State.chan_setChan] <;> split <;> simp_all

theorem State.placeRequest_quiet (s : State) (i : SlotNo) (due : Nat) (c : ChannelNo) :
    s.Quiet (s.placeRequest i due c) :=
  .ite (fun _ => s.recordOutcome_quiet ..) fun _ =>
    .ite (fun _ => .refl s) fun _ =>
      .ite (fun _ => s.recordOutcome_quiet ..) fun _ => s.setChan_quiet c ⟨rfl, rfl, rfl, rfl⟩

theorem State.takeOccurrence_quiet (s : State) (i : SlotNo) : s.Quiet (s.takeOccurrence i) := by
  unfold State.takeOccurrence
  split
  · exact .refl s
  · exact (State.Quiet.foldl (fun s c => s.placeRequest_quiet i _ c) _ s).trans (State.setSlot_quiet ..)

theorem State.takeOccurrences_quiet (s : State) (is : List SlotNo) : s.Quiet (s.takeOccurrences is) :=
  s.drawn_quiet.trans (.foldl State.takeOccurrence_quiet _ _)

theorem State.endPassed_quiet (s : State) (c : ChannelNo) : s.Quiet (s.endPassed c) := s.endAllBroken_quiet ..

theorem State.judgeBoundary_quiet (s : State) (c : ChannelNo) : s.Quiet (s.judgeBoundary c) :=
  .ite (fun _ => s.endAllBroken_quiet ..) fun _ => .refl s

theorem State.modRequest_quiet (s : State) (c : ChannelNo) (i : SlotNo) (due : Nat) (f : Request → Request) :
    s.Quiet (s.modRequest c i due f) := s.modChan_quiet c (by intro; exact ⟨rfl, rfl, rfl, rfl⟩)

theorem State.returnRequest_quiet (s : State) (c : ChannelNo) (i : SlotNo) (due : Nat) (a : AreaNo) :
    s.Quiet (s.returnRequest c i due a) := (s.modRequest_quiet ..).trans (State.leaveArea_quiet ..)

theorem State.bulletinEnds_quiet (s : State) (c : ChannelNo) (i : SlotNo) (due : Nat) (a : AreaNo) :
    s.Quiet (s.bulletinEnds c i due a) := by
  unfold State.bulletinEnds
  simp only
  split
  · exact (s.leaveArea_quiet a).trans (State.endRequest_quiet ..)
  · exact s.leaveArea_quiet a

/-! ### The Channel Interleaver -/

theorem State.beginItem_quiet (s : State) (c : ChannelNo) (it : Item) : s.Quiet (s.beginItem c it) :=
  s.modChan_quiet c (by intro; exact ⟨rfl, rfl, rfl, rfl⟩)

theorem State.beginMarker_quiet (s : State) (c : ChannelNo) (w : Closes) (p : Purpose) : s.Quiet (s.beginMarker c w p) :=
  s.beginItem_quiet ..

theorem State.beginIdle_quiet (s : State) (c : ChannelNo) : s.Quiet (s.beginIdle c) :=
  s.modChan_quiet c (by intro; exact ⟨rfl, rfl, rfl, rfl⟩)

theorem State.unkey_quiet (s : State) (c : ChannelNo) : s.Quiet (s.unkey c) :=
  (s.modChan_quiet c (by intro; exact ⟨rfl, rfl, rfl, rfl⟩)).trans (State.emit_quiet ..)

theorem State.idleOrUnkey_quiet (s : State) (c : ChannelNo) : s.Quiet (s.idleOrUnkey c) :=
  .ite (fun _ => s.unkey_quiet c) fun _ => s.beginIdle_quiet c

theorem State.recordFit_quiet (s : State) (c : ChannelNo) (f : FitRecord) : s.Quiet (s.recordFit c f) :=
  s.modChan_quiet c (by intro; exact ⟨rfl, rfl, rfl, rfl⟩)

theorem State.startTelex_quiet (s : State) (c : ChannelNo) (h : Handle) (e : Nat) (fresh : Bool) :
    s.Quiet (s.startTelex c h e fresh) := by
  have h1 : s.Quiet (if fresh then
      s.modChan c fun ch => { ch.detach h with active := some h, urgentRun := ch.nextRun (s.desc h).cls }
    else s) := .ite (fun _ => s.modChan_quiet c (by intro; exact ⟨rfl, rfl, rfl, rfl⟩)) fun _ => .refl s
  have h2 := h1.trans (State.modDesc_quiet _ h fun d => { d with state := .active })
  exact .ite (fun _ => (h2.trans (State.beginItem_quiet ..)).trans (State.emit_quiet ..))
    fun _ => h2.trans (State.beginItem_quiet ..)

theorem State.tryTelex_quiet (s : State) (c : ChannelNo) (h : Handle) (fresh : Bool) : s.Quiet (s.tryTelex c h fresh) := by
  unfold State.tryTelex
  simp only
  split
  · exact (s.recordFit_quiet c _).trans (State.startTelex_quiet ..)
  · exact (s.recordFit_quiet c _).trans (State.idleOrUnkey_quiet ..)

theorem State.selectNew_quiet (s : State) (c : ChannelNo) : s.Quiet (s.selectNew c) := by
  unfold State.selectNew
  refine .ite (fun _ => s.idleOrUnkey_quiet c) fun _ => ?_
  split
  · exact s.tryTelex_quiet ..
  · exact s.idleOrUnkey_quiet c

theorem State.selectTelex_quiet (s : State) (c : ChannelNo) : s.Quiet (s.selectTelex c) := by
  unfold State.selectTelex
  split
  · exact .ite (fun _ => ((s.suspend_quiet _).trans (State.suspendedNotice_quiet ..)).trans (State.selectNew_quiet _ c))
      fun _ => s.tryTelex_quiet ..
  · exact s.selectNew_quiet c

theorem State.startRelay_quiet (s : State) (c : ChannelNo) (h : Handle) : s.Quiet (s.startRelay c h) :=
  (s.modDesc_quiet ..).trans (State.beginItem_quiet ..)

theorem State.startBulletin_quiet (s : State) (c : ChannelNo) (q : Request) : s.Quiet (s.startBulletin c q) :=
  ((s.modRequest_quiet ..).trans (State.enterArea_quiet ..)).trans (State.beginItem_quiet ..)

theorem State.startDue_quiet (s : State) (c : ChannelNo) (qs : List Request) : s.Quiet (s.startDue c qs) := by
  induction qs generalizing s with
  | nil => exact s.selectTelex_quiet c
  | cons q qs ih =>
    unfold State.startDue
    exact .ite (fun _ => .ite (fun _ => (s.endBroken_quiet ..).trans (ih _)) fun _ =>
      .ite (fun _ => s.startBulletin_quiet c q) fun _ => (s.endRequest_quiet ..).trans (ih _)) fun _ => ih s

theorem State.select_quiet (s : State) (c : ChannelNo) : s.Quiet (s.select c) := by
  unfold State.select
  split
  · exact s.startRelay_quiet ..
  · exact s.startDue_quiet ..

theorem State.settle_quiet (s : State) (c : ChannelNo) (h : Handle) : s.Quiet (s.settle c h) := by
  unfold State.settle
  simp only
  refine .ite (fun _ => s.beginMarker_quiet ..) fun _ => .ite (fun _ => s.beginMarker_quiet ..) fun _ =>
    .ite (fun _ => s.beginMarker_quiet ..) fun _ => .ite (fun _ => s.beginMarker_quiet ..) fun _ =>
    .ite (fun _ => s.beginMarker_quiet ..) fun _ => ?_
  split
  · exact (s.recordFit_quiet c _).trans (State.beginItem_quiet ..)
  · exact (s.recordFit_quiet c _).trans (State.beginMarker_quiet ..)

theorem State.closeParked_quiet (s : State) (c : ChannelNo) : s.Quiet (s.closeParked c) := by
  unfold State.closeParked
  split
  · exact (s.suspend_quiet _).trans (State.suspendedNotice_quiet ..)
  · exact .refl s

theorem State.reachOffline_quiet (s : State) (c : ChannelNo) : s.Quiet (s.reachOffline c) := by
  have h1 : s.Quiet (s.modChan c fun ch =>
      { ch with state := .offline, item := .noItem, idleSince := none, faultReason := none }) :=
    s.modChan_quiet c (by intro; exact ⟨rfl, rfl, rfl, rfl⟩)
  have h2 := h1.trans (State.closeParked_quiet _ c)
  exact .ite (fun _ => ((h2.trans (State.endAllBroken_quiet ..)).trans
      (State.modChan_quiet _ c (by intro; exact ⟨rfl, rfl, rfl, rfl⟩))).trans (State.emit_quiet ..)) fun _ =>
    (h2.trans (State.endAllBroken_quiet ..)).trans (State.modChan_quiet _ c (by intro; exact ⟨rfl, rfl, rfl, rfl⟩))

theorem State.atDecision_quiet (s : State) (c : ChannelNo) (cut : Option Closes) : s.Quiet (s.atDecision c cut) := by
  unfold State.atDecision
  simp only
  have h := s.takeOccurrences_quiet (s.dueSlotsNaming c)
  split
  · exact h.trans (State.settle_quiet ..)
  · split
    · exact h.trans (State.beginMarker_quiet ..)
    · exact .ite (fun _ => h.trans (State.reachOffline_quiet ..)) fun _ => h.trans (State.select_quiet ..)

theorem State.decisionPoint_quiet (s : State) (c : ChannelNo) (cut : Option Closes) : s.Quiet (s.decisionPoint c cut) :=
  (s.atDecision_quiet c cut).trans (State.judgeBoundary_quiet _ c)

theorem State.cutTelex_quiet (s : State) (c : ChannelNo) : s.Quiet (s.cutTelex c) := by
  unfold State.cutTelex
  split <;> first
    | exact .refl s
    | exact s.modChan_quiet c (by intro; exact ⟨rfl, rfl, rfl, rfl⟩)

theorem State.cutBulletin_quiet (s : State) (c : ChannelNo) : s.Quiet (s.cutBulletin c) := by
  unfold State.cutBulletin
  split <;> first
    | exact .refl s
    | exact s.modChan_quiet c (by intro; exact ⟨rfl, rfl, rfl, rfl⟩)

theorem State.relayReady_quiet (s : State) (c : ChannelNo) : s.Quiet (s.relayReady c) :=
  .ite (fun _ => (s.cutTelex_quiet c).trans (State.cutBulletin_quiet _ c)) fun _ => .refl s

theorem State.cancelActive_quiet (s : State) (c : ChannelNo) (h : Handle) : s.Quiet (s.cancelActive c h) := by
  unfold State.cancelActive
  split <;> first
    | exact .refl s
    | exact .ite (fun _ => s.modChan_quiet c (by intro; exact ⟨rfl, rfl, rfl, rfl⟩)) fun _ => .refl s
    | exact .ite (fun _ => s.cutTelex_quiet c) fun _ => .refl s

theorem State.markerEnds_quiet (s : State) (c : ChannelNo) (w : Closes) (p : Purpose) : s.Quiet (s.markerEnds c w p) := by
  unfold State.markerEnds
  split
  · exact s.returnRequest_quiet ..
  · split
    · exact (s.modDesc_quiet ..).trans (State.emit_quiet ..)
    · exact (s.suspend_quiet _).trans (State.suspendedNotice_quiet ..)
    · exact s.freeCancelled_quiet _
    · exact (s.suspend_quiet _).trans (State.suspendedNotice_quiet ..)
    · exact .refl s

/-! ### The Keyer -/

theorem State.countLine_quiet (s : State) (c : ChannelNo) : s.Quiet (s.countLine c) :=
  .ite (fun _ => s.modStats_quiet ..) fun _ => (s.modStats_quiet ..).trans (State.emit_quiet ..)

theorem State.toSent_quiet (s : State) (h : Handle) : s.Quiet (s.toSent h) := by
  unfold State.toSent
  exact ((s.detach_quiet h).trans (State.modDesc_quiet ..)).trans (State.modChan_quiet _ _ (by intro; exact ⟨rfl, rfl, rfl, rfl⟩))

theorem State.messageEnds_quiet (s : State) (c : ChannelNo) (h : Handle) : s.Quiet (s.messageEnds c h) := by
  have h1 := (s.modDesc_quiet h fun d => { d with doneTime := some s.now }).trans
    (State.modStats_quiet _ c (·.countDone (s.desc h).length))
  exact .ite (fun _ => h1.trans (State.freeCancelled_quiet ..)) fun _ =>
    .ite (fun _ => h1.trans (State.freeWith_quiet ..)) fun _ =>
      (h1.trans (State.toSent_quiet ..)).trans (State.emit_quiet ..)

theorem State.textSymbolDone_quiet (s : State) (c : ChannelNo) (h : Handle) (start : Nat) :
    s.Quiet (s.textSymbolDone c h start) :=
  .ite (fun _ => (s.modDesc_quiet ..).trans (State.modStats_quiet ..)) fun _ => s.modDesc_quiet ..

theorem State.nextPeriod_quiet (s : State) (c : ChannelNo) : s.Quiet (s.nextPeriod c) :=
  s.modChan_quiet c (by intro; exact ⟨rfl, rfl, rfl, rfl⟩)

theorem State.itemEnds_quiet (s : State) (c : ChannelNo) (cut : Option Closes) : s.Quiet (s.itemEnds c cut) :=
  (s.modChan_quiet c (by intro; exact ⟨rfl, rfl, rfl, rfl⟩)).trans (State.decisionPoint_quiet ..)

theorem State.itemGoesOn_quiet (s : State) (c : ChannelNo) (it : Item) : s.Quiet (s.itemGoesOn c it) :=
  (s.modChan_quiet c (by intro; exact ⟨rfl, rfl, rfl, rfl⟩)).trans (State.judgeBoundary_quiet ..)

theorem State.shiftDone_quiet (s : State) (c : ChannelNo) (sh : Nat) : s.Quiet (s.shiftDone c sh) :=
  (s.modChan_quiet c (by intro; exact ⟨rfl, rfl, rfl, rfl⟩)).trans (State.judgeBoundary_quiet ..)

theorem State.segmentSymbolDone_quiet (s : State) (c : ChannelNo) (h : Handle) (start e : Nat) (cut : Option Nat) :
    s.Quiet (s.segmentSymbolDone c h start e cut) := by
  have h1 := s.textSymbolDone_quiet c h start
  exact .ite (fun _ => ((h1.trans (State.segmentEnds_quiet ..)).trans (State.messageEnds_quiet ..)).trans
      (State.itemEnds_quiet ..)) fun _ =>
    .ite (fun _ => (h1.trans (State.segmentEnds_quiet ..)).trans (State.itemEnds_quiet ..)) fun _ =>
      h1.trans (State.itemGoesOn_quiet ..)

theorem State.relaySymbolDone_quiet (s : State) (c : ChannelNo) (h : Handle) : s.Quiet (s.relaySymbolDone c h) := by
  have h1 := s.textSymbolDone_quiet c h 0
  exact .ite (fun _ => (h1.trans (State.messageEnds_quiet ..)).trans (State.itemEnds_quiet ..)) fun _ =>
    h1.trans (State.itemGoesOn_quiet ..)

theorem State.bulletinSymbolDone_quiet (s : State) (c : ChannelNo) (i : SlotNo) (due : Nat) (a : AreaNo) (pos : Nat)
    (cut : Option Nat) : s.Quiet (s.bulletinSymbolDone c i due a pos cut) :=
  .ite (fun _ => (s.bulletinEnds_quiet ..).trans (State.itemEnds_quiet ..)) fun _ =>
    .ite (fun _ => s.itemEnds_quiet ..) fun _ => s.itemGoesOn_quiet ..

theorem State.itemSymbolDone_quiet (s : State) (c : ChannelNo) : s.Quiet (s.itemSymbolDone c) := by
  unfold State.itemSymbolDone
  split
  · exact .refl s
  · exact (s.modStats_quiet ..).trans (State.itemEnds_quiet ..)
  · exact .ite (fun _ => s.itemGoesOn_quiet ..) fun _ => s.itemGoesOn_quiet ..
  · exact .ite (fun _ => s.itemGoesOn_quiet ..) fun _ =>
      ((s.modStats_quiet ..).trans (State.markerEnds_quiet ..)).trans (State.itemEnds_quiet ..)
  · exact s.segmentSymbolDone_quiet ..
  · exact s.relaySymbolDone_quiet ..
  · exact s.bulletinSymbolDone_quiet ..

/-- The completion of a line symbol leaves all but the traffic alone. -/
theorem State.symbolCompletes_quiet (s : State) (c : ChannelNo) : s.Quiet (s.symbolCompletes c) := by
  have h1 := (s.countLine_quiet c).trans (State.nextPeriod_quiet _ c)
  unfold State.symbolCompletes
  simp only
  split
  · exact .refl s
  · split
    · exact h1.trans (State.shiftDone_quiet ..)
    · exact h1.trans (State.itemSymbolDone_quiet ..)

theorem State.enterOnAir_quiet (s : State) (c : ChannelNo) : s.Quiet (s.enterOnAir c) :=
  ((s.modChan_quiet c (by intro; exact ⟨rfl, rfl, rfl, rfl⟩)).trans (State.decisionPoint_quiet ..)).trans (State.emit_quiet ..)

theorem State.keyUp_quiet (s : State) (c : ChannelNo) : s.Quiet (s.keyUp c) := by
  have h1 : s.Quiet (s.modChan c fun ch => { ch with state := .keyUp, keyRise := s.clock.elapsed }) :=
    s.modChan_quiet c (by intro; exact ⟨rfl, rfl, rfl, rfl⟩)
  exact .ite (fun _ => h1.trans (State.enterOnAir_quiet ..)) fun _ => h1

theorem State.judgeWithin_quiet (n : Nat) (cs : List ChannelNo) (s : State) : s.Quiet (State.judgeWithin n cs s) := by
  induction n generalizing cs s with
  | zero => exact .refl s
  | succ n ih =>
    cases cs with
    | nil => exact .refl s
    | cons c cs =>
      unfold State.judgeWithin
      exact .ite (fun _ => (s.keyUp_quiet c).trans (ih _ _)) fun _ => ih cs s

/-- Judging key-up causes leaves all but the traffic alone. -/
theorem State.judgeKeyUp_quiet (s : State) (cs : List ChannelNo) : s.Quiet (s.judgeKeyUp cs) :=
  State.judgeWithin_quiet judgeBound cs s

theorem State.breakSegment_quiet (s : State) (c : ChannelNo) : s.Quiet (s.breakSegment c) := by
  unfold State.breakSegment
  split
  · exact s.segmentEnds_quiet ..
  · exact .refl s

theorem State.forSome_quiet {α : Type} (s : State) (x : Option α) {f : State → α → State}
    (h : ∀ s a, State.Quiet s (f s a)) : s.Quiet (s.forSome x f) := by
  cases x with
  | none => exact .refl s
  | some a => exact h s a

theorem State.faultChannel_quiet (s : State) (c : ChannelNo) (r : FaultReason) : s.Quiet (s.faultChannel c r) := by
  have h1 := (s.breakSegment_quiet c).trans (State.modChan_quiet _ c (f := fun ch =>
    { ch with state := .faulted, faultReason := some r, item := .noItem, idleSince := none })
      (by intro; exact ⟨rfl, rfl, rfl, rfl⟩))
  have h2 := h1.trans (State.forSome_quiet _ (s.suspendedInSlot c) State.suspend_quiet)
  have h3 := h2.trans (State.forSome_quiet _ (s.chan c).item.relayHandle State.requeueReady_quiet)
  have h4 := h3.trans (State.forSome_quiet _ (s.chan c).item.onAirRequest
    fun s q => s.returnRequest_quiet c q.1 q.2.1 q.2.2)
  exact (h4.trans (State.emit_quiet ..)).trans (State.forSome_quiet _ (s.cancelledInSlot c) State.freeCancelled_quiet)

theorem State.resetPort_quiet (s : State) (c : ChannelNo) : s.Quiet (s.resetPort c) := by
  unfold State.resetPort
  simp only
  refine .trans (.trans (.trans (.trans (.trans (.trans (s.modChan_quiet c ?_)
    (State.forSome_quiet _ _ fun s h => (s.suspend_quiet h).trans (State.suspendedNotice_quiet ..)))
    (State.forSome_quiet _ _ State.freeCancelled_quiet)) (State.forSome_quiet _ _ State.requeueReady_quiet))
    (State.forSome_quiet _ _ fun s q => by exact s.leaveArea_quiet _)) (State.endAllBroken_quiet ..))
    (State.modChan_quiet _ c ?_)
  · intro; exact ⟨rfl, rfl, rfl, rfl⟩
  · intro; exact ⟨rfl, rfl, rfl, rfl⟩

/-! ### The Receive Watch -/

theorem State.capture_quiet (s : State) (c : ChannelNo) (p : Parser) : s.Quiet (s.capture c p) :=
  .ite (fun _ => s.modRx_quiet ..) fun _ =>
    (s.modChan_quiet c (by intro; exact ⟨rfl, rfl, rfl, rfl⟩)).trans (State.emit_quiet ..)

theorem State.dropHold_quiet (s : State) (c : ChannelNo) (ship : Nat) : s.Quiet (s.dropHold c ship) :=
  s.modChan_quiet c (by intro; exact ⟨rfl, rfl, rfl, rfl⟩)

theorem State.holdEnded_quiet (s : State) (c : ChannelNo) (ship cause : Nat) : s.Quiet (s.holdEnded c ship cause) :=
  s.emit_quiet ..

theorem State.countHold_quiet (s : State) (c : ChannelNo) : s.Quiet (s.countHold c) := s.modRx_quiet ..

theorem State.holdCall_quiet (s : State) (c : ChannelNo) (ship n : Nat) : s.Quiet (s.holdCall c ship n) := by
  unfold State.holdCall
  simp only
  split
  · exact .ite (fun _ => (((s.countHold_quiet c).trans (State.dropHold_quiet ..)).trans (State.holdEnded_quiet ..)).trans
        (State.judgeKeyUp_quiet ..)) fun _ =>
      ((s.countHold_quiet c).trans (State.modChan_quiet _ c (by intro; exact ⟨rfl, rfl, rfl, rfl⟩))).trans
        (State.emit_quiet ..)
  · exact .ite (fun _ => s.countHold_quiet c) fun _ =>
      .ite (fun _ => (((s.countHold_quiet c).trans (State.modChan_quiet _ c (by intro; exact ⟨rfl, rfl, rfl, rfl⟩))).trans
          (State.emit_quiet ..)).trans (State.judgeKeyUp_quiet ..)) fun _ =>
        (s.modRx_quiet ..).trans (State.emit_quiet ..)

theorem State.ackMessage_quiet (s : State) (h : Handle) : s.Quiet (s.ackMessage h) := s.freeWith_quiet ..

theorem State.repeatMessage_quiet (s : State) (c : ChannelNo) (h : Handle) : s.Quiet (s.repeatMessage c h) :=
  .ite (fun _ => (((s.requeueReady_quiet h).trans (State.modDesc_quiet ..)).trans (State.emit_quiet ..)).trans
    (State.judgeKeyUp_quiet ..)) fun _ => s.emit_quiet ..

theorem State.unmatchedCall_quiet (s : State) (c : ChannelNo) (f : CallForm) (ship n : Nat) :
    s.Quiet (s.unmatchedCall c f ship n) := (s.modRx_quiet ..).trans (State.emit_quiet ..)

theorem State.deliverCall_quiet (s : State) (c : ChannelNo) (f : CallForm) (ship n : Nat) :
    s.Quiet (s.deliverCall c f ship n) := by
  unfold State.deliverCall
  refine .ite (fun _ => s.unmatchedCall_quiet ..) fun _ => ?_
  split
  · exact s.unmatchedCall_quiet ..
  · split
    · exact (s.ackMessage_quiet _).trans (State.modRx_quiet ..)
    · exact (s.repeatMessage_quiet c _).trans (State.modRx_quiet ..)

theorem State.recognise_quiet (s : State) (c : ChannelNo) (p : Parser) : s.Quiet (s.recognise c p) := by
  unfold State.recognise
  split
  · exact s.holdCall_quiet ..
  · exact s.deliverCall_quiet ..
  · exact s.capture_quiet ..

/-- A received symbol leaves all but the traffic alone. -/
theorem State.takeSymbol_quiet (s : State) (c : ChannelNo) (y : Nat) (mutilated : Bool) :
    s.Quiet (s.takeSymbol c y mutilated) := by
  unfold State.takeSymbol
  simp only
  have h1 := fun f => s.modRx_quiet c f
  refine .ite (fun _ => h1 _) fun _ => ?_
  have h2 := (h1 fun r =>
    { r with
      symbols := satSucc max32 r.symbols
      mutilated := if mutilated then satSucc max32 r.mutilated else r.mutilated }).trans
    (State.modParser_quiet _ c fun _ =>
      ((s.chan c).parser.symbol (s.chan c).settings.phasingRun (s.chan c).settings.copies y mutilated).1)
  split
  · exact h2
  · exact h2.trans (State.modRx_quiet ..)
  · exact h2.trans (State.modRx_quiet ..)
  · exact h2.trans (State.recognise_quiet ..)

end Sys2Proof.Machine
end

