-- ==== Sys2Proof/Tests/Slice0.lean ====
section
/-! SUPPORT. Small tests of the model against the manual's worked examples, ill-formed terms that WellFormed refuses, and
one witness of the hypotheses of each statement. -/

namespace Sys2Proof.Tests

set_option Elab.async false

open Sys2Proof Sys2Proof.Machine

/-! ### Helpers -/

/-- The state after a command. -/
def after (i : Instr) (s : State) : State :=
  match exec i s with
  | .next t => t
  | .fault _ => s
  | .refused _ => s

/-- The reset state with its transmitter free. -/
def quiet : State := { State.reset with link := { State.reset.link with sending := none } }

/-- The reset state with channel 0 changed. -/
def withChan (f : Channel → Channel) : State := quiet.modChan 0 f

/-- The reset state with channel 0 and descriptor 0 changed. -/
def withBoth (f : Channel → Channel) (g : Descriptor → Descriptor) : State := (withChan f).modDesc 0 g

/-- A clock that has been set. -/
def setClock (s : State) (day ms : Nat) : State := { s with clock := ⟨day, ms, true, true, 1000⟩ }

/-! ### Ill-formed terms -/

def longBody : Body := List.replicate 513 0

theorem test_body_of_513_bytes_is_ill_formed : (Instr.text longBody).wellFormed = false := by decide +kernel
theorem test_body_of_512_bytes_is_well_formed : (Instr.text longBody.tail).wellFormed = true := by decide +kernel
theorem test_long_bad_form_is_ill_formed : (Instr.badForm 0x2C longBody).wellFormed = false := by decide +kernel
theorem test_bad_form_with_a_command_kind_is_ill_formed : (Instr.badForm 0x2B []).wellFormed = false := by decide
theorem test_bad_form_with_kind_zero_is_well_formed : (Instr.badForm 0x00 []).wellFormed = true := by decide
theorem test_deadline_beyond_the_clock_is_ill_formed :
    (Instr.requestDeadlineUnkeyed 0 0 5662310400000).wellFormed = false := by decide
theorem test_ship_zero_is_ill_formed : (Instr.holdExpiry 0 0).wellFormed = false := by decide
theorem test_ship_100000_is_ill_formed : (Instr.holdExpiry 0 100000).wellFormed = false := by decide
theorem test_symbol_64_is_ill_formed : (Instr.receivedSymbol 0 64 false).wellFormed = false := by decide

/-! ### Worked examples of the manual -/

/-- R170 describes the CRC whose published value for the digits 1 to 9 is 29B1H. -/
theorem test_crc_of_the_digits : crc [0x31, 0x32, 0x33, 0x34, 0x35, 0x36, 0x37, 0x38, 0x39] = 0x29B1 := by decide +kernel

/-- Section 10.8: READ-STORE's reply has a body of 375 bytes and occupies 381 bytes on the line. -/
theorem test_read_store_takes_381_bytes :
    (after (.readStore []) quiet).link.sending.map (fun r => r.lineBytes.length) = some 381 := by decide +kernel

/-- The body of section 2.3's example. -/
def exampleBody : Body := [7, 5, 35, 1, 200, 4, 8, 2, 3, 6, 9, 0]

/-- Section 2.3: A, 2, SPACE, ?, B, CR, LF, C, IDLE are stored. -/
theorem test_cleaning_stores_nine_symbols :
    let r := storeText id [] 0 exampleBody
    r.2 = 9 ∧ (List.range 9).map (fun i => (Memory.read r.1 i).toNat) = [7, 35, 1, 46, 8, 2, 3, 9, 0] := by decide +kernel

/-- A telex load on channel 0 with credit 20, of 100 symbols. -/
def loading : State :=
  { withBoth id (fun d => { d with state := .loading, cls := .ordinary, chain := [300, 301] }) with
    loadUnit := ⟨some ⟨.telex 0 0, 100, 0, 20, 0, 0, 0, false, false⟩, 128⟩ }

/-- Section 2.3: received 12, outstanding 8, stored 9, stripped 3, substituted 1. -/
theorem test_text_counts : ((after (.text exampleBody) loading).loadUnit.current.map fun l =>
    (l.received, l.outstanding, l.stored, l.stripped, l.substituted)) = some (12, 8, 9, 3, 1) := by decide +kernel

/-- A TEXT of 21 symbols against credit 20 (R53). -/
theorem test_text_over_credit : (after (.text (List.replicate 21 7)) loading).loadUnit = loading.loadUnit := by
  decide +kernel

/-- Section 2.4: I, C, E, SPACE, 6, 2, N from UNKNOWN takes 3 shifts and ends in LETTERS. -/
theorem test_shift_count_of_ice : shiftCount .unknown [15, 9, 11, 1, 39, 35, 20] = 3
    ∧ endingCase .unknown [15, 9, 11, 1, 39, 35, 20] = .letters := by decide

/-- Section 2.4: the cleaned text of section 2.3 takes 3 shifts. -/
theorem test_shift_count_of_cleaned_text : shiftCount .unknown [7, 35, 1, 46, 8, 2, 3, 9, 0] = 3 := by decide

/-- Section 2.5: the header of message 417, without its shifts, and its cost of 14 or 15. -/
theorem test_header_of_417 : headerSymbols 417 = [2, 3, 9, 26, 10, 1, 33, 33, 37, 34, 40, 2, 3]
    ∧ headerCost .letters = 14 ∧ headerCost .figures = 15 ∧ headerCost .unknown = 15 := by decide

/-- Section 3.4's worked case: uses 10, 70, 150 and 438. -/
def allowances : State :=
  let chain (n : Nat) : List BlockNo := List.replicate n 0
  let s := (((quiet.modDesc 0 fun d => { d with state := .ready, channel := 0, chain := chain 10 }).modDesc 1
    fun d => { d with state := .ready, channel := 1, chain := chain 70 }).modDesc 2
    fun d => { d with state := .ready, channel := 2, chain := chain 150 }).modDesc 3
    fun d => { d with state := .ready, channel := 3, chain := chain 438 }
  let t := ((s.modChan 0 fun c => { c with reserve := 64 }).modChan 1 fun c => { c with reserve := 64 }).modChan 2
    fun c => { c with cap := 200 }
  { t with store := { t.store with free := chain 100 } }

/-- Section 3.4: usable is 100 on channel 0 and 46 on the others. -/
theorem test_usable_blocks : allowances.usable 0 = 100 ∧ allowances.usable 1 = 46 ∧ allowances.usable 2 = 46
    ∧ allowances.usable 3 = 46 ∧ allowances.usable 7 = 46 := by decide +kernel

/-- Section 4.8: 127 symbols stored keep 2 of 3 blocks, and the third goes to the back of the free list. -/
theorem test_trailing_block_returns :
    let s := (withBoth id fun d => { d with state := .loading, length := 127, chain := [300, 301, 302] }).trimChain 0
    (s.desc 0).chain = [300, 301] ∧ s.store.free.getLast? = some 302 := by decide +kernel

/-- An area of 1,920 symbols (section 4.8). -/
def areaState : State := quiet.setArea 7 ⟨.ready, 100, 129, 1920, 1450, 0⟩

/-- Section 4.8: OPEN-BULLETIN of 2,000 symbols in area 7 has Lc 1,920, TRUNCATED, and the whole grant. -/
theorem test_bulletin_is_clamped : ((after (.openBulletin (7 :: toBe 2 2000)) areaState).loadUnit.current.map fun l =>
    (l.clamped, l.outstanding, l.truncated)) = some (1920, 1920, true) := by decide +kernel

/-- Section 4.8: ABANDON-LOAD gives the blocks back. -/
theorem test_abandon_frees : ((after (.abandonLoad []) loading).desc 0).state = .free
    ∧ (after (.abandonLoad []) loading).store.free.length = 770 := by decide +kernel

/-- Section 6.9: anchor 13:05 and period 360 minutes, from day 413, 14:00:00.000. -/
theorem test_next_due : Slot.earliest ⟨.enabled, 1, 47100000, 360, 0, 0, none⟩ 35733600000 = 35751900000 := by decide

/-- Section 6.9: slot 12's request on channel 1 has S 10:30 and D 37,860,150 of day 413. -/
def slotState : State :=
  (setClock (quiet.setSlot 12 ⟨.enabled, 0x26, 37800000, 1440, 9, 60000, some 35721000000⟩) 413 37800000).modChan 1
    fun c => { c with state := .faulted }

theorem test_occurrence_places_a_request :
    let t := after (.slotOccurrence 12) slotState
    (t.chan 1).requests.map (fun q => (q.due, q.deadline)) = [(35721000000, 35721060150)]
      ∧ (t.slot 12).nextDue = some 35807400000 := by decide +kernel

/-- Section 6.9: on the OFFLINE channel 5 the request is MISSED at once. -/
theorem test_occurrence_is_missed_offline :
    let t := after (.slotOccurrence 12) slotState
    (t.chan 5).stats.missed = 1 ∧ (t.chan 5).stats.overrun = 1 ∧ (t.chan 5).requests = [] := by decide +kernel

/-- The text of message 417 from index 212 (section 7.9), then letters. -/
def text417 : List Nat :=
  [22, 15, 18, 21, 26, 1, 34, 37, 36, 33, 1, 8, 11, 24, 26, 14, 1, 40, 2, 3] ++ List.replicate 20 7

/-- Section 7.9: the plan is 223 with cost 30; at r = 223 nothing fits a budget of 3. -/
theorem test_fit_case : planEnd text417 212 530 40 8 14 .figures (some 30) = some 223
    ∧ endCost text417 212 530 14 .figures 223 = 30 ∧ endCost text417 212 530 14 .figures 229 = 37
    ∧ planEnd (text417.drop 11) 223 530 40 8 0 .figures (some 3) = none := by decide +kernel

/-- Section 7.11: URGENT 60 (held), 61, 62 and ORDINARY 70, 71, with k given. -/
def urgentRunState (k : Nat) : State :=
  let s := withChan fun c => { c with urgentQ := [60, 61, 62], ordinaryQ := [70, 71], urgentRun := k,
                                      holds := [⟨22001, .running, 0, 9⟩] }
  s.modDesc 60 fun d => { d with dest := 22001 }

/-- Section 7.11: decision 1 starts 61, and at k = 3 decision 2 takes ORDINARY 70. -/
theorem test_urgent_run : (urgentRunState 2).chooseNew 0 = some 61 ∧ (urgentRunState 3).chooseNew 0 = some 70 := by
  decide +kernel

/-- R139: ready present, a STANDBY channel with a relay enters ON-AIR at OPEN-CHANNEL and begins the relay. -/
theorem test_open_channel_keys_a_relay :
    let s := (withBoth (fun c => { c with ready := true, relayQ := [0] })
      fun d => { d with state := .ready, cls := .relay, length := 3, chain := [300] })
    ((after (.openChannel [0]) s).chan 0).state = .onAir ∧ ((after (.openChannel [0]) s).chan 0).item = .relay 0 := by
  decide +kernel

/-- A channel on the air that keys the last symbol of a confirmed message: it goes to the sent list with its timer
(R18, R67, R69). -/
def lastSymbol : State :=
  (withBoth (fun c => { c with state := .onAir, ready := true, active := some 0, item := .segment 0 0 1 none,
                               lineCase := .letters, symbolEnd := 100 })
    fun d => { d with state := .active, cls := .ordinary, length := 1, chain := [300], confirm := true })

theorem test_last_symbol_starts_the_ack_timer :
    let t := after (.lineSymbolCompletes 0) { lastSymbol with clock := ⟨0, 100, false, true, 100⟩ }
    (t.desc 0).state = .awaitAck ∧ (t.desc 0).ackDue = some 300100 ∧ (t.chan 0).sent = [0] ∧ (t.chan 0).active = none
      ∧ (t.chan 0).item = .idle := by decide +kernel

/-- Section 9.8: the body H, H, 3, 0, SPACE, N, O, W is a HOLD of 30 seconds. -/
theorem test_hold_form : callForm [14, 14, 36, 33, 1, 20, 21, 29] = some (.hold 30) := by decide

/-- Section 9.3: H, H and four digits, H, H and no digits, and K, K with four digits are no form. -/
theorem test_departing_forms : callForm [14, 14, 34, 34, 34, 34] = none ∧ callForm [14, 14] = none
    ∧ callForm [17, 17, 34, 34, 34, 34] = none ∧ callForm [24, 24, 33, 34, 35, 36, 37, 2, 9] = some (.deliver .repeat 1234) :=
  by decide

/-- Section 9.8: the second copy 0, 4, 4, 7 rejects the call of ship 4,412. -/
theorem test_second_copy_differs :
    ((⟨.ident, 7, [33, 37, 37, 34, 35, 33, 37, 37], 0, [], false⟩ : Parser).symbol 6 3 40 false).1.state = .skip := by
  decide

/-- Section 9.8: the last digit of the third copy completes identity 4,412. -/
theorem test_identity_completes :
    ((⟨.ident, 7, [33, 37, 37, 34, 35, 33, 37, 37, 34, 35, 33, 37, 37, 34], 0, [], false⟩ : Parser).symbol 6 3 35 false).1.ident
      = 4412 := by decide

/-- Section 9.8: at elapsed 5,050,000 a hold that ends at 5,123,300 has 74 seconds left. -/
theorem test_remaining_seconds :
    State.remaining { quiet with clock := ⟨0, 0, false, true, 5050000⟩ } ⟨22001, .running, 0, 5123300⟩ = 74 := by
  decide +kernel

/-- Some notices that wait on the link. -/
def notices (n : Nat) : List Machine.Record := List.replicate n (.notice ⟨.day, none, 0, []⟩)

/-- The link of section 10.8 with some notices queued and a pending loss. -/
def lossyLink (n loss : Nat) : Machine.Link :=
  { State.reset.link with output := notices n, pendingLoss := loss, noticesLost := 3 }

/-- Section 10.8, step 3: the one free place goes to NOTICES-LOST, and the notice that brought it is lost. -/
theorem test_one_free_place : let k := (lossyLink 63 3).offer 0 ⟨.hold, some 0, 0, []⟩
    k.queued = 64 ∧ k.pendingLoss = 1 ∧ k.noticesLost = 4 := by decide +kernel

/-- Section 10.8, step 5: with two places free both notices are queued. -/
theorem test_two_free_places : let k := (lossyLink 62 1).offer 0 ⟨.keyed, some 0, 0, []⟩
    k.queued = 64 ∧ k.pendingLoss = 0 ∧ k.noticesLost = 3 := by decide +kernel

/-- Section 10.8, steps 3 and 4: with a reply waiting, CANCEL joins a buffer of three and is dropped by a buffer of four. -/
def buffered (n : Nat) : State :=
  { State.reset with link := { State.reset.link with
    output := [.reply 0x13 (.refuse .notFound)], buffer := List.replicate n ⟨0x13, [0]⟩ } }

theorem test_buffer_of_four : (after (.cancel [0]) (buffered 3)).link.buffer.length = 4
    ∧ (after (.cancel [0]) (buffered 4)).link.buffer.length = 4
    ∧ (after (.cancel [0]) (buffered 4)).link.bufferFull = 1 := by decide +kernel

/-- Section 10.8, steps 5 and 6: at the end of the frame on the line, reply A begins and B is taken. -/
theorem test_frame_end_takes_the_next :
    let t := after .frameTransmitEnd (buffered 4)
    t.link.buffer.length = 3 ∧ t.link.replyWaits = true := by decide +kernel

/-- R2: the day rolls over at midnight. -/
theorem test_midnight : (after .midnightRollover (setClock quiet 7 86399999)).clock = ⟨8, 0, true, true, 1001⟩ := by
  decide +kernel

/-! ### Witnesses: states and operands that meet the hypotheses of each statement, clause by clause -/

theorem meets_FrontCommandRuns : ({ quiet with pending := [.ping [], .readClock []] } : State).pending
    = .ping [] :: [.readClock []] := rfl

theorem meets_IdleMillisecondPasses : quiet.pending = [] ∧ quiet.dueEvents = [] ∧ quiet.outbox = []
    ∧ quiet.clock.beforeMidnight = false := by decide +kernel

/-- A RESTART taken, its ACCEPT on the line. -/
def restartingState : State :=
  { quiet with link := { quiet.link with restarting := true, sending := some (.reply 0x02 (.accept [])) } }

/-- A frame on the line, some records behind it, and a RESTART at the head of the buffer. -/
def restartWaits (out : List Machine.Record) : State :=
  { State.reset with link := { State.reset.link with output := out, buffer := [⟨0x02, []⟩, ⟨0x13, [0]⟩] } }

theorem meets_RestartTaken : quiet.takesAtOnce ∧ State.reset.takesAtOnce
    ∧ ((restartWaits []).link.restarting = false ∧ (restartWaits []).link.sending.isSome = true
      ∧ (restartWaits []).link.buffer = ⟨0x02, []⟩ :: [⟨0x13, [0]⟩]
      ∧ (∀ n ∈ (restartWaits []).link.output.tail, n.isNotice = true)
      ∧ ∀ n ∈ (restartWaits (.reply 0x13 (.refuse .notFound) :: notices 2)).link.output.tail, n.isNotice = true)
    ∧ restartingState.link.restarting = true := by
  decide +kernel

theorem meets_RestartCompletes : restartingState.link.restarting = true ∧ restartingState.link.output = []
    ∧ restartingState.link.sending = some (.reply 0x02 (.accept []))
    ∧ ∃ u, exec .powerOnReset restartingState = .next u := ⟨rfl, rfl, rfl, _, rfl⟩

theorem meets_FrameEndBeginsNext :
    let two : Machine.Link := { (buffered 1).link with output := notices 1 ++ (buffered 1).link.output }
    State.reset.link.restarting = false ∧ State.reset.link.sending.isSome = true ∧ State.reset.link.buffer = []
    ∧ two.restarting = false ∧ two.sending.isSome = true ∧ (∃ n ∈ two.output.tail, n.isNotice = false)
    ∧ (buffered 1).link.restarting = false ∧ (buffered 1).link.sending.isSome = true
    ∧ (∀ n ∈ (buffered 1).link.output.tail, n.isNotice = true) ∧ (buffered 1).link.buffer = ⟨0x13, [0]⟩ :: []
    ∧ (buffered 4).link.buffer = ⟨0x13, [0]⟩ :: List.replicate 3 ⟨0x13, [0]⟩ ∧ quiet.takesAtOnce := by decide +kernel

/-- A RESTART taken while STARTED is on the line. -/
theorem meets_FrameEndBeginsNext_restart : let k := (after (.restart []) State.reset).link
    k.restarting = true ∧ k.sending.isSome = true ∧ k.output = [.reply 0x02 (.accept [])] := by decide +kernel

theorem meets_BufferTakesFourFrames : (buffered 0).link.restarting = false ∧ (buffered 0).link.replyWaits = true
    ∧ (buffered 3).link.buffer ≠ [] ∧ (buffered 3).link.buffer.length = 3 ∧ (buffered 4).link.buffer.length = 4 := by
  decide +kernel

theorem meets_FramesSpellCommands : longBody.tail.length = 512 ∧ quiet.link.rx.phase = .hunt
    ∧ quiet.link.restarting = false := by decide +kernel

theorem meets_FaultyFramesAreDiscarded : quiet.link.rx.phase = .hunt ∧ quiet.link.restarting = false
    ∧ (0xA4 : Byte) ≠ 0xA5 ∧ 512 < 513 ∧ longBody.tail.length ≤ 512 ∧ ([0, 0] : Body).length = 2
    ∧ be [0, 0] ≠ (crc (frameCore 0x01 [])).toNat := by decide +kernel

/-- A frame in reception whose last byte came at elapsed time 0. -/
def inFrame (elapsed : Nat) : State :=
  { quiet with clock := ⟨0, elapsed, false, true, elapsed⟩, link := { quiet.link with rx := ⟨.length, [], [], 0⟩ } }

theorem meets_GapRule : quiet.link.restarting = false ∧ quiet.link.rx.phase = .hunt
    ∧ (inFrame 50).link.restarting = false ∧ (inFrame 50).clock.elapsed ≤ (inFrame 50).link.rx.lastAt + 50
    ∧ (inFrame 51).link.rx.phase ≠ .hunt ∧ (inFrame 51).link.rx.lastAt + 50 < (inFrame 51).clock.elapsed
    ∧ ∃ t, exec (.officeLinkByte 0) (inFrame 51) = .next t ∧ t.link.rx.phase ≠ .hunt :=
  ⟨by decide +kernel, by decide +kernel, by decide +kernel, by decide +kernel, by decide +kernel, by decide +kernel,
    _, rfl, by decide +kernel⟩

theorem meets_FormIsJudged : quiet.takesAtOnce ∧ isCommandKind 0x00 = false ∧ isCommandKind 0x2C = false
    ∧ fixedSize 0x01 = some 0 ∧ ([0] : Body).length ≠ 0 ∧ fixedSize 0x1E = some 18 ∧ ([] : Body).length = 0
    ∧ 256 < longBody.length ∧ ([0, 1, 0] : Body).length < 4
    ∧ ([0, 1, 1, 0, 0] : Body).length ≠ 4 + 2 * (([0, 1, 1, 0, 0] : Body).getD 2 0).toNat := by decide +kernel

theorem meets_NumbersAreJudged : quiet.takesAtOnce ∧ fixedSize 0x1D = some (([] : Body).length + 1)
    ∧ 7 < (8 : Byte).toNat ∧ fixedSize 0x17 = some (([] : Body).length + 1) ∧ 63 < (64 : Byte).toNat
    ∧ fixedSize 0x0E = some (([0, 1] : Body).length + 1) ∧ 31 < (32 : Byte).toNat
    ∧ fixedSize 0x27 = some (([] : Body).length + 1) ∧ 3 < (4 : Byte).toNat := by decide +kernel

theorem meets_EachCommandHasOneReply : quiet.takesAtOnce ∧ ([0] : Body) ≠ []
    ∧ ∃ t, exec (commandOf 0x10 []) quiet = .next t
      ∧ t.link.formed = quiet.link.formed ++ Record.reply 0x10 (.refuse .noLoad) :: [] :=
  ⟨by decide +kernel, by decide, _, rfl, by decide +kernel⟩

/-- The last millisecond of a day, with some notices queued. -/
def atMidnight (day n loss : Nat) : State := { setClock quiet day 86399999 with link := lossyLink n loss }

theorem meets_MidnightRollsOver : let s := atMidnight 65534 63 0
    s.outbox = [] ∧ s.link.restarting = false ∧ s.clock.running = true ∧ s.clock.ms = 86399999 ∧ s.clock.day < 65535
      ∧ s.link.queued < 64 ∧ s.link.pendingLoss = 0 ∧ s.link.categories.getLsbD 5 = true := by decide +kernel

theorem meets_ClockStopsAndItsNoticeIsJudged : let s := atMidnight 65535
    (s 0 0).outbox = [] ∧ (s 0 0).link.restarting = false ∧ (s 0 0).clock.running = true ∧ (s 0 0).clock.day = 65535
      ∧ (s 0 0).clock.ms = 86399999
      ∧ ({ s 0 0 with link := { (s 0 0).link with categories := 0x5F } } : State).link.categories.getLsbD 5 = false
      ∧ (s 64 0).link.categories.getLsbD 5 = true ∧ 64 ≤ (s 64 0).link.queued
      ∧ (s 63 0).link.queued < 64 ∧ (s 63 0).link.pendingLoss = 0
      ∧ (s 62 1).link.queued < 63 ∧ 0 < (s 62 1).link.pendingLoss
      ∧ (s 63 1).link.queued = 63 ∧ 0 < (s 63 1).link.pendingLoss := by decide +kernel

theorem meets_PartAndClockReports : quiet.takesAtOnce := by decide +kernel

theorem meets_MasksAndLinkCounts : quiet.takesAtOnce ∧ (127 : Byte).toNat < 128 ∧ ¬(128 : Byte).toNat < 128
    ∧ 1 < (2 : Byte).toNat := by decide +kernel

/-- An entry of slot 0. -/
def slotEntry (st : SlotState) (due : Option Nat) : State :=
  setClock (quiet.setSlot 0 ⟨st, 1, 0, 1440, 3, 0, due⟩) 0 0

theorem quiet_desc (h : Handle) : quiet.desc h = Descriptor.reset := by simp [State.desc, vget, quiet, State.reset]

theorem quiet_chan (c : ChannelNo) : quiet.chan c = Channel.reset false := by simp [State.chan, vget, quiet, State.reset]

/-- Every other descriptor and channel stands as after reset. -/
theorem both_desc {f : Channel → Channel} {g : Descriptor → Descriptor} (h : Handle) (hh : h ≠ 0) :
    (withBoth f g).desc h = Descriptor.reset := by
  simp [withBoth, withChan, hh, quiet_desc]

theorem both_chan {f : Channel → Channel} {g : Descriptor → Descriptor} (c : ChannelNo) (hc : c ≠ 0) :
    (withBoth f g).chan c = Channel.reset false := by
  simp [withBoth, withChan, hc, quiet_chan]

/-- Descriptor 0 is the only one in use, it belongs to channel 0, and the lists hold what its state asks. -/
theorem places_one {s : State} (hd : ∀ h, h ≠ 0 → s.desc h = Descriptor.reset)
    (hc : ∀ c, c ≠ 0 → s.chan c = Channel.reset false)
    (h4 : ∀ c h, (∃ l, s.loadUnit.current = some l ∧ l.target = .telex h c)
      ↔ (s.desc h).channel = c ∧ (s.desc h).state = .loading)
    (h0 : let d := s.desc 0
      let ch := s.chan 0
      let here (k : MsgClass) : List Handle :=
        if d.cls = k ∧ (d.state = .ready ∨ d.state = .suspended ∨ k = .relay ∧ d.state = .active) then [0] else []
      (d.channel = 0 ∧ d.state ≠ .free
        ∧ (d.cls = .relay → d.state ∉ [.suspended, .parked, .awaitAck, .unconfirmed]))
      ∧ (ch.relayQ = here .relay ∧ ch.urgentQ = here .urgent ∧ ch.ordinaryQ = here .ordinary)
      ∧ ch.active = (if d.cls ≠ .relay ∧ (d.state = .active ∨ d.state = .parked) then some 0 else none)
      ∧ ch.sent = if d.state = .awaitAck ∨ d.state = .unconfirmed then [0] else []) : s.placesOk := by
  obtain ⟨⟨g1, g2, g3⟩, ⟨q1, q2, q3⟩, ga, gs⟩ := h0
  refine ⟨fun c k h => ?_, fun c h => ?_, fun c h => ?_, h4, fun c => ⟨fun k => ?_, ?_⟩, fun h hk => ?_, fun h hf => ?_,
    fun g h gh hg hh => ?_⟩
  · by_cases e : c = 0 <;> by_cases e' : h = 0
    · subst e e'
      cases k
      all_goals
        simp only [Channel.queue, q1, q2, q3]
        split <;> simp_all
    · subst e
      cases k <;> simp only [Channel.queue, q1, q2, q3] <;> split <;> simp [hd h e', e', Descriptor.reset]
    · subst e'
      have : (s.desc 0).channel ≠ c := fun hc' => e (hc' ▸ g1)
      cases k <;> simp [hc c e, Channel.reset, Channel.queue, this]
    · cases k <;> simp [hc c e, hd h e', Channel.reset, Channel.queue, Descriptor.reset]
  · by_cases e : c = 0 <;> by_cases e' : h = 0
    · subst e e'
      rw [ga]
      split <;> simp_all
    · subst e
      rw [ga]
      split <;> simp [hd h e', eq_comm, e', Descriptor.reset]
    · subst e'
      have : (s.desc 0).channel ≠ c := fun hc' => e (hc' ▸ g1)
      simp [hc c e, Channel.reset, this]
    · simp [hc c e, hd h e', Channel.reset, Descriptor.reset]
  · by_cases e : c = 0 <;> by_cases e' : h = 0
    · subst e e'
      rw [gs]
      split <;> simp_all
    · subst e
      rw [gs]
      split <;> simp [hd h e', e', Descriptor.reset]
    · subst e'
      have : (s.desc 0).channel ≠ c := fun hc' => e (hc' ▸ g1)
      simp [hc c e, Channel.reset, this]
    · simp [hc c e, hd h e', Channel.reset, Descriptor.reset]
  · by_cases e : c = 0
    · subst e
      cases k <;> simp only [Channel.queue, q1, q2, q3] <;> split <;> simp
    · cases k <;> simp [hc c e, Channel.reset, Channel.queue]
  · by_cases e : c = 0
    · subst e
      rw [gs]
      split <;> simp
    · simp [hc c e, Channel.reset]
  · by_cases e' : h = 0
    · subst e'
      exact g3 hk
    · simp [hd h e', Descriptor.reset]
  · by_cases e' : h = 0
    · subst e'
      exact absurd hf g2
    · simp [hd h e', Descriptor.reset]
  · by_cases e : g = 0 <;> by_cases e' : h = 0
    · exact absurd (e.trans e'.symm) gh
    · simp [hd h e', Descriptor.reset] at hh
    · simp [hd g e, Descriptor.reset] at hg
    · simp [hd g e, Descriptor.reset] at hg

/-- No load is open and no message is LOADING. -/
theorem no_load {s : State} (hd : ∀ h, h ≠ 0 → s.desc h = Descriptor.reset) (hl : s.loadUnit.current = none)
    (h0 : (s.desc 0).state ≠ .loading) (c : ChannelNo) (h : Handle) :
    (∃ l, s.loadUnit.current = some l ∧ l.target = .telex h c)
      ↔ (s.desc h).channel = c ∧ (s.desc h).state = .loading := by
  by_cases e : h = 0
  · subst e
    simp [hl, h0]
  · simp [hl, hd h e, Descriptor.reset]

/-- A READY message of channel 0 that expires at station time 5. -/
def queuedExpiring : State :=
  (withBoth (fun c => { c with ordinaryQ := [0] })
    fun d => { d with state := .ready, cls := .ordinary, length := 3, chain := [300], expiry := some 5 })

theorem queuedExpiring_places : queuedExpiring.placesOk :=
  places_one both_desc both_chan (no_load both_desc rfl (by decide +kernel)) (by decide +kernel)

/-- A channel 0 with one request due at 0, D being 9, and a slot 0 that names it. -/
def clockSet (st : ChanState) (qs : List Request) : State :=
  (slotEntry .enabled (some 86400000)).modChan 0 fun c => { c with state := st, requests := qs }

theorem meets_SetClockSetsTheClock : let s := slotEntry .enabled (some 86400000)
    let q : Request := ⟨1, 3, 0, 9, .waiting, 0, none⟩
    (s.takesAtOnce ∧ 65535 ≤ 65535 ∧ 86400000 < 2 ^ 32 ∧ 86399999 < 86400000 ∧ 86399999 ≤ 86399999
      ∧ (s.slot 1).state ≠ .enabled ∧ (s.slot 0).state = .enabled
      ∧ 413 * 86400000 + 86399999 < (s.slot 0).earliest (413 * 86400000 + 86399999)
      ∧ (s.slot 0).earliest (413 * 86400000 + 0) = 413 * 86400000 + 0 ∧ 0 < (s.slot 0).period)
    ∧ ((clockSet .faulted []).takesAtOnce ∧ inSet ((clockSet .faulted []).slot 0).channels 0 = true
      ∧ (∀ j, j ≠ 0 → ((clockSet .faulted []).slot j).state ≠ .enabled) ∧ ((clockSet .faulted []).chan 0).requests = []
      ∧ ((clockSet .faulted []).chan 0).state ∈ [.keyUp, .onAir, .closing, .faulted])
    ∧ (queuedExpiring.takesAtOnce ∧ queuedExpiring.placesOk ∧ (queuedExpiring.desc 0).state = .ready
      ∧ (queuedExpiring.desc 0).firstKeyed = none ∧ (queuedExpiring.desc 0).expiry = some 5 ∧ 5 < 0 * 86400000 + 6)
    ∧ (q ∈ ((clockSet .standby [q]).chan 0).requests
      ∧ (∀ j, ((clockSet .standby [q]).slot j).state = .enabled → 0 < ((clockSet .standby [q]).slot j).period)
      ∧ 0 < ((clockSet .standby [q]).chan 0).settings.period ∧ q.state = .waiting ∧ q.deadline ≤ 0 * 86400000 + 9
      ∧ ((clockSet .closing [q]).chan 0).state ∈ [.onAir, .closing]
      ∧ ((clockSet .keyUp [q]).chan 0).state ∈ [.keyUp, .faulted] ∧ 0 * 86400000 + 8 < q.deadline
      ∧ ∀ p ∈ ((clockSet .keyUp [q]).chan 0).requests, p.slot = q.slot → p.due = q.due → p = q) := by
  refine ⟨by decide +kernel, by decide +kernel, ⟨by decide +kernel, queuedExpiring_places, ?_⟩, ?_⟩ <;> decide +kernel

/-- A descriptor 0 in a state, with one block. -/
def message (st : MsgState) (k : MsgClass) : State :=
  withBoth id fun d => { d with state := st, cls := k, number := 7, length := 3, chain := [300] }

theorem meets_SetSplitMovesTheBoundary :
    let reserves (s : State) := (allChannels.map fun c => (s.chan c).reserve).sum
    quiet.takesAtOnce ∧ 512 < 513 ∧ areaState.takesAtOnce ∧ (areaState.area 7).state ≠ .undefined
      ∧ loading.loadUnit.current ≠ none ∧ ((message .ready .urgent).desc 0).chain ≠ []
      ∧ ¬((∃ a, (quiet.area a).state ≠ .undefined) ∨ quiet.loadUnit.current ≠ none ∨ ∃ h, (quiet.desc h).chain ≠ [])
      ∧ 1024 - 512 < reserves (withChan fun c => { c with reserve := 513 })
      ∧ reserves (withChan fun c => { c with reserve := 512 }) ≤ 1024 - 512 := by decide +kernel

/-- Area 1 defined over the last block below the split. -/
def lastBlock : State := quiet.setArea 1 ⟨.empty, 255, 255, 64, 0, 0⟩

theorem meets_AreasAreDefinedAndCleared :
    quiet.takesAtOnce ∧ lastBlock.takesAtOnce ∧ ¬(1 ≤ 0) ∧ ¬(256 < quiet.store.split)
      ∧ ¬(256 - 0 < 256) ∧ (0 ≤ 255 ∧ 255 < quiet.store.split ∧ 255 - 0 < 256)
      ∧ 0 < ((quiet.setArea 0 ⟨.ready, 0, 0, 64, 1, 1⟩).area 0).onAir
      ∧ ¬(0 < (quiet.area 0).onAir) ∧ quiet.loadUnit.current = none
      ∧ ((1 : AreaNo) ≠ 0 ∧ (lastBlock.area 1).state ≠ .undefined ∧ (lastBlock.area 1).first ≤ 255
        ∧ 0 ≤ (lastBlock.area 1).last)
      ∧ ¬(∃ b : AreaNo, b ≠ 0 ∧ (quiet.area b).state ≠ .undefined) := by decide +kernel

theorem meets_AllowanceAndGrainAreSet :
    let others (s : State) := (allChannels.map fun d => if d = 0 then 0 else (s.chan d).reserve).sum
    quiet.takesAtOnce ∧ ¬(1 ≤ 0) ∧ ¬(769 ≤ 1024 - quiet.store.split)
      ∧ (768 ≤ 768 ∧ 768 ≤ 1024 - quiet.store.split ∧ 768 + others quiet ≤ 1024 - quiet.store.split)
      ∧ ¬(768 + others (quiet.modChan 1 fun c => { c with reserve := 1 }) ≤ 768)
      ∧ (65 ≠ 64 ∧ 65 ≠ 128 ∧ 65 ≠ 256) := by decide +kernel

theorem meets_ReadStoreReports : quiet.takesAtOnce := by decide +kernel

/-- An open load of Lc 100 into descriptor 0, channel 0. -/
def telexLoad (received outstanding stored : Nat) (waiting : Bool) : State :=
  { withBoth id (fun d => { d with state := .loading, cls := .ordinary, number := 7 }) with
    loadUnit := ⟨some ⟨.telex 0 0, 100, received, outstanding, stored, 0, 0, false, waiting⟩, 128⟩ }

/-- The same with a waiting grant that nothing of the pool can serve. -/
def starved : State :=
  { telexLoad 0 0 0 true with store := { quiet.store with free := [] } }

/-- An open load of Lc 100 into area 7. -/
def areaLoad (received outstanding stored : Nat) : State :=
  { quiet.setArea 7 ⟨.loading, 100, 129, 1920, 0, 0⟩ with
    loadUnit := ⟨some ⟨.bulletin 7, 100, received, outstanding, stored, 0, 0, false, false⟩, 128⟩ }

theorem meets_WaitingGrantIsJudged :
    let blocks := (0 + min 128 (100 - 0) + 63) / 64
    ((telexLoad 0 0 0 true).loadUnit.current.map (·.waiting)) = some true ∧ blocks ≤ (telexLoad 0 0 0 true).usable 0
      ∧ ¬(blocks ≤ starved.usable 0) ∧ quiet.loadUnit.current = none
      ∧ ((telexLoad 0 100 0 false).loadUnit.current.map (·.waiting)) = some false
      ∧ ((areaLoad 0 100 0).loadUnit.current.map (·.target)) = some (.bulletin 7) := by decide +kernel

/-- A declaration on channel 0. -/
def declared (number dest length : Nat) (expiry : Option (Nat × Nat)) : Declaration :=
  ⟨some 0, number, dest, .ordinary, length, expiry, true⟩

/-- Every descriptor in use, for other numbers. -/
def fullTable : State := { quiet with descs := Vector.replicate 256 { Descriptor.reset with state := .ready } }

theorem fits_declared {n dest l : Nat} (h1 : n ≤ 65535) (h2 : dest < 16777216) (h3 : l ≤ 65535) :
    (declared n dest l none).fits ∧ (declared n dest l (some (65535, 86400000))).fits := by
  refine ⟨⟨h1, h2, h3, fun e he => by simp [declared] at he⟩, h1, h2, h3, fun e he => ?_⟩
  cases he
  decide

theorem meets_DeclareMessageOpensALoad :
    (declared 0 1 1 none).fits ∧ (declared 1 100000 1 none).fits ∧ (declared 1 1 0 none).fits
      ∧ (declared 1 1 1 (some (65535, 86400000))).fits ∧ (declared 7 99999 65535 none).fits
      ∧ quiet.takesAtOnce ∧ (declared 1 1 1 none).channel = some 0 ∧ 99999 < 100000 ∧ 86399999 < 86400000
      ∧ loading.takesAtOnce ∧ loading.loadUnit.current ≠ none ∧ quiet.clock.isSet = false
      ∧ (setClock quiet 0 0).clock.isSet = true
      ∧ ((message .ready .urgent).desc 0).state ≠ .free ∧ ((message .ready .urgent).desc 0).channel = 0
      ∧ ((message .ready .urgent).desc 0).number = (declared 7 1 1 none).number
      ∧ (∀ g, (fullTable.desc g).state ≠ .free) ∧ (∀ g, (fullTable.desc g).number ≠ 7)
      ∧ ((message .ready .urgent).desc 1).state = .free ∧ ((message .ready .urgent).desc 1).chain = []
      ∧ (∀ g : Handle, g < 1 → ((message .ready .urgent).desc g).state ≠ .free)
      ∧ let body (i : Nat) (b : Byte) : Body := (List.replicate 17 0).set i b
        (body 0 8).length = 17 ∧ (body 16 2).length = 17 ∧ 7 < ((body 0 8).getD 0 0).toNat ∧ 2 < ((body 6 3).getD 6 0).toNat
          ∧ 1 < ((body 9 2).getD 9 0).toNat ∧ 1 < ((body 16 2).getD 16 0).toNat :=
  ⟨(fits_declared (by decide) (by decide) (by decide)).1, (fits_declared (by decide) (by decide) (by decide)).1,
    (fits_declared (by decide) (by decide) (by decide)).1, (fits_declared (by decide) (by decide) (by decide)).2,
    (fits_declared (by decide) (by decide) (by decide)).1, by decide +kernel⟩

theorem meets_OpenBulletinGrantsTheWholeLength : quiet.takesAtOnce ∧ (areaState.area 7).state = .ready
    ∧ areaState.loadUnit.current = none ∧ (areaState.area 7).onAir = 0 := by decide +kernel

theorem meets_TextCleansAndStores : Memory.wf ([] : Memory) = true
    ∧ ∀ i j, i < j → j < 3 → id (0 + i) ≠ id (0 + j) := ⟨rfl, fun i j h _ => by simp; omega⟩

/-- The reset state with the first pool block in the chain of descriptor 0. -/
def oneBlock : State :=
  { withBoth id (fun d => { d with chain := [256] }) with store := { quiet.store with free := (poolBlocks 256).tail } }

theorem meets_TextCleansAndStores_addresses : oneBlock.blocksOk ∧ (oneBlock.desc 0).chain[63 / 64]? = some 256
    ∧ 63 < 64 * (oneBlock.desc 0).chain.length ∧ ((0, 63) : Handle × Nat) ≠ (0, 0)
    ∧ (oneBlock.area 0).first + 16383 / 64 < oneBlock.store.split := by
  have h : oneBlock.descs.toList.flatMap (·.chain) = [256] := by decide +kernel
  have hf : 256 :: oneBlock.store.free = poolBlocks oneBlock.store.split := by decide +kernel
  refine ⟨⟨?_, by decide +kernel⟩, ?_⟩
  · rw [h, ← hf]
    exact List.perm_append_comm
  · decide +kernel

theorem meets_TextIsTakenWithinCredit :
    let blocks (s : State) := (20 + min s.loadUnit.grain (100 - 20) + 63) / 64 - (s.desc 0).chain.length
    let tight : State := { telexLoad 0 20 0 false with store := { quiet.store with free := [] } }
    quiet.takesAtOnce ∧ quiet.loadUnit.current = none
    ∧ loading.takesAtOnce ∧ (areaLoad 0 100 0).takesAtOnce
    ∧ (loading.loadUnit.current.map fun l => decide (l.outstanding < 21)) = some true
    ∧ (loading.loadUnit.current.map fun l => decide (19 < l.outstanding ∧ l.received + 19 ≠ l.clamped)) = some true
    ∧ (loading.loadUnit.current.map fun l => decide (20 = l.outstanding ∧ l.received + 20 ≠ l.clamped)) = some true
    ∧ (loading.loadUnit.current.map (·.target)) = some (.telex 0 0) ∧ blocks loading ≤ loading.usable 0
    ∧ tight.takesAtOnce ∧ (tight.loadUnit.current.map fun l => decide (20 = l.outstanding ∧ l.received + 20 ≠ l.clamped))
      = some true
    ∧ tight.usable 0 < blocks tight
    ∧ ((areaLoad 0 100 0).loadUnit.current.map fun l => decide (99 < l.outstanding ∧ l.received + 99 ≠ l.clamped))
      = some true
    ∧ ((areaLoad 0 100 0).loadUnit.current.map (·.target)) = some (.bulletin 7) := by decide +kernel

theorem meets_LoadsComplete : let s := telexLoad 98 2 98 false
    let u := setClock (s.modDesc 0 fun d => { d with expiry := some 5, cls := .relay }) 0
    (s.takesAtOnce ∧ (areaLoad 98 2 98).takesAtOnce
      ∧ (s.loadUnit.current.map fun l => decide (2 ≤ l.outstanding ∧ l.received + 2 = l.clamped)) = some true
      ∧ ((areaLoad 98 2 0).loadUnit.current.map fun l => decide (2 ≤ l.outstanding ∧ l.received + 2 = l.clamped)) = some true
      ∧ (s.desc 0).channel = 0 ∧ (s.desc 0).cls ≠ .relay ∧ (s.desc 0).expiry = none
      ∧ 0 < (storeText (s.targetAddress (.telex 0 0)) s.store.cells 98 [7, 4]).2
      ∧ (storeText (s.targetAddress (.telex 0 0)) s.store.cells 0 [4, 6]).2 = 0)
    ∧ (u 6).takesAtOnce ∧ ((u 6).loadUnit.current.map fun l => decide (2 ≤ l.outstanding ∧ l.received + 2 = l.clamped))
      = some true
      ∧ ((u 6).desc 0).expiry = some 5 ∧ ((u 6).desc 0).firstKeyed = none ∧ 5 < (u 6).now ∧ (u 5).now ≤ 5
      ∧ ((u 6).desc 0).cls = .relay := by decide +kernel

theorem meets_AbandonLoadEndsTheLoad : quiet.takesAtOnce ∧ quiet.loadUnit.current = none ∧ loading.takesAtOnce
    ∧ (loading.loadUnit.current.map (·.target)) = some (.telex 0 0)
    ∧ ((areaLoad 0 100 0).loadUnit.current.map (·.target)) = some (.bulletin 7) := by decide +kernel

theorem meets_MessagesAndQueuesAreReported : quiet.takesAtOnce ∧ 4 < (5 : Byte).toNat ∧ (quiet.desc 0).state = .free
    ∧ quiet.loadUnit.current = none ∧ ((message .ready .urgent).desc 0).state ≠ .free
    ∧ (message .ready .urgent).loadUnit.current = none ∧ (loading.desc 0).state ≠ .free
    ∧ (loading.loadUnit.current.map (·.target)) = some (.telex 0 0) := by decide +kernel

/-- A channel 0 that keys a segment of message 0. -/
def segmentBase (cancel : Bool) : State :=
  withBoth (fun c => { c with state := .onAir, ready := true, active := some 0, item := .segment 0 0 3 none })
    fun d => { d with state := .active, cls := .urgent, number := 7, length := 3, chain := [300],
                      cancelRequested := cancel }

/-- The same, with the text A SPACE B, whose following word boundary is 2. -/
def segmentState (cancel : Bool) : State :=
  { segmentBase cancel with store := { (segmentBase cancel).store with cells := [(19200, 7), (19201, 1), (19202, 8)] } }

theorem segmentState_desc {b : Bool} (h : Handle) (hh : h ≠ 0) : (segmentState b).desc h = Descriptor.reset := by
  have : (segmentState b).desc h = (segmentBase b).desc h := by simp only [segmentState, State.desc]
  rw [this]
  exact both_desc h hh

theorem segmentState_chan {b : Bool} (c : ChannelNo) (hc : c ≠ 0) : (segmentState b).chan c = Channel.reset false := by
  have : (segmentState b).chan c = (segmentBase b).chan c := by simp only [segmentState, State.chan]
  rw [this]
  exact both_chan c hc

theorem meets_CancelByState : quiet.takesAtOnce ∧ (quiet.desc 0).state = .free
    ∧ ((message .awaitAck .urgent).desc 0).state ∈ [.loading, .awaitAck, .unconfirmed]
    ∧ (((message .active .relay).desc 0).state = .active ∧ ((message .active .relay).desc 0).cls = .relay)
    ∧ ((message .parked .urgent).desc 0).state ∈ [.ready, .suspended, .parked]
    ∧ (segmentState false).takesAtOnce ∧ ((segmentState false).desc 0).state = .active
    ∧ ((segmentState true).desc 0).cancelRequested = true ∧ ((segmentState false).desc 0).cancelRequested = false
    ∧ ((segmentState false).chan 0).item = .segment 0 0 3 none
    ∧ followingBoundary ((segmentState false).textSymbol 0) 3 0 = some 2 ∧ 2 < 3
    ∧ (((segmentState false).modChan 0 fun c => { c with item := .marker (.message 0) .hold 1 }).chan 0).item
      = .marker (.message 0) .hold 1
    ∧ (((segmentState false).modChan 0 fun c => { c with item := .header 0 15 4 3 none }).chan 0).item
      = .header 0 15 4 3 none
    ∧ (((segmentState false).modChan 0 fun c => { c with item := .segment 0 0 2 none }).chan 0).item
      = .segment 0 0 2 none
    ∧ (followingBoundary ((segmentState false).textSymbol 0) 3 0).all (fun b => decide (2 ≤ b)) = true := by
  decide +kernel

theorem meets_DiscardAndRequeue : quiet.takesAtOnce ∧ (quiet.desc 0).state = .free
    ∧ ((message .parked .urgent).desc 0).state ∈ [.loading, .ready, .active, .parked, .suspended]
    ∧ ((message .awaitAck .urgent).desc 0).state = .awaitAck
    ∧ ((message .unconfirmed .urgent).desc 0).state = .unconfirmed := by decide +kernel

/-- An AWAIT-ACK message whose timer runs out at elapsed time 1,000. -/
def timed : State := withBoth id fun d => { d with state := .awaitAck, ackDue := some 1000 }

/-- A READY message, never keyed, that expires at station time 5. -/
def expiring (now : Nat) : State :=
  { withBoth id (fun d => { d with state := .ready, expiry := some 5 }) with clock := ⟨0, now, true, true, 1000⟩ }

theorem meets_MessageTimesRunOut : timed.outbox = [] ∧ (timed.desc 0).state = .awaitAck
    ∧ (timed.desc 0).ackDue = some 1000 ∧ 1000 ≤ (setClock timed 0 0).clock.elapsed ∧ timed.clock.elapsed < 1000
    ∧ (quiet.desc 0).state ≠ .awaitAck
    ∧ ((expiring 6).desc 0).state = .ready ∧ ((expiring 6).desc 0).firstKeyed = none
    ∧ ((expiring 6).desc 0).expiry = some 5 ∧ 5 < (expiring 6).now ∧ (expiring 5).now ≤ 5 := by decide +kernel

theorem meets_EarliestOccurrence : 0 < (⟨.enabled, 1, 86399999, 1, 0, 0, none⟩ : Slot).period := by decide

theorem meets_SetSlotWritesAnEntry : quiet.takesAtOnce ∧ (slotEntry .enabled (some 0)).takesAtOnce
    ∧ ¬((0 : Byte) ≠ 0) ∧ ¬(86400000 ≤ 86399999) ∧ ¬(1440 % 7 = 0) ∧ ¬(32 ≤ 31) ∧ ¬(1800001 ≤ 1800000)
    ∧ ((255 : Byte) ≠ 0 ∧ 86399999 ≤ 86399999 ∧ 1440 ≠ 0 ∧ 1440 % 1440 = 0 ∧ 31 ≤ 31 ∧ 1800000 ≤ 1800000)
    ∧ (quiet.slot 0).state = .empty ∧ ((slotEntry .enabled (some 0)).slot 0).state = .enabled := by decide +kernel

theorem meets_SlotsAreEnabledDisabledAndCleared : quiet.takesAtOnce ∧ (quiet.slot 0).state = .empty
    ∧ (slotEntry .disabled none).takesAtOnce ∧ ((slotEntry .disabled none).slot 0).state = .disabled
    ∧ (slotEntry .disabled none).clock.isSet = true ∧ 0 < ((slotEntry .disabled none).slot 0).period
    ∧ ((quiet.setSlot 0 ⟨.disabled, 1, 0, 1440, 3, 0, none⟩).slot 0).state ≠ .empty ∧ quiet.clock.isSet = false
    ∧ ((slotEntry .enabled (some 86400000)).slot 0).state = .enabled
    ∧ ((slotEntry .enabled (some 86400000)).slot 0).nextDue = some 86400000 := by decide +kernel

theorem meets_SlotEntriesAreReported : quiet.takesAtOnce ∧ (quiet.slot 0).state = .empty
    ∧ ((slotEntry .disabled none).slot 0).state = .disabled
    ∧ ((slotEntry .enabled (some 0)).slot 0).state = .enabled := by decide +kernel

/-- A request of slot `i` due at `due`, to be ended at `deadline`. -/
def request (i : SlotNo) (due deadline : Nat) : Request := ⟨i, 3, due, deadline, .waiting, 0, none⟩

/-- A STANDBY channel 0 with some requests. -/
def requestState (st : ChanState) (qs : List Request) : State := withChan fun c => { c with state := st, requests := qs }

theorem meets_OccurrencesPlaceRequests :
    (slotEntry .enabled (some 0)).outbox = [] ∧ ((slotEntry .enabled (some 0)).slot 0).nextDue = some 0
      ∧ 0 ≤ (slotEntry .enabled (some 0)).now ∧ ((slotEntry .disabled none).slot 0).state ≠ .enabled
      ∧ (slotEntry .enabled (some 1)).now < 1
      ∧ (quiet.chan 0).state = .offline
      ∧ ((requestState .standby [request 0 5 9]).chan 0).state ≠ .offline
      ∧ (∃ p ∈ ((requestState .standby [request 0 5 9]).chan 0).requests, p.slot = 0 ∧ p.due = 5)
      ∧ 4 ≤ ((requestState .standby [request 1 5 9, request 2 5 9, request 3 5 9, request 4 5 9]).chan 0).requests.length
      ∧ ¬(∃ p ∈ [request 1 5 9, request 2 5 9, request 3 5 9, request 4 5 9], p.slot = 0 ∧ p.due = 5)
      ∧ (∀ p ∈ [request 1 5 9], p.due < 5 ∨ p.due = 5 ∧ p.slot < 2)
      ∧ (∀ p ∈ [request 3 5 9].head?, 5 < p.due ∨ 5 = p.due ∧ 2 < p.slot)
      ∧ ¬(∃ p ∈ [request 1 5 9] ++ [request 3 5 9], p.slot = 2 ∧ p.due = 5) := by decide +kernel

theorem meets_UnkeyedDeadlinesEndRequests : let q := request 1 0 0
    let s (d : Nat) (st : ChanState) := requestState st [request 1 0 d]
    (s 0 .standby).outbox = [] ∧ q ∈ ((s 0 .standby).chan 0).requests ∧ q.state = .waiting
      ∧ (∀ p ∈ ((s 0 .standby).chan 0).requests, p.slot = q.slot → p.due = q.due → p = q)
      ∧ q.deadline ≤ (s 0 .standby).now ∧ ((s 0 .standby).chan 0).state ∈ [.standby, .keyUp, .faulted]
      ∧ (s 1 .standby).now < (request 1 0 1).deadline
      ∧ ((s 0 .onAir).chan 0).state ∈ [.offline, .onAir, .closing] := by decide +kernel

/-- R9, R94: while the clock is STOPPED, the next boundary is projected at the stopped value, and one millisecond later is
not reached; a running clock would reach it within one period. -/
theorem test_boundary_on_a_stopped_clock :
    let s := requestState .onAir [request 1 0 1]
    let stopped : State := { s with clock := { s.clock with running := false } }
    ((stopped.judgeBoundary 0).chan 0).requests = [request 1 0 1] ∧ ((s.judgeBoundary 0).chan 0).requests = [] := by
  decide +kernel

/-- A channel 0 on the air with an item. -/
def keying (it : Item) : State := (segmentState false).modChan 0 fun c => { c with item := it }

theorem meets_FollowingWordBoundary :
    let next (s : State) := followingBoundary (s.textSymbol 0) (s.desc 0).length (s.desc 0).resume
    ((keying (.segment 0 0 3 none)).chan 0).item = .segment 0 0 3 none ∧ next (keying (.segment 0 0 3 none)) = some 2
      ∧ 2 < 3 ∧ ((keying (.header 0 15 4 3 none)).chan 0).item = .header 0 15 4 3 none
      ∧ next (keying (.header 0 15 4 3 none)) = some 2 ∧ ((keying (.segment 0 0 2 none)).chan 0).item = .segment 0 0 2 none
      ∧ 2 ≤ 2 ∧ ((keying (.bulletin 1 0 3 0 none)).chan 0).item = .bulletin 1 0 3 0 none
      ∧ ((keying (.bulletin 1 0 3 0 (some 2))).chan 0).item = .bulletin 1 0 3 0 (some 2)
      ∧ ((keying (.relay 0)).chan 0).item = .relay 0 := by decide +kernel

theorem meets_KeyUpCausesAreJudged :
    let fits := (segmentState false).fitTest 0 0 0 false .letters
    let due := (segmentState false).modChan 0 fun c => { c with requests := [request 1 2900 9000] }
    (quiet.chan 0).state ≠ .standby
    ∧ ((requestState .standby []).chan 0).state = .standby ∧ (requestState .standby []).keyUpCause 0 = false
    ∧ (requestState .standby [request 1 0 0]).keyUpCause 0 = true
    ∧ ((requestState .standby [request 1 0 0]).chan 0).ready = false
    ∧ ((withChan fun c => { c with state := .standby, ready := true, requests := [request 1 0 0] }).chan 0).ready = true
    ∧ (withChan fun c => { c with state := .standby, ready := true, requests := [request 1 0 0] }).keyUpCause 0 = true
    ∧ (segmentState false).nextBulletin 0 = none ∧ fits.planned = some 3
    ∧ due.nextBulletin 0 = some 2900 ∧ (due.fitTest 0 0 0 false .letters).planned = some 3
    ∧ (due.fitTest 0 0 451 false .letters).planned = none := by decide +kernel

/-- The ranges of section 8.2, as the statement writes them. -/
abbrev settingsFit (p g u h q m n a k r : Nat) : Prop :=
  (20 ≤ p ∧ p ≤ 400) ∧ g ≤ 60000 ∧ (100 ≤ u ∧ u ≤ 5000) ∧ h ≤ 60000 ∧ (16 ≤ q ∧ q ≤ 512) ∧ (1 ≤ m ∧ m ≤ 512)
    ∧ (1 ≤ n ∧ n ≤ 8) ∧ a ≤ 3600 ∧ (4 ≤ k ∧ k ≤ 16) ∧ 2 ≤ r ∧ r ≤ 4

theorem meets_SetChannelReplacesTheSettings :
    (quiet.takesAtOnce ∧ (quiet.chan 0).state = .offline ∧ ((requestState .standby []).chan 0).state ≠ .offline)
      ∧ settingsFit 20 0 100 0 16 1 1 0 4 2 ∧ settingsFit 400 60000 5000 60000 512 512 8 3600 16 4
      ∧ ¬settingsFit 19 0 100 0 16 1 1 0 4 2 ∧ ¬settingsFit 401 60000 5000 60000 512 512 8 3600 16 4
      ∧ ¬settingsFit 20 0 100 0 16 1 1 0 4 5 := by
  refine ⟨by decide +kernel, ?_, ?_, ?_, ?_, ?_⟩ <;> decide

theorem meets_ChannelReports : quiet.takesAtOnce ∧ (quiet.chan 0).item = .noItem
    ∧ ((withChan fun c => { c with state := .onAir, item := .header 0 15 4 3 none }).chan 0).item = .header 0 15 4 3 none
    ∧ ((withChan fun c => { c with state := .onAir, item := .marker (.message 0) .hold 1 }).chan 0).item
      = .marker (.message 0) .hold 1
    ∧ ((withChan fun c => { c with state := .onAir, item := .relay 0 }).chan 0).item = .relay 0
    ∧ ((withChan fun c => { c with state := .onAir, item := .idle }).chan 0).item = .idle
    ∧ ((segmentState false).chan 0).item = .segment 0 0 3 none
    ∧ ((withChan fun c => { c with state := .onAir, item := .bulletin 1 0 3 0 none }).chan 0).item
      = .bulletin 1 0 3 0 none := by decide +kernel

theorem meets_ChannelsOpenAndRestore : quiet.takesAtOnce ∧ (quiet.chan 0).state = .offline
    ∧ ((requestState .standby []).chan 0).state ≠ .offline
    ∧ ((requestState .faulted []).chan 0).ready = false
    ∧ ((withChan fun c => { c with state := .faulted, ready := true }).chan 0).state = .faulted
    ∧ ((withChan fun c => { c with state := .faulted, ready := true }).chan 0).ready = true := by decide +kernel

/-- A PARKED message in the active slot of a STANDBY channel. -/
def parked : State :=
  withBoth (fun c => { c with state := .standby, active := some 0 }) fun d =>
    { d with state := .parked, cls := .urgent, length := 3, resume := 1, chain := [300] }

/-- Every channel but channel 0 stands as after reset, and channel 0 keys nothing, relay 0 or a segment of message 0. -/
theorem items_one {s : State} (hn : ∀ c, c ≠ 0 → s.chan c = Channel.reset false)
    (h0 : ∀ q ∈ (s.chan 0).requests, q.state = .waiting)
    (hi : (s.chan 0).item = .noItem ∨ (s.chan 0).item = .relay 0 ∨ (s.chan 0).item = .segment 0 0 3 none)
    (hk : (s.chan 0).state.keyed = true ↔ (s.chan 0).item ≠ .noItem)
    (hm : (s.chan 0).item.slotMessage = (s.chan 0).active.filter fun h => decide ((s.desc h).state = .active))
    (hr : (s.chan 0).item = .relay 0 ↔ (0 : Handle) ∈ (s.chan 0).relayQ ∧ (s.desc 0).state = .active)
    (hl : (s.chan 0).relayQ = [] ∨ (s.chan 0).relayQ = [0])
    (hb : (s.desc 0).resume < 3 ∧ (s.desc 0).length = 3) : s.itemsOk := by
  intro c
  by_cases hc : c = 0
  · subst hc
    have hx : (s.chan 0).item.onAirRequest = none := by rcases hi with h | h | h <;> rw [h] <;> rfl
    refine ⟨hk, fun h => ?_, fun h => ?_, fun h e => ?_, fun q hq => by simp [h0 q hq, hx], fun x h => by simp [hx] at h,
      fun h k n e cut h' => ?_, fun h start e cut h' => ?_⟩
    · rw [hm]
      simp [Option.filter_eq_some_iff]
    · by_cases e : h = 0
      · subst e
        exact hr
      · rcases hi with h' | h' | h' <;> rcases hl with h'' | h'' <;> simp [h', h'', eq_comm, e]
    · rcases hi with h' | h' | h' <;> rw [e] at h' <;> cases h'
      rcases hl with h'' | h''
      · simp [e, h''] at hr
      · exact ⟨by rw [h'']; rfl, by omega⟩
    · rcases hi with e | e | e <;> simp [e] at h'
    · rcases hi with e' | e' | e' <;> rw [h'] at e' <;> cases e'
      omega
  · rw [hn c hc]
    simp [Channel.reset, ChanState.keyed, Item.slotMessage, Item.onAirRequest]

/-- A channel 0 that keys relay 0. -/
def relaying : State :=
  withBoth (fun c => { c with state := .onAir, ready := true, relayQ := [0], item := .relay 0 }) fun d =>
    { d with state := .active, cls := .relay, length := 3, chain := [300] }

theorem segmentState_laws (b : Bool) : (segmentState b).placesOk ∧ (segmentState b).itemsOk := by
  cases b <;> exact ⟨places_one segmentState_desc segmentState_chan
      (no_load segmentState_desc rfl (by decide +kernel)) (by decide +kernel),
    by refine items_one segmentState_chan ?_ ?_ ?_ ?_ ?_ ?_ ?_ <;> decide +kernel⟩

theorem relaying_laws : relaying.placesOk ∧ relaying.itemsOk :=
  ⟨places_one both_desc both_chan (no_load both_desc rfl (by decide +kernel)) (by decide +kernel),
    by refine items_one both_chan ?_ ?_ ?_ ?_ ?_ ?_ ?_ <;> decide +kernel⟩

theorem meets_ChannelsCloseAndReset : (quiet.takesAtOnce ∧ (quiet.chan 0).state = .offline
    ∧ ((requestState .closing []).chan 0).state = .closing ∧ ((segmentState false).chan 0).state = .onAir
    ∧ (segmentState false).takesAtOnce ∧ parked.takesAtOnce ∧ (parked.chan 0).state ∈ [.standby, .keyUp, .faulted]
    ∧ (parked.chan 0).active = some 0 ∧ (parked.desc 0).state = .parked ∧ (parked.desc 0).channel = 0
    ∧ (parked.chan 0).stats.overrun + (parked.chan 0).requests.length ≤ 15
    ∧ (∀ h, (parked.chan 0).active = some h → (parked.desc h).channel = 0)
    ∧ (requestState .closing []).dueSlotsNaming 0 = [] ∧ ((requestState .closing []).chan 0).active = none)
    ∧ (((segmentState true).chan 0).active = some 0 ∧ ((segmentState true).desc 0).state = .active
      ∧ ((segmentState true).desc 0).cancelRequested = true ∧ ((segmentState false).desc 0).cancelRequested = false
      ∧ (segmentState true).loadUnit.current = none ∧ relaying.takesAtOnce ∧ (relaying.chan 0).item = .relay 0)
    ∧ (segmentState true).placesOk ∧ (segmentState true).itemsOk ∧ (segmentState false).placesOk
    ∧ (segmentState false).itemsOk ∧ relaying.placesOk ∧ relaying.itemsOk :=
  ⟨by decide +kernel, by decide +kernel, (segmentState_laws true).1, (segmentState_laws true).2,
    (segmentState_laws false).1, (segmentState_laws false).2, relaying_laws⟩

/-- A KEY-UP channel whose key request rose at elapsed time 0. -/
def keyingUp (elapsed : Nat) : State := { requestState .keyUp [] with clock := ⟨0, 0, false, true, elapsed⟩ }

theorem meets_TransmittersFault : (keyingUp 1000).outbox = [] ∧ ((keyingUp 1000).chan 0).state = .keyUp
    ∧ ((keyingUp 1000).chan 0).keyRise + ((keyingUp 1000).chan 0).settings.keyUpLimit ≤ (keyingUp 1000).clock.elapsed
    ∧ (keyingUp 999).clock.elapsed < ((keyingUp 999).chan 0).keyRise + ((keyingUp 999).chan 0).settings.keyUpLimit
    ∧ ((keyingUp 0).chan 0).state ∈ [.offline, .standby, .keyUp, .faulted]
    ∧ ((withChan fun c => { c with state := .closing, item := .idle }).chan 0).state ∈ [.onAir, .closing]
    ∧ (segmentState true).outbox = [] ∧ ((segmentState true).chan 0).state ∈ [.onAir, .closing] := by decide +kernel

/-- A STANDBY channel 0 that slot 0 names, 3,000 ms or more before its occurrence. -/
def awaited (due : Nat) : State := (slotEntry .enabled (some due)).modChan 0 fun c => { c with state := .standby }

/-- A channel 0 whose ACTIVE message 0 stands between two segments. -/
def between (f : Channel → Channel) (cancel : Bool) : State :=
  (keying .noItem).modDesc 0 (fun d => { d with cancelRequested := cancel }) |>.modChan 0 f

/-- A channel 0 on the air with a message, and nothing in progress. -/
def choosing (st : MsgState) (f : Channel → Channel) : State :=
  ((keying .noItem).modDesc 0 fun d => { d with state := st }).modChan 0 f

/-- The first and the last of these requests are not due at station time 0. -/
def mixed : List Request := [{ request 0 0 9 with state := .onAir }, request 1 0 9, request 2 5 9]

theorem meets_ReadyAndThresholdKeyChannels :
    ((keyingUp 1000).outbox = [] ∧ ((keyingUp 1000).chan 0).state = .keyUp
      ∧ (keyingUp 1000).clock.elapsed ≤ ((keyingUp 1000).chan 0).keyRise + ((keyingUp 1000).chan 0).settings.keyUpLimit
      ∧ ((keyingUp 1000).chan 0).relayQ = [] ∧ ((keyingUp 1000).chan 0).urgentQ = []
      ∧ ((keyingUp 1000).chan 0).ordinaryQ = [] ∧ ((keyingUp 1000).chan 0).active = none
      ∧ ((keyingUp 1000).chan 0).requests = [] ∧ (keyingUp 1000).dueSlotsNaming 0 = []
      ∧ 0 < ((keyingUp 1000).chan 0).settings.hangTime
      ∧ ((keyingUp 1001).chan 0).keyRise + ((keyingUp 1001).chan 0).settings.keyUpLimit < (keyingUp 1001).clock.elapsed
      ∧ (quiet.chan 0).state ≠ .keyUp)
    ∧ (((awaited 3000).chan 0).state = .standby ∧ (awaited 3000).nextOccurrence 0 = some 3000
      ∧ 3000 ≤ (awaited 3000).now + ((awaited 3000).chan 0).settings.guard + ((awaited 3000).chan 0).settings.keyUpLimit
      ∧ ((awaited 3000).chan 0).ready = false ∧ (awaited 3001).nextOccurrence 0 = some 3001
      ∧ (awaited 3001).now + ((awaited 3001).chan 0).settings.guard + ((awaited 3001).chan 0).settings.keyUpLimit < 3001
      ∧ quiet.nextOccurrence 0 = none)
    ∧ (let s (f : Channel → Channel) := (between f false).takeOccurrences ((between f false).dueSlotsNaming 0)
      ((s id).chan 0).active = some 0 ∧ ((s id).desc 0).state = .active ∧ ((s id).desc 0).cancelRequested = false
      ∧ ((between id true).desc 0).cancelRequested = true
      ∧ ((s fun c => { c with state := .closing }).chan 0).state = .closing
      ∧ (∃ r ∈ ((s fun c => { c with holds := [⟨0, .running, 1, 1⟩] }).chan 0).holds, r.ship = ((s id).desc 0).dest)
      ∧ ((s fun c => { c with relayQ := [9] }).chan 0).relayQ ≠ []
      ∧ (∃ q ∈ ((s fun c => { c with requests := [request 1 0 1] }).chan 0).requests, q.state = .waiting ∧ q.due ≤ 0
        ∧ 0 < q.deadline)
      ∧ ((s id).fitTest 0 0 0 false .unknown).planned = some 3
      ∧ ((s fun c => { c with requests := [request 1 1 9] }).fitTest 0 0 0 false .unknown).planned = none)
    ∧ (((choosing .ready fun c => { c with active := none }).chan 0).active = none
      ∧ ((choosing .ready fun c => { c with active := none, state := .closing }).chan 0).state = .closing
      ∧ mixed.Pairwise (fun p q => p.before q = true) ∧ mixed = [mixed[0]] ++ request 1 0 9 :: [request 2 5 9]
      ∧ (∀ p ∈ [mixed[0]], ¬(p.state = .waiting ∧ p.due ≤ quiet.now)) ∧ (request 1 0 9).due ≤ quiet.now
      ∧ quiet.now < (request 1 0 9).deadline ∧ (request 1 0 0).deadline ≤ quiet.now
      ∧ ((quiet.area 3).state ≠ .ready ∧ ((quiet.setArea 3 ⟨.ready, 0, 0, 64, 1, 0⟩).area 3).state = .ready)
      ∧ ((choosing .active fun c => { c with relayQ := [9, 8] }).chan 0).relayQ = 9 :: [8])
    ∧ ((choosing .parked id).desc 0).state = .parked ∧ ((choosing .parked id).desc 0).channel = 0
      ∧ ((choosing .parked id).desc 0).cls ≠ .relay ∧ ((choosing .parked id).chan 0).holds = []
      ∧ (∃ r ∈ ((choosing .parked fun c => { c with holds := [⟨0, .running, 1, 1⟩] }).chan 0).holds, r.ship = 0)
      ∧ (choosing .suspended fun c => { c with active := none, urgentQ := [0] }).chooseNew 0 = some 0
      ∧ (choosing .ready fun c => { c with active := none }).chooseNew 0 = none := by
  refine ⟨by decide +kernel, by decide +kernel, by decide +kernel, by decide +kernel, by decide +kernel⟩

/-- The segment of A SPACE B in a line case, at a resume point. -/
def lineState (k : LineCase) (r : Nat) : State :=
  ((segmentState false).modChan 0 fun c => { c with lineCase := k }).modDesc 0 fun d => { d with resume := r }

theorem meets_LineSymbolsComplete : let s := lineState .unknown 0
    (s.outbox = [] ∧ (s.chan 0).state ∈ [.onAir, .closing] ∧ (s.chan 0).symbolEnd ≤ s.clock.elapsed
      ∧ (s.chan 0).item = .segment 0 0 3 none ∧ s.textSymbol 0 0 = 7 ∧ 7 ≤ 7 ∧ (s.chan 0).lineCase ≠ .letters
      ∧ ((lineState .letters 0).chan 0).lineCase = .letters ∧ (lineState .letters 1).textSymbol 0 1 = 1
      ∧ 0 + 1 ≠ (s.desc 0).length ∧ 0 + 1 < 3 ∧ 2 + 1 = ((lineState .letters 2).desc 0).length
      ∧ ((keying (.segment 0 0 2 none)).desc 0).resume + 1 ≠ 3 ∧ 1 ≤ 0 + 1)
    ∧ (((keying .idle).chan 0).item = .idle ∧ ((keying (.header 0 15 11 3 none)).chan 0).item = .header 0 15 11 3 none
      ∧ (headerSymbols 7)[12]? = some 3 ∧ ((keying (.header 0 15 12 3 none)).chan 0).item = .header 0 15 12 3 none
      ∧ ((keying (.marker (.message 0) .hold 1)).chan 0).item = .marker (.message 0) .hold 1
      ∧ ((keying (.marker (.message 0) (.park .budget) 2)).chan 0).item = .marker (.message 0) (.park .budget) 2
      ∧ ((keying (.marker (.request 1 0 3) .bulletinCut 2)).chan 0).item = .marker (.request 1 0 3) .bulletinCut 2
      ∧ ((keying (.relay 0)).chan 0).item = .relay 0
      ∧ ((keying (.bulletin 1 0 3 0 (some 1))).chan 0).item = .bulletin 1 0 3 0 (some 1)
      ∧ (keying (.bulletin 1 0 3 0 none)).areaSymbol 3 0 = 0)
    ∧ ([{ request 1 0 9 with state := .onAir }].find? (fun q => decide (q.slot = 1 ∧ q.due = 0))).isSome = true
    ∧ quiet.clock.elapsed < ((withChan fun c => { c with state := .onAir, symbolEnd := 1 }).chan 0).symbolEnd
    ∧ (quiet.chan 0).state ∉ [.onAir, .closing]
    ∧ (((segmentState true).desc 0).cancelRequested = true ∧ ((segmentState false).desc 0).cancelRequested = false
      ∧ ((segmentState false).desc 0).confirm = false ∧ (lastSymbol.desc 0).confirm = true ∧ (lastSymbol.desc 0).cls ≠ .relay
      ∧ (lastSymbol.desc 0).cancelRequested = false ∧ (lastSymbol.desc 0).channel = 0) := by decide +kernel

/-- A STANDBY channel 0 with a parser. -/
def parsing (p : Parser) : State := withChan fun c => { c with state := .standby, parser := p }

/-- A parser that reads a body. -/
def inBody (body : List Nat) : Parser := ⟨.body, 6, [], 9, body, false⟩

/-- An undamaged IDLE ends a body. -/
theorem idle_ends (body : List Nat) : (inBody body).bodyEnds 0 false (inBody body) ⟨.hunt, 0, [], 0, [], false⟩ :=
  ⟨rfl, .inl ⟨rfl, rfl, rfl, rfl⟩⟩

/-- The symbol that brings a body to 64 ends it. -/
theorem symbol_64_ends : (inBody (List.replicate 63 7)).bodyEnds 7 true
    ⟨.body, 6, [], 9, List.replicate 64 7, true⟩ ⟨.skip, 6, [], 0, [], false⟩ :=
  ⟨rfl, .inr (.inr ⟨.inl rfl, by decide, by decide, rfl⟩)⟩

/-- A body that begins with the letter A has none of the forms. -/
theorem letter_a_calls_nothing (form : BodyForm) (ds rest : List Nat) : ¬calls [7] form ds rest := by
  rintro ⟨-, -, h⟩
  cases form <;> simp at h

/-- The fields SET-WATCH takes (R159), as the statement writes them. -/
abbrev watchFits (set m : Byte) (vs : List (Byte × Byte)) : Prop :=
  set ≠ 0 ∧ vs ≠ [] ∧ vs.length ≤ 32 ∧ (∀ v ∈ vs, v.1.toNat ≤ 63 ∧ v.2.toNat ≤ 1) ∧ m.toNat ≤ 48

theorem meets_WatchesAndCaptures :
    quiet.takesAtOnce
      ∧ (quiet.watch 0 = none
        ∧ (quiet.setWatch 0 (some ⟨1, [(63, true)], 48⟩)).watch 0 = some ⟨1, [(63, true)], 48⟩
        ∧ (quiet.chan 0).latch = none
        ∧ ((withChan fun c => { c with latch := some ⟨none, 1, 0, 1, [7], false⟩ }).chan 0).latch.isSome = true)
      ∧ watchFits 1 48 (List.replicate 32 (63, 1)) ∧ ¬watchFits 0 48 [(63, 1)] ∧ ¬watchFits 1 48 []
      ∧ ¬watchFits 1 48 (List.replicate 33 (63, 1)) ∧ ¬watchFits 1 48 [(64, 0)] ∧ ¬watchFits 1 48 [(0, 2)]
      ∧ ¬watchFits 1 49 [(63, 1)] ∧ 3 < (4 : Byte).toNat ∧ (3 : Byte) = byteOf 3 := by
  refine ⟨?_, ?_, by simp [watchFits], ?_, ?_, ?_, by simp [watchFits], ?_, by simp [watchFits], ?_, ?_⟩ <;> decide +kernel

theorem meets_WatchesAndCaptures_calls :
    let s := parsing (inBody [7])
    let some7 : Pattern := ⟨1, [(9, false), (7, true)], 0⟩
    s.outbox = [] ∧ (s.chan 0).state ≠ .offline ∧ (s.chan 0).latch = none
      ∧ (s.chan 0).parser.bodyEnds 0 false (inBody [7]) ⟨.hunt, 0, [], 0, [], false⟩
      ∧ (∀ form ds rest, ¬calls (inBody [7]).body form ds rest) ∧ (∀ w, s.watch w = none)
      ∧ ((s.setWatch 1 (some some7)).watch 1 = some some7 ∧ inSet some7.channels 0 = true
        ∧ (∀ w, w < 1 → (s.setWatch 1 (some some7)).watch w = none) ∧ some7.minLength ≤ 64
        ∧ (List.replicate 64 7)[0]? ≠ some 9 ∧ (List.replicate 64 7)[1]? = some 7)
      ∧ ((parsing (inBody (List.replicate 63 7))).chan 0).parser.bodyEnds 7 true
        ⟨.body, 6, [], 9, List.replicate 64 7, true⟩ ⟨.skip, 6, [], 0, [], false⟩ :=
  ⟨by decide +kernel, by decide +kernel, by decide +kernel, idle_ends [7], letter_a_calls_nothing, by decide +kernel,
    by decide +kernel, symbol_64_ends⟩

/-- A hold record of a ship on channel 0. -/
def holding (r : Hold) : State := withChan fun c => { c with state := .standby, holds := [r] }

/-- A body H, H and up to three digits calls for a hold. -/
theorem hold_called : calls [14, 14, 33, 33, 33] .hold [0, 0, 0] [] ∧ calls [14, 14, 42, 42, 42, 1, 7] .hold [9, 9, 9] [1, 7]
    ∧ calls [14, 14, 34, 2] .hold [1] [2] := by
  refine ⟨⟨by decide, by decide, rfl, by decide, by decide⟩, ⟨by decide, by decide, rfl, by decide, by decide⟩,
    ⟨by decide, by decide, rfl, by decide, by decide⟩⟩

theorem meets_HoldsAreRemoved : (quiet.takesAtOnce ∧ 99999 < 100000 ∧ (∀ r ∈ (quiet.chan 0).holds, r.ship ≠ 99999)
    ∧ (holding ⟨1, .pending, 9, 0⟩).takesAtOnce ∧ (⟨1, .pending, 9, 0⟩ : Hold) ∈ ((holding ⟨1, .pending, 9, 0⟩).chan 0).holds
    ∧ (((holding ⟨1, .pending, 9, 0⟩).chan 0).holds.map (·.ship)).Nodup
    ∧ (⟨1, .running, 0, 0⟩ : Hold) ∈ ((holding ⟨1, .running, 0, 0⟩).chan 0).holds
    ∧ (⟨1, .running, 0, 0⟩ : Hold).endsAt ≤ (holding ⟨1, .running, 0, 0⟩).clock.elapsed
    ∧ (∀ r ∈ ((holding ⟨1, .running, 0, 1⟩).chan 0).holds, r.ship = 1 →
      r.state = .pending ∨ (holding ⟨1, .running, 0, 1⟩).clock.elapsed < r.endsAt))
    ∧ (let s := (parsing (inBody [14, 14, 33, 33, 33]))
      let t := s.modChan 0 fun c => { c with holds := [⟨9, .running, 1, 1⟩] }
      s.outbox = [] ∧ (s.chan 0).state ≠ .offline ∧ (s.chan 0).parser = inBody [14, 14, 33, 33, 33]
        ∧ (t.chan 0).parser = inBody [14, 14, 33, 33, 33] ∧ (s.chan 0).holds = []
        ∧ (∃ r ∈ (t.chan 0).holds, r.ship = (inBody [14, 14, 33, 33, 33]).ident)
        ∧ (inBody [14, 14, 33, 33, 33]).damaged = false ∧ spelled [0, 0, 0] = 0)
    ∧ (inBody [14, 14, 33, 33, 33]).bodyEnds 0 false (inBody [14, 14, 33, 33, 33]) ⟨.hunt, 0, [], 0, [], false⟩
    ∧ calls (inBody [14, 14, 33, 33, 33]).body .hold [0, 0, 0] [] :=
  ⟨by decide +kernel, by decide +kernel, idle_ends _, hold_called.1⟩

theorem meets_ReadReceiveReportsAndClears : quiet.takesAtOnce ∧ 1 < (2 : Byte).toNat := by decide +kernel

theorem meets_SkipWaitsForPhasing :
    let skip := parsing ⟨.skip, 6, [], 0, [], false⟩
    let ident := parsing ⟨.ident, 6, [], 0, [], false⟩
    let body := parsing ⟨.body, 6, [], 9, List.replicate 63 7, false⟩
    skip.outbox = [] ∧ (skip.chan 0).state ≠ .offline ∧ (skip.chan 0).parser.state = .skip
      ∧ (ident.chan 0).parser.state = .ident
      ∧ (∃ t, exec (.receivedSymbol 0 7 false) ident = .next t ∧ (t.chan 0).rx.rejected ≠ (ident.chan 0).rx.rejected)
      ∧ (body.chan 0).parser.state = .body ∧ (body.chan 0).parser.body.length = 63 ∧ 7 ∉ [0, 4, 5, 6]
      ∧ ∃ t, exec (.receivedSymbol 0 7 false) body = .next t :=
  ⟨by decide +kernel, by decide +kernel, by decide +kernel, by decide +kernel, ⟨_, rfl, by decide +kernel⟩,
    by decide +kernel, by decide +kernel, by decide +kernel, _, rfl⟩

/-- A channel that receives the end of an ACK for message 65,535 from ship 9. -/
def acked (st : MsgState) : State :=
  withBoth (fun c => { c with state := .standby, sent := [0],
                              parser := ⟨.body, 6, [], 9, [17, 17, 39, 38, 38, 36, 38], false⟩ })
    fun d => { d with state := st, number := 65535, dest := 9, chain := [300] }

theorem meets_ReceivedCallsAreActedOn :
    let ident (ds : List Nat) := parsing ⟨.ident, 6, ds, 0, [], false⟩
    let phasing (n : Nat) := parsing ⟨.phasing, n, [], 0, [], false⟩
    quiet.outbox = [] ∧ (quiet.chan 0).state = .offline ∧ ((parsing Parser.reset).chan 0).state ≠ .offline
      ∧ ((parsing Parser.reset).chan 0).parser.state = .hunt ∧ ((phasing 5).chan 0).parser.state = .phasing
      ∧ ((phasing 5).chan 0).parser.run < ((phasing 5).chan 0).settings.phasingRun
      ∧ ((phasing 6).chan 0).settings.phasingRun ≤ ((phasing 6).chan 0).parser.run
      ∧ ((phasing 6).chan 0).parser.ident = 0 ∧ ((phasing 6).chan 0).parser.body = []
      ∧ ((ident []).chan 0).parser.state = .ident ∧ ((ident [33, 33, 33, 33, 34]).chan 0).parser.digits[5 % 5]? = some 33
      ∧ 13 + 1 < 5 * (quiet.chan 0).settings.copies ∧ 5 * (quiet.chan 0).settings.copies ≤ 14 + 1
      ∧ spelled (((List.replicate 14 33 ++ [33]).take 5).map (· - 33)) = 0
      ∧ spelled (([33, 33, 33, 33, 34].take 5).map (· - 33)) = 1
      ∧ ((parsing (inBody (List.replicate 62 7))).chan 0).parser.state = .body
      ∧ ((parsing (inBody (List.replicate 62 7))).chan 0).parser.body.length < 63 := by decide +kernel

/-- An acknowledgement of, and a request to repeat, message 65,535, and an acknowledgement of message 65,536. -/
theorem delivery_called : calls [17, 17, 39, 38, 38, 36, 38] .ack [6, 5, 5, 3, 5] []
    ∧ calls [24, 24, 39, 38, 38, 36, 38, 2] .repeat [6, 5, 5, 3, 5] [2]
    ∧ calls [17, 17, 39, 38, 38, 36, 39] .ack [6, 5, 5, 3, 6] [] := by
  refine ⟨⟨by decide, by decide, rfl, by decide⟩, ⟨by decide, by decide, rfl, by decide⟩,
    ⟨by decide, by decide, rfl, by decide⟩⟩

theorem meets_ReceivedCallsAreActedOn_calls :
    let full : List Hold := (List.range' 10 8).map fun n => ⟨n, .running, 1, 1⟩
    (spelled [9, 9, 9] = 999 ∧ spelled [1] = 1 ∧ ((parsing (inBody [14, 14, 34, 2])).chan 0).holds = []
      ∧ (∀ r ∈ full, r.ship ≠ (inBody [14, 14, 34, 2]).ident) ∧ full.length = 8
      ∧ ([⟨9, .pending, 1, 1⟩] : List Hold) = [] ++ ⟨9, .pending, 1, 1⟩ :: [])
      ∧ (spelled [6, 5, 5, 3, 5] = 65535 ∧ spelled [6, 5, 5, 3, 6] = 65536
        ∧ ((acked .awaitAck).chan 0).parser = inBody [17, 17, 39, 38, 38, 36, 38]
        ∧ (0 : Handle) ∈ ((acked .unconfirmed).chan 0).sent ∧ ((acked .awaitAck).desc 0).state = .awaitAck
        ∧ ((acked .unconfirmed).desc 0).state = .unconfirmed ∧ ((acked .awaitAck).desc 0).channel = 0
        ∧ ((acked .awaitAck).desc 0).number = 65535 ∧ ((acked .awaitAck).desc 0).dest = 9
        ∧ (∀ g ∈ ((acked .awaitAck).chan 0).sent, g = 0) ∧ ((acked .awaitAck).desc 0).repeats < 3
        ∧ 3 ≤ (((acked .awaitAck).modDesc 0 fun d => { d with repeats := 3 }).desc 0).repeats)
      ∧ calls (inBody [14, 14, 34, 2]).body .hold [1] [2]
      ∧ calls (inBody [17, 17, 39, 38, 38, 36, 38]).body .ack [6, 5, 5, 3, 5] []
      ∧ (inBody [14, 14, 34, 2]).bodyEnds 0 false (inBody [14, 14, 34, 2]) ⟨.hunt, 0, [], 0, [], false⟩ :=
  ⟨by decide +kernel, by decide +kernel, hold_called.2.2, delivery_called.1, idle_ends _⟩

/-- The reset state with a command waiting meets the laws that the steps keep, and steps. -/
def ready : State := { State.reset with pending := [.gapTimeout] }

theorem ready_steps : ∃ t, step ready = .next t := ⟨_, rfl⟩

theorem meets_StepKeepsMemoryAndRanges : (∃ t, step ready = .next t) ∧ ready.memoryOk ∧ ready.clockOk
    ∧ ready.settingsOk ∧ ready.allowancesOk :=
  ⟨ready_steps, by decide +kernel, by decide +kernel, by decide +kernel, by decide +kernel⟩

theorem meets_StepKeepsTheLinkLaw : (∃ t, step ready = .next t) ∧ ready.linkOk := ⟨ready_steps, by decide +kernel⟩

/-- A message 0 in a queue of channel 0, which has its transmitter ready. -/
def queued (st : MsgState) (r : Nat) : State :=
  withBoth (fun c => { c with ready := true, ordinaryQ := [0] })
    fun d => { d with state := st, cls := .ordinary, number := 7, length := 3, resume := r, chain := [300] }

/-- A channel 0 that OPEN-CHANNEL, which waits, takes on the air with message 0 at its resume point, before a bulletin at
station time 9,000. -/
def waiting (st : MsgState) (r : Nat) : State :=
  { (queued st r).setSlot 0 ⟨.enabled, 1, 9000, 1440, 3, 0, some 9000⟩ with pending := [.openChannel [0]] }

theorem waiting_desc {st : MsgState} {r : Nat} (h : Handle) (hh : h ≠ 0) : (waiting st r).desc h = Descriptor.reset := by
  have : (waiting st r).desc h = (queued st r).desc h := rfl
  rw [this]
  exact both_desc h hh

theorem waiting_chan {st : MsgState} {r : Nat} (c : ChannelNo) (hc : c ≠ 0) :
    (waiting st r).chan c = Channel.reset false := by
  have : (waiting st r).chan c = (queued st r).chan c := rfl
  rw [this]
  exact both_chan c hc

theorem waiting_trafficOk {st : MsgState} {r : Nat} (h : st = .ready ∧ r = 0 ∨ st = .suspended ∧ r = 1) :
    (waiting st r).trafficOk := by
  have hl : (waiting st r).loadUnit.current = none := rfl
  have ha : ∀ a, (waiting st r).area a = Area.reset := fun a => by
    simp [State.area, vget, waiting, queued, withBoth, withChan, quiet, State.reset, Store.reset]
  have hk : ∀ a, (waiting st r).keying a = [] := fun a => by
    have hc : ∀ c, ((waiting st r).chan c).item = .noItem := fun c => by
      by_cases e : c = 0
      · subst e
        rfl
      · rw [show (waiting st r).chan c = Channel.reset false from waiting_chan c e]
        rfl
    simp [State.keying, hc, Item.onAirRequest]
  have ht : (waiting st r).textOk := fun h => by
    by_cases e : h = 0
    · subst e
      rcases h with ⟨rfl, rfl⟩ | ⟨rfl, rfl⟩ <;> decide +kernel
    · rw [show (waiting st r).desc h = Descriptor.reset from waiting_desc h e]
      decide
  have hq : (waiting st r).requestsOk := fun c => by
    by_cases e : c = 0
    · subst e
      rcases h with ⟨rfl, rfl⟩ | ⟨rfl, rfl⟩ <;> decide +kernel
    · rw [show (waiting st r).chan c = Channel.reset false from waiting_chan c e]
      decide
  refine ⟨?_, ?_, ht, fun a => ?_, fun l hl' => by simp [hl] at hl', hq⟩
  · rcases h with ⟨rfl, rfl⟩ | ⟨rfl, rfl⟩ <;>
      exact places_one waiting_desc waiting_chan (no_load waiting_desc rfl (by decide +kernel)) (by decide +kernel)
  · rcases h with ⟨rfl, rfl⟩ | ⟨rfl, rfl⟩ <;>
      refine items_one waiting_chan ?_ ?_ ?_ ?_ ?_ ?_ ?_ <;> decide +kernel
  · simp [ha, hk, hl, Area.reset]

/-- What a step from `waiting` leaves. -/
def opened (st : MsgState) (r : Nat) : State :=
  after (.openChannel [0]) { waiting st r with pending := [] }

/-- R139: the first decision point and its RESUMED notice come before KEYED. -/
theorem test_keyed_follows_the_first_decision_point : (opened .suspended 1).link.formed.filterMap (fun r =>
    match r with
    | .notice n => some n.event
    | .reply _ _ => none) = [.resumed, .keyed] := by decide +kernel

theorem meets_StepKeepsListsInOrder : (∃ t, step ready = .next t) ∧ ready.requestsOk ∧ ready.holdsOk
    ∧ step (waiting .ready 0) = .next (opened .ready 0) ∧ step (waiting .suspended 1) = .next (opened .suspended 1)
    ∧ (waiting .ready 0).trafficOk ∧ (waiting .suspended 1).trafficOk
    ∧ (waiting .ready 0).begins (opened .ready 0) 0 0 none 3
    ∧ (waiting .suspended 1).begins (opened .suspended 1) 0 0 (some 15) 3
    ∧ (opened .ready 0).nextBulletin 0 = some 9000 ∧ (opened .suspended 1).nextBulletin 0 = some 9000 := by
  have hi : ((waiting .ready 0).chan 0).item = .noItem := by decide +kernel
  have hj : ((waiting .suspended 1).chan 0).item = .noItem := by decide +kernel
  refine ⟨ready_steps, by decide +kernel, by decide +kernel, rfl, rfl, waiting_trafficOk (.inl ⟨rfl, rfl⟩),
    waiting_trafficOk (.inr ⟨rfl, rfl⟩), ⟨fun k n e' cut => by simp [hi], ⟨none, ?_⟩, fun e' cut => by simp [hi]⟩,
    ⟨fun k n e' cut => by simp [hj], none, ?_⟩, ?_, ?_⟩ <;> decide +kernel

/-- A message 0 that is loaded. -/
def fillingTarget : State :=
  withBoth id fun d => { d with state := .loading, cls := .ordinary, number := 7, length := 3, chain := [300] }

/-- An open telex load that has received 3 symbols and has credit for 61 more, in one block. -/
def fillingState : State :=
  { fillingTarget with loadUnit := ⟨some ⟨.telex 0 0, 100, 3, 61, 3, 0, 0, false, false⟩, 128⟩ }

theorem fillingState_trafficOk : fillingState.trafficOk := by
  have hl : fillingState.loadUnit.current = some ⟨.telex 0 0, 100, 3, 61, 3, 0, 0, false, false⟩ := rfl
  have hd : ∀ h, h ≠ 0 → fillingState.desc h = Descriptor.reset := fun h hh => by
    have : fillingState.desc h = fillingTarget.desc h := rfl
    rw [this]
    exact both_desc h hh
  have h0 : (fillingState.desc 0).channel = 0 ∧ (fillingState.desc 0).state = .loading := by decide +kernel
  have hc : ∀ c, c ≠ 0 → fillingState.chan c = Channel.reset false := fun c hc => by
    have : fillingState.chan c = fillingTarget.chan c := rfl
    rw [this]
    exact both_chan c hc
  have hi : ∀ c, (fillingState.chan c).item = .noItem ∧ (fillingState.chan c).requests = [] := fun c => by
    by_cases e : c = 0
    · subst e
      exact ⟨rfl, rfl⟩
    · rw [hc c e]
      exact ⟨rfl, rfl⟩
  have ha : ∀ a, fillingState.area a = Area.reset := fun a => by
    simp [State.area, vget, fillingState, fillingTarget, withBoth, withChan, quiet, State.reset, Store.reset]
  refine ⟨places_one hd hc (fun c h => ⟨?_, fun ⟨hc, hs⟩ => ?_⟩) (by decide +kernel),
    by refine items_one hc ?_ ?_ ?_ ?_ ?_ ?_ ?_ <;> decide +kernel, fun h => ?_, fun a => ?_, fun l h => ?_,
    fun c => by simp [hi]⟩
  · rintro ⟨l, e, ht⟩
    rw [hl] at e
    cases e
    cases ht
    exact h0
  · by_cases h' : h = 0
    · subst h'
      exact ⟨_, hl, by rw [← hc, h0.1]⟩
    · simp [hd h h', Descriptor.reset] at hs
  · by_cases h' : h = 0
    · subst h'
      decide +kernel
    · rw [hd h h']
      decide
  · simp [ha, State.keying, hi, Item.onAirRequest, hl, Area.reset]
  · rw [hl] at h
    cases h
    refine ⟨by decide, by decide, fun h c ht => ?_, fun a ht => by cases ht⟩
    cases ht
    decide +kernel

theorem meets_StepKeepsTheBlocks : ((∃ t, step ready = .next t) ∧ ready.blocksOk) ∧ (waiting .suspended 1).trafficOk
    ∧ fillingState.trafficOk ∧ (fillingState.loadUnit.current.map (·.target)) = some (.telex 0 0) := by
  refine ⟨⟨ready_steps, ?_⟩, waiting_trafficOk (.inr ⟨rfl, rfl⟩), fillingState_trafficOk, rfl⟩
  have h : ready.descs.toList.flatMap (·.chain) = [] := by decide +kernel
  unfold State.blocksOk
  rw [h, List.append_nil]
  have hf : ready.store.free = poolBlocks ready.store.split := by decide +kernel
  exact ⟨hf ▸ .refl _, by decide +kernel⟩

end Sys2Proof.Tests
end

section
/-! The following word boundary (R14, R15) and the cut that is made there (R125). -/

namespace Sys2Proof.Machine

/-! ### The following boundary -/

/-- R14. -/
theorem endsWord_iff (y : Nat) : endsWord y = true ↔ y = 1 ∨ y = 2 ∨ y = 3 := by
  simp [endsWord, symSpace, symCR, symLF, or_assoc]

/-- The search visits the positions strictly between x and L. -/
theorem mem_boundarySearch_iff (x L e : Nat) : e ∈ List.range' (x + 1) (L - (x + 1)) ↔ x < e ∧ e < L := by
  rw [List.mem_range'_1]
  omega

/-- R15. The search visits the positions in rising order, so what it finds first is the smallest boundary. -/
theorem followingBoundary_eq_some_iff (symbol : Nat → Nat) (L x e : Nat) :
    followingBoundary symbol L x = some e ↔ (x < e ∧ e < L ∧ endsWord (symbol (e - 1)) = true)
      ∧ ∀ e', x < e' → e' < L → endsWord (symbol (e' - 1)) = true → e ≤ e' := by
  rw [followingBoundary, List.find?_range'_eq_some, mem_boundarySearch_iff]
  constructor
  · rintro ⟨hends, ⟨hx, hL⟩, hbefore⟩
    refine ⟨⟨hx, hL, hends⟩, fun e' hx' _ hends' => Nat.le_of_not_lt fun hlt => ?_⟩
    have hnot := hbefore e' hx' hlt
    simp [hends'] at hnot
  · rintro ⟨⟨hx, hL, hends⟩, hleast⟩
    refine ⟨hends, ⟨hx, hL⟩, fun j hxj hje => ?_⟩
    have hnot : ¬endsWord (symbol (j - 1)) = true := fun hj =>
      Nat.not_le_of_lt hje (hleast j hxj (hje.trans hL) hj)
    simpa using hnot

theorem followingBoundary_eq_none_iff (symbol : Nat → Nat) (L x : Nat) :
    followingBoundary symbol L x = none ↔ ∀ e, x < e → e < L → ¬endsWord (symbol (e - 1)) = true := by
  simp only [followingBoundary, List.find?_eq_none, mem_boundarySearch_iff, and_imp]

/-! ### A cut of a planned end -/

theorem cutSegment_of_boundary_lt {symbol : Nat → Nat} {L x e b : Nat} (cut : Option Nat)
    (hb : followingBoundary symbol L x = some b) (hlt : b < e) : cutSegment symbol L x e cut = (b, some b) := by
  simp [cutSegment, hb, hlt]

/-- R125. Without a boundary below the planned end, the planned end and the cut point stay. -/
theorem cutSegment_of_forall_le {symbol : Nat → Nat} {L x e : Nat} (cut : Option Nat)
    (hle : ∀ b, followingBoundary symbol L x = some b → e ≤ b) : cutSegment symbol L x e cut = (e, cut) := by
  unfold cutSegment
  split
  case h_1 b hb => exact if_neg (Nat.not_lt_of_le (hle b hb))
  case h_2 => rfl

/-! ### A cut request, item by item -/

variable {s : State} {c : ChannelNo}

theorem State.cutTelex_of_segment {h : Handle} {start e : Nat} {cut : Option Nat}
    (hitem : (s.chan c).item = .segment h start e cut) :
    let p := cutSegment (s.textSymbol h) (s.desc h).length (s.desc h).resume e cut
    s.cutTelex c = s.setChan c { s.chan c with item := .segment h start p.1 p.2 } := by
  simp only [State.cutTelex, hitem, State.modChan]

theorem State.cutTelex_of_header {h : Handle} {k n e : Nat} {cut : Option Nat}
    (hitem : (s.chan c).item = .header h k n e cut) :
    let p := cutSegment (s.textSymbol h) (s.desc h).length (s.desc h).resume e cut
    s.cutTelex c = s.setChan c { s.chan c with item := .header h k n p.1 p.2 } := by
  simp only [State.cutTelex, hitem, State.modChan]

theorem State.cutTelex_of_other (hseg : ∀ h start e cut, (s.chan c).item ≠ .segment h start e cut)
    (hhead : ∀ h k n e cut, (s.chan c).item ≠ .header h k n e cut) : s.cutTelex c = s := by
  unfold State.cutTelex
  split
  case h_1 h start e cut hitem => exact absurd hitem (hseg h start e cut)
  case h_2 h k n e cut hitem => exact absurd hitem (hhead h k n e cut)
  all_goals rfl

theorem State.cutBulletin_of_uncut {slot : SlotNo} {due : Nat} {a : AreaNo} {pos : Nat}
    (hitem : (s.chan c).item = .bulletin slot due a pos none) :
    s.cutBulletin c = s.setChan c { s.chan c with
      item := .bulletin slot due a pos (followingBoundary (s.areaSymbol a) (s.area a).length pos) } := by
  simp only [State.cutBulletin, hitem, State.modChan]

theorem State.cutBulletin_of_cut {slot : SlotNo} {due : Nat} {a : AreaNo} {pos b : Nat}
    (hitem : (s.chan c).item = .bulletin slot due a pos (some b)) : s.cutBulletin c = s := by
  simp only [State.cutBulletin, hitem]

theorem State.cutBulletin_of_other (hbul : ∀ slot due a pos cut, (s.chan c).item ≠ .bulletin slot due a pos cut) :
    s.cutBulletin c = s := by
  unfold State.cutBulletin
  split
  case h_1 slot due a pos hitem => exact absurd hitem (hbul slot due a pos none)
  all_goals rfl

/-- A channel that is given the item it has stays as it is. -/
theorem State.setChan_item_eq_self {it : Item} (hitem : (s.chan c).item = it) :
    s.setChan c { s.chan c with item := it } = s := by
  subst hitem
  exact s.setChan_chan c

/-- R125. A segment or header whose text has no boundary below the planned end is left to run to that end. -/
theorem State.cutTelex_eq_self_of_forall_le {h : Handle} {e : Nat} {cut : Option Nat}
    (hitem : (∃ start, (s.chan c).item = .segment h start e cut) ∨ ∃ k n, (s.chan c).item = .header h k n e cut)
    (hle : ∀ b, followingBoundary (s.textSymbol h) (s.desc h).length (s.desc h).resume = some b → e ≤ b) :
    s.cutTelex c = s := by
  have hkeep := cutSegment_of_forall_le cut hle
  rcases hitem with ⟨start, hseg⟩ | ⟨k, n, hhead⟩
  · rw [State.cutTelex_of_segment hseg, hkeep]
    exact State.setChan_item_eq_self hseg
  · rw [State.cutTelex_of_header hhead, hkeep]
    exact State.setChan_item_eq_self hhead

end Sys2Proof.Machine

namespace Sys2Proof.Proofs

open Sys2Proof.Machine

/-- Settles O42: the search of R15 finds the smallest boundary, and a cut request is taken item by item (R125). -/
theorem followingWordBoundary : Obligations.FollowingWordBoundary := by
  unfold Obligations.FollowingWordBoundary
  refine ⟨fun symbol L x e => ?_, fun s c => ⟨?segment, ?header, ?kept, ?uncut, ?fixed, ?noTelex, ?noBulletin⟩⟩
  · simp only [← endsWord_iff]
    exact ⟨followingBoundary_eq_some_iff symbol L x e, followingBoundary_eq_none_iff symbol L x⟩
  case segment =>
    intro h start e cut b hitem hb hlt
    rw [State.cutTelex_of_segment hitem, cutSegment_of_boundary_lt cut hb hlt]
  case header =>
    intro h k n e cut b hitem hb hlt
    rw [State.cutTelex_of_header hitem, cutSegment_of_boundary_lt cut hb hlt]
  case kept => exact fun h e cut hitem hle => State.cutTelex_eq_self_of_forall_le hitem hle
  case uncut => exact fun slot due a pos hitem => State.cutBulletin_of_uncut hitem
  case fixed => exact fun slot due a pos b hitem => State.cutBulletin_of_cut hitem
  case noTelex =>
    rintro it rfl hseg hhead
    exact State.cutTelex_of_other hseg hhead
  case noBulletin =>
    rintro it rfl hbul
    exact State.cutBulletin_of_other hbul

end Sys2Proof.Proofs
end

section
/-! The store split (R26 to R28): what a judged SET-SPLIT finds in the store and in the Message Table, and what it leaves. -/

namespace Sys2Proof.Machine

/-! ### Fixed tables -/

@[simp] theorem vget_map {α β : Type} {n : Nat} (f : α → β) (v : Vector α n) (i : Fin n) :
    vget (v.map f) i = f (vget v i) := by
  simp [vget]

/-- A search of a table finds an entry exactly when some number names one. -/
theorem any_toList_iff_exists_vget {α : Type} {n : Nat} (v : Vector α n) (p : α → Bool) :
    v.toList.any p = true ↔ ∃ i : Fin n, p (vget v i) = true := by
  rw [Vector.any_toList, Vector.any_eq_true]
  exact (Fin.exists_iff (p := fun i => p (vget v i) = true)).symm

/-! ### What stands against a new split (R27) -/

variable (s : State)

theorem State.anyArea_iff : s.anyArea = true ↔ ∃ a, (s.area a).state ≠ .undefined := by
  simp only [State.anyArea, any_toList_iff_exists_vget, decide_eq_true_eq, State.area]

theorem State.anyChain_iff : s.anyChain = true ↔ ∃ h, (s.desc h).chain ≠ [] := by
  simp only [State.anyChain, any_toList_iff_exists_vget, Bool.not_eq_true', List.isEmpty_eq_false_iff, State.desc]

/-- R27. The store is in use while an area is defined, a load is open or a descriptor holds blocks. -/
theorem State.inUse_iff : (s.anyArea || s.loadUnit.current.isSome || s.anyChain) = true ↔
    (∃ a, (s.area a).state ≠ .undefined) ∨ s.loadUnit.current ≠ none ∨ ∃ h, (s.desc h).chain ≠ [] := by
  rw [Bool.or_eq_true, Bool.or_eq_true, s.anyArea_iff, s.anyChain_iff, Option.isSome_iff_ne_none, or_assoc]

/-! ### The new split (R28) -/

@[simp] theorem State.poolSize_applySplit (nb : Nat) : (s.applySplit nb).poolSize = 1024 - nb := rfl

@[simp] theorem State.outbox_applySplit (nb : Nat) : (s.applySplit nb).outbox = s.outbox := rfl

@[simp] theorem State.chan_applySplit (nb : Nat) (c : ChannelNo) :
    (s.applySplit nb).chan c = { s.chan c with cap := min (s.chan c).cap (1024 - nb) } := vget_map ..

/-! ### SET-SPLIT is judged -/

variable {s : State} {nb : Nat}

/-- R27, R28. The judgement of a frame that spells nb: the three refusals in order, then the new split. -/
theorem doSetSplit_toBe (hnb : nb ≤ 65535) : doSetSplit (toBe 2 nb) s =
    if 512 < nb then .error .range
    else if s.anyArea || s.loadUnit.current.isSome || s.anyChain then .error .state
    else if 1024 - nb < s.reserveSum then .error .range
    else .ok (s.applySplit nb, [.num 2 nb, .num 2 (1024 - nb)]
      ++ allChannels.map fun c => .num 2 (min (s.chan c).cap (1024 - nb))) := by
  have hspelled : be [BitVec.ofNat 8 (nb / 256), BitVec.ofNat 8 nb] = nb := be_two (by omega)
  simp only [toBe_two, doSetSplit, hspelled, State.poolSize_applySplit, State.chan_applySplit, Config.blocks]

end Sys2Proof.Machine

namespace Sys2Proof.Proofs

open Sys2Proof.Machine

/-- Settles O20: the judgement of SET-SPLIT decides each clause, and an accepted one forms no notice. -/
theorem setSplitMovesTheBoundary : Obligations.SetSplitMovesTheBoundary := by
  unfold Obligations.SetSplitMovesTheBoundary
  intro s nb htakes hnb x inUse reserves
  have hsum : reserves = s.reserveSum := rfl
  have hjudged := doSetSplit_toBe (s := s) hnb
  refine ⟨fun hlarge => ?large, fun hfits huse => ?used, fun hfits huse hshort => ?short,
    fun hfits huse henough => ?moved⟩
  case large =>
    rw [if_pos hlarge] at hjudged
    exact commandStep_refused htakes hjudged
  case used =>
    rw [if_neg hfits.not_gt, if_pos (s.inUse_iff.2 huse)] at hjudged
    exact commandStep_refused htakes hjudged
  case short =>
    rw [if_neg hfits.not_gt, if_neg (mt s.inUse_iff.1 huse), if_pos (hsum ▸ hshort)] at hjudged
    exact commandStep_refused htakes hjudged
  case moved =>
    have ⟨_, _, _, hsilent⟩ := htakes
    rw [if_neg hfits.not_gt, if_neg (mt s.inUse_iff.1 huse), if_neg (hsum ▸ henough).not_gt] at hjudged
    exact ⟨poolBlocks nb, poolBlocks_val nb,
      commandStep_silent htakes hjudged ((s.outbox_applySplit nb).trans hsilent)⟩

end Sys2Proof.Proofs
end

section
/-! What an operation can do to the call parsers: nothing that recognition can bring about (R157) reaches a parser.
A key-up takes a decision point, and there only a CLOSING channel can reach OFFLINE, which resets its parser (R145). -/

namespace Sys2Proof.Machine

/-- Every channel keeps its call parser, and none becomes CLOSING. -/
structure State.KeepsParsers (s t : State) : Prop where
  parser : ∀ c, (t.chan c).parser = (s.chan c).parser
  closing : ∀ c, (t.chan c).state = .closing → (s.chan c).state = .closing

theorem State.KeepsParsers.of_channels_eq {s t : State} (h : t.channels = s.channels) : s.KeepsParsers t := by
  have hchan : t.chan = s.chan := congrArg vget h
  exact ⟨fun c => by rw [hchan], fun c hc => by rwa [hchan] at hc⟩

theorem State.KeepsParsers.refl (s : State) : s.KeepsParsers s := .of_channels_eq rfl

theorem State.KeepsParsers.trans {s t u : State} (h : s.KeepsParsers t) (g : t.KeepsParsers u) : s.KeepsParsers u :=
  ⟨fun c => (g.parser c).trans (h.parser c), fun c hc => h.closing c (g.closing c hc)⟩

theorem State.KeepsParsers.ite {s t u : State} {p : Prop} [Decidable p] (h : p → s.KeepsParsers t)
    (g : ¬p → s.KeepsParsers u) : s.KeepsParsers (if p then t else u) := by
  split
  · exact h ‹_›
  · exact g ‹_›

theorem State.KeepsParsers.foldl {α : Type} {f : State → α → State} (h : ∀ s x, State.KeepsParsers s (f s x))
    (xs : List α) (s : State) : s.KeepsParsers (xs.foldl f s) := by
  induction xs generalizing s with
  | nil => exact .refl s
  | cons x xs ih => exact (h s x).trans (ih (f s x))

section
variable (s : State) (c : ChannelNo)

/-- A change of a channel that leaves its parser alone; most leave its state alone too, which is the default. -/
theorem State.modChan_keepsParsers {f : Channel → Channel}
    (h : ∀ ch, (f ch).parser = ch.parser ∧ ((f ch).state = .closing → ch.state = .closing) := by
      exact fun _ => ⟨rfl, id⟩) : s.KeepsParsers (s.modChan c f) := by
  constructor <;> intro d <;> rw [State.chan_modChan] <;> split
  case parser.isTrue hd => exact hd ▸ (h _).1
  case parser.isFalse => rfl
  case closing.isTrue hd => exact hd ▸ (h _).2
  case closing.isFalse => exact id

theorem State.modDesc_keepsParsers (h : Handle) (f : Descriptor → Descriptor) : s.KeepsParsers (s.modDesc h f) :=
  .of_channels_eq rfl

theorem State.emit_keepsParsers (e : Event) (ch : Option ChannelNo) (fs : List Field) :
    s.KeepsParsers (s.emit e ch fs) := .of_channels_eq rfl

theorem State.modStats_keepsParsers (f : Stats → Stats) : s.KeepsParsers (s.modStats c f) := s.modChan_keepsParsers c

theorem State.modRx_keepsParsers (f : RxCounts → RxCounts) : s.KeepsParsers (s.modRx c f) := s.modChan_keepsParsers c

/-! ### Credit and the places of messages -/

theorem State.rejudgeGrant_channels : s.rejudgeGrant.channels = s.channels := by
  unfold State.rejudgeGrant State.judgeGrant
  repeat' split
  all_goals rfl

theorem Channel.setQueue_keepsParser (ch : Channel) (k : MsgClass) (q : List Handle) :
    (ch.setQueue k q).parser = ch.parser ∧ ((ch.setQueue k q).state = .closing → ch.state = .closing) := by
  cases k <;> exact ⟨rfl, id⟩

theorem State.toHead_keepsParsers (h : Handle) (f : Descriptor → Descriptor) : s.KeepsParsers (s.toHead h f) :=
  ((s.modChan_keepsParsers _ (f := (·.detach h))).trans (State.modDesc_keepsParsers _ h f)).trans
    (State.modChan_keepsParsers _ _ fun ch => ch.setQueue_keepsParser ..)

theorem State.freeWith_keepsParsers (h : Handle) (e : Event) (fs : List Field) : s.KeepsParsers (s.freeWith h e fs) :=
  (s.modChan_keepsParsers (s.desc h).channel (f := (·.detach h))).trans
    (.of_channels_eq (State.rejudgeGrant_channels _))

/-! ### The Broadcast Schedule -/

theorem State.recordOutcome_keepsParsers (q : Request) (o : BulletinOutcome) (lateness : Option Nat) (quiet : Bool) :
    s.KeepsParsers (s.recordOutcome c q o lateness quiet) := by
  have hcount := fun fs => (s.emit_keepsParsers .outcome (some c) fs).trans
    (State.modStats_keepsParsers _ c (·.countOutcome o))
  have hadvance (u : State) : u.KeepsParsers (u.advanceOverrun c) :=
    .ite (fun _ => u.modStats_keepsParsers c _) fun _ =>
      (u.modStats_keepsParsers c _).trans (State.emit_keepsParsers ..)
  exact .ite (fun _ => (hcount _).trans (hadvance _)) fun _ => hcount _

theorem State.endRequest_keepsParsers (q : Request) (o : BulletinOutcome) (lateness : Option Nat) (quiet : Bool) :
    s.KeepsParsers (s.endRequest c q o lateness quiet) :=
  (s.modChan_keepsParsers c).trans (State.recordOutcome_keepsParsers ..)

theorem State.placeRequest_keepsParsers (i : SlotNo) (due : Nat) : s.KeepsParsers (s.placeRequest i due c) :=
  .ite (fun _ => s.recordOutcome_keepsParsers ..) fun _ => .ite (fun _ => .refl s) fun _ =>
    .ite (fun _ => s.recordOutcome_keepsParsers ..) fun _ => s.modChan_keepsParsers c (f := fun ch =>
      { ch with requests := insertRequest (s.newRequest i due c) ch.requests })

theorem State.takeOccurrence_keepsParsers (i : SlotNo) : s.KeepsParsers (s.takeOccurrence i) := by
  unfold State.takeOccurrence
  split
  case h_1 => exact .refl s
  case h_2 due _ =>
    exact (State.KeepsParsers.foldl (fun s c => s.placeRequest_keepsParsers c i due) _ s).trans (.of_channels_eq rfl)

theorem State.takeOccurrences_keepsParsers (is : List SlotNo) : s.KeepsParsers (s.takeOccurrences is) :=
  have hdrawn : s.KeepsParsers s.drawn := .of_channels_eq rfl
  hdrawn.trans (.foldl State.takeOccurrence_keepsParsers _ _)

theorem State.judgeBoundary_keepsParsers : s.KeepsParsers (s.judgeBoundary c) :=
  .ite (fun _ => .foldl (fun s q => s.endRequest_keepsParsers c q _ _ false) _ s) fun _ => .refl s

/-! ### The Channel Interleaver -/

theorem State.beginItem_keepsParsers (it : Item) : s.KeepsParsers (s.beginItem c it) := s.modChan_keepsParsers c

theorem State.recordFit_keepsParsers (f : FitRecord) : s.KeepsParsers (s.recordFit c f) := s.modChan_keepsParsers c

theorem State.idleOrUnkey_keepsParsers : s.KeepsParsers (s.idleOrUnkey c) :=
  have hunkey : s.KeepsParsers (s.unkey c) :=
    (s.modChan_keepsParsers c (by exact fun _ => ⟨rfl, nofun⟩)).trans (State.emit_keepsParsers ..)
  .ite (fun _ => hunkey) fun _ => s.modChan_keepsParsers c

theorem State.startTelex_keepsParsers (h : Handle) (e : Nat) (fresh : Bool) :
    s.KeepsParsers (s.startTelex c h e fresh) := by
  have htaken : s.KeepsParsers (if fresh then
      s.modChan c fun ch => { ch.detach h with active := some h, urgentRun := ch.nextRun (s.desc h).cls }
    else s) := .ite (fun _ => s.modChan_keepsParsers c) fun _ => .refl s
  have hactive := htaken.trans (State.modDesc_keepsParsers _ h fun d => { d with state := .active })
  exact .ite (fun _ => (hactive.trans (State.beginItem_keepsParsers ..)).trans (State.emit_keepsParsers ..)) fun _ =>
    hactive.trans (State.beginItem_keepsParsers ..)

theorem State.tryTelex_keepsParsers (h : Handle) (fresh : Bool) : s.KeepsParsers (s.tryTelex c h fresh) := by
  unfold State.tryTelex
  dsimp only
  split
  case h_1 => exact (s.recordFit_keepsParsers c _).trans (State.startTelex_keepsParsers ..)
  case h_2 => exact (s.recordFit_keepsParsers c _).trans (State.idleOrUnkey_keepsParsers ..)

theorem State.selectNew_keepsParsers : s.KeepsParsers (s.selectNew c) := by
  refine .ite (fun _ => s.idleOrUnkey_keepsParsers c) fun _ => ?_
  split
  case h_1 => exact s.tryTelex_keepsParsers ..
  case h_2 => exact s.idleOrUnkey_keepsParsers c

theorem State.selectTelex_keepsParsers : s.KeepsParsers (s.selectTelex c) := by
  unfold State.selectTelex
  split
  case h_1 => exact .ite (fun _ => ((s.toHead_keepsParsers ..).trans (State.emit_keepsParsers ..)).trans
      (State.selectNew_keepsParsers ..)) fun _ => s.tryTelex_keepsParsers ..
  case h_2 => exact s.selectNew_keepsParsers c

theorem State.enterArea_keepsParsers (a : AreaNo) : s.KeepsParsers (s.enterArea a) := .of_channels_eq rfl

theorem State.startBulletin_keepsParsers (q : Request) : s.KeepsParsers (s.startBulletin c q) :=
  ((s.modChan_keepsParsers c).trans (State.enterArea_keepsParsers ..)).trans (State.beginItem_keepsParsers ..)

theorem State.startDue_keepsParsers (qs : List Request) : s.KeepsParsers (s.startDue c qs) := by
  induction qs generalizing s with
  | nil => exact s.selectTelex_keepsParsers c
  | cons q qs ih =>
    have hended (o : BulletinOutcome) (lateness : Option Nat) :=
      (s.endRequest_keepsParsers c q o lateness false).trans (ih _)
    exact .ite (fun _ => .ite (fun _ => hended _ _) fun _ =>
      .ite (fun _ => s.startBulletin_keepsParsers c q) fun _ => hended _ _) fun _ => ih s

theorem State.select_keepsParsers : s.KeepsParsers (s.select c) := by
  unfold State.select
  split
  case h_1 => exact (s.modDesc_keepsParsers ..).trans (State.beginItem_keepsParsers ..)
  case h_2 => exact s.startDue_keepsParsers ..

theorem State.settle_keepsParsers (h : Handle) : s.KeepsParsers (s.settle c h) := by
  have hmarker := fun (u : State) (p : Purpose) => u.beginItem_keepsParsers c (.marker (.message h) p 0)
  refine .ite (fun _ => hmarker s _) fun _ => .ite (fun _ => hmarker s _) fun _ => .ite (fun _ => hmarker s _) fun _ =>
    .ite (fun _ => hmarker s _) fun _ => .ite (fun _ => hmarker s _) fun _ => ?_
  dsimp only
  split
  case h_1 => exact (s.recordFit_keepsParsers c _).trans (State.beginItem_keepsParsers ..)
  case h_2 => exact (s.recordFit_keepsParsers c _).trans (hmarker _ _)

end

section
variable {s : State} {c : ChannelNo}

/-- R105, R145. A channel that is not CLOSING does not reach OFFLINE at a decision point. -/
theorem State.decisionPoint_keepsParsers (cut : Option Closes) (hc : (s.chan c).state ≠ .closing) :
    s.KeepsParsers (s.decisionPoint c cut) := by
  have htaken := s.takeOccurrences_keepsParsers (s.dueSlotsNaming c)
  refine .trans ?_ (State.judgeBoundary_keepsParsers _ c)
  unfold State.atDecision
  dsimp only
  split
  case h_1 => exact htaken.trans (State.settle_keepsParsers ..)
  case h_2 =>
    split
    case h_1 => exact htaken.trans (State.beginItem_keepsParsers ..)
    case h_2 =>
      rw [if_neg (mt (htaken.closing c) hc)]
      exact htaken.trans (State.select_keepsParsers ..)

end

/-! ### Key-up -/

theorem State.keyUp_keepsParsers (s : State) (c : ChannelNo) : s.KeepsParsers (s.keyUp c) := by
  have hrise : s.KeepsParsers (s.modChan c fun ch => { ch with state := .keyUp, keyRise := s.clock.elapsed }) :=
    s.modChan_keepsParsers c (by exact fun _ => ⟨rfl, nofun⟩)
  refine .ite (fun _ => hrise.trans ?_) fun _ => hrise
  have hkeyed (u : State) : u.KeepsParsers (u.keyed c) :=
    u.modChan_keepsParsers c (by exact fun _ => ⟨rfl, nofun⟩)
  refine ((hkeyed _).trans (State.decisionPoint_keepsParsers none ?_)).trans (State.emit_keepsParsers ..)
  simp [State.keyed]

theorem State.judgeWithin_keepsParsers (n : Nat) (cs : List ChannelNo) (s : State) :
    s.KeepsParsers (State.judgeWithin n cs s) := by
  induction n generalizing cs s with
  | zero => exact .refl s
  | succ n ih =>
    cases cs with
    | nil => exact .refl s
    | cons c cs => exact .ite (fun _ => (s.keyUp_keepsParsers c).trans (ih _ _)) fun _ => ih cs s

theorem State.judgeKeyUp_keepsParsers (s : State) (cs : List ChannelNo) : s.KeepsParsers (s.judgeKeyUp cs) :=
  State.judgeWithin_keepsParsers judgeBound cs s

/-! ### The Receive Watch -/

section
variable (s : State) (c : ChannelNo)

theorem State.capture_keepsParsers (p : Parser) : s.KeepsParsers (s.capture c p) :=
  .ite (fun _ => s.modRx_keepsParsers c _) fun _ =>
    (s.modChan_keepsParsers c).trans (State.emit_keepsParsers ..)

theorem State.holdCall_keepsParsers (ship n : Nat) : s.KeepsParsers (s.holdCall c ship n) := by
  have hcounted : s.KeepsParsers (s.countHold c) := s.modRx_keepsParsers c _
  have htable (f : List Hold → List Hold) := hcounted.trans
    (State.modChan_keepsParsers _ c (f := fun ch => { ch with holds := f ch.holds }))
  unfold State.holdCall
  dsimp only
  split
  case h_1 =>
    exact .ite (fun _ => ((htable _).trans (State.emit_keepsParsers ..)).trans (State.judgeKeyUp_keepsParsers ..))
      fun _ => (htable _).trans (State.emit_keepsParsers ..)
  case h_2 =>
    have hcreated := htable (· ++ [s.newHold c ship n])
    exact .ite (fun _ => hcounted) fun _ =>
      .ite (fun _ => (hcreated.trans (State.emit_keepsParsers ..)).trans (State.judgeKeyUp_keepsParsers ..)) fun _ =>
        (s.modRx_keepsParsers c _).trans (State.emit_keepsParsers ..)

theorem State.repeatMessage_keepsParsers (h : Handle) : s.KeepsParsers (s.repeatMessage c h) :=
  .ite (fun _ => (((s.toHead_keepsParsers ..).trans (State.modDesc_keepsParsers ..)).trans
    (State.emit_keepsParsers ..)).trans (State.judgeKeyUp_keepsParsers ..)) fun _ => s.emit_keepsParsers ..

theorem State.deliverCall_keepsParsers (f : CallForm) (ship n : Nat) : s.KeepsParsers (s.deliverCall c f ship n) := by
  have hunmatched : s.KeepsParsers (s.unmatchedCall c f ship n) :=
    (s.modRx_keepsParsers c _).trans (State.emit_keepsParsers ..)
  refine .ite (fun _ => hunmatched) fun _ => ?_
  split
  case h_1 => exact hunmatched
  case h_2 h _ =>
    split
    case h_1 => exact (s.freeWith_keepsParsers ..).trans (State.modRx_keepsParsers ..)
    case h_2 => exact (s.repeatMessage_keepsParsers c h).trans (State.modRx_keepsParsers ..)

/-- Recognition leaves every call parser alone (R157). -/
theorem State.recognise_keepsParsers (p : Parser) : s.KeepsParsers (s.recognise c p) := by
  unfold State.recognise
  split
  case h_1 => exact s.holdCall_keepsParsers ..
  case h_2 => exact s.deliverCall_keepsParsers ..
  case h_3 => exact s.capture_keepsParsers c p

end

end Sys2Proof.Machine
end

section
/-! One symbol at a running watch (R152 to R156): what is counted, and the parser after it. -/

namespace Sys2Proof.Machine

/-! ### The verdict of one symbol -/

theorem isPhasing_iff (y : Nat) (mutilated : Bool) :
    (!mutilated && y == symPhasing) = true ↔ y = 6 ∧ mutilated = false := by
  simp [symPhasing, and_comm]

/-- R156. An undamaged PHASING begins a run, and every other symbol stays in SKIP. -/
theorem Parser.symbol_skip {p : Parser} (hskip : p.state = .skip) (k copies y : Nat) (mutilated : Bool) :
    p.symbol k copies y mutilated = (if y = 6 ∧ mutilated = false then p.newRun else p, .going) := by
  simp only [Parser.symbol, hskip, isPhasing_iff]
  exact (apply_ite (·, Verdict.going) ..).symm

/-- All that a symbol in IDENT can do (R154): the call is rejected into SKIP, or by an undamaged PHASING into a new run,
or it is not rejected. -/
theorem Parser.identSymbol_cases (p : Parser) (copies y : Nat) (mutilated : Bool) :
    p.identSymbol copies y mutilated = (p.toSkip, .rejected)
      ∨ (y = 6 ∧ mutilated = false) ∧ p.identSymbol copies y mutilated = (p.newRun, .rejected)
      ∨ (p.identSymbol copies y mutilated).2 = .going
      ∨ (p.identSymbol copies y mutilated).2 = .accepted := by
  fun_cases Parser.identSymbol
  case case1 =>
    by_cases hphasing : (!mutilated && y == symPhasing) = true
    · exact .inr (.inl ⟨(isPhasing_iff y mutilated).1 hphasing, by rw [hphasing]; rfl⟩)
    · exact .inl (by rw [Bool.eq_false_of_not_eq_true hphasing]; rfl)
  case case2 => exact .inl rfl
  case case3 => exact .inr (.inr (.inl rfl))
  case case4 => exact .inl rfl
  case case5 => exact .inr (.inr (.inr rfl))

/-- R155. The symbol that brings a body to 64 cuts it. -/
theorem Parser.symbol_body_full {p : Parser} (hbody : p.state = .body) (hlen : p.body.length = 63) {y : Nat}
    {mutilated : Bool} (hjoins : mutilated = true ∨ y ∉ [0, 4, 5, 6]) (k copies : Nat) :
    (p.symbol k copies y mutilated).1 = p.toSkip := by
  have hidle : ¬(!mutilated && y == symIdle) = true := by
    rcases hjoins with hm | hy <;> simp_all [symIdle]
  have hphasing : ¬(!mutilated && y == symPhasing) = true := by
    rcases hjoins with hm | hy <;> simp_all [symPhasing]
  have hjoined : (p.joinBody y mutilated).1 = p.toSkip := by
    simp [Parser.joinBody, maxCallBody, hlen, Parser.toSkip]
  simp only [Parser.symbol, hbody, if_neg hidle, if_neg hphasing, hjoined]

/-! ### Taking a symbol -/

/-- An undamaged shift, which a running watch passes over (R152). -/
def isShift (y : Nat) (mutilated : Bool) : Bool := !mutilated && (y == symLtrs || y == symFigs)

theorem isShift_iff (y : Nat) (mutilated : Bool) :
    isShift y mutilated = true ↔ mutilated = false ∧ (y = 4 ∨ y = 5) := by
  simp [isShift, symLtrs, symFigs]

theorem RxCounts.counted_eq (r : RxCounts) (mutilated : Bool) : r.counted mutilated = { r with
    symbols := satSucc max32 r.symbols
    mutilated := if mutilated then satSucc max32 r.mutilated else r.mutilated } := by
  cases mutilated <;> rfl

section
variable (s : State) (c : ChannelNo) (y : Nat) (mutilated : Bool)

/-- What a symbol that is not passed over does to the parser of a channel. -/
def State.verdict : Parser × Verdict :=
  (s.chan c).parser.symbol (s.chan c).settings.phasingRun (s.chan c).settings.copies y mutilated

/-- The symbol is counted and parsed, and its verdict is yet to be acted on. -/
def State.parsed : State :=
  s.setChan c { s.chan c with parser := (s.verdict c y mutilated).1, rx := (s.chan c).rx.counted mutilated }

@[simp] theorem State.chan_parsed : (s.parsed c y mutilated).chan c =
    { s.chan c with parser := (s.verdict c y mutilated).1, rx := (s.chan c).rx.counted mutilated } := by
  simp [State.parsed]

/-- R152. An undamaged shift is counted and passed over. -/
theorem State.takeSymbol_of_isShift (hshift : isShift y mutilated = true) :
    s.takeSymbol c y mutilated = s.setChan c { s.chan c with rx := (s.chan c).rx.counted mutilated } := by
  rw [RxCounts.counted_eq]
  exact if_pos hshift

/-- All that a symbol other than an undamaged shift can do, by its verdict (R153 to R156). -/
theorem State.takeSymbol_cases (hshift : ¬isShift y mutilated = true) :
    let v := (s.verdict c y mutilated).2
    let t := s.parsed c y mutilated
    (v = .going ∧ s.takeSymbol c y mutilated = t)
      ∨ (v = .accepted
        ∧ s.takeSymbol c y mutilated = t.modRx c fun r => { r with accepted := satSucc max32 r.accepted })
      ∨ (v = .rejected
        ∧ s.takeSymbol c y mutilated = t.modRx c fun r => { r with rejected := satSucc max32 r.rejected })
      ∨ ∃ call, v = .ended call ∧ s.takeSymbol c y mutilated = t.recognise c call := by
  intro v t
  have hparsed : (s.modRx c fun r => { r with
      symbols := satSucc max32 r.symbols
      mutilated := if mutilated then satSucc max32 r.mutilated else r.mutilated }).modParser c
        (fun _ => (s.verdict c y mutilated).1) = t := by
    simp [t, State.parsed, State.modParser, State.modRx, State.modChan, RxCounts.counted_eq]
  fun_cases State.takeSymbol s c y mutilated
  case case1 h => exact absurd h hshift
  case case2 hgoing => exact .inl ⟨hgoing, hparsed⟩
  case case3 haccepted => exact .inr (.inl ⟨haccepted, congrArg (State.modRx · c _) hparsed⟩)
  case case4 hrejected => exact .inr (.inr (.inl ⟨hrejected, congrArg (State.modRx · c _) hparsed⟩))
  case case5 call hended => exact .inr (.inr (.inr ⟨call, hended, congrArg (State.recognise · c call) hparsed⟩))

variable {s c y mutilated}

/-- Whatever the verdict brings about, the parser stays as the symbol left it. -/
theorem State.parser_takeSymbol (hshift : ¬isShift y mutilated = true) :
    ((s.takeSymbol c y mutilated).chan c).parser = (s.verdict c y mutilated).1 := by
  have hkeeps : (s.parsed c y mutilated).KeepsParsers (s.takeSymbol c y mutilated) := by
    rcases s.takeSymbol_cases c y mutilated hshift with ⟨-, h⟩ | ⟨-, h⟩ | ⟨-, h⟩ | ⟨call, -, h⟩ <;> rw [h]
    · exact .refl _
    · exact State.modRx_keepsParsers ..
    · exact State.modRx_keepsParsers ..
    · exact State.recognise_keepsParsers ..
  rw [hkeeps.parser c, State.chan_parsed]

theorem State.rejected_takeSymbol_of_isShift (hshift : isShift y mutilated = true) :
    ((s.takeSymbol c y mutilated).chan c).rx.rejected = (s.chan c).rx.rejected := by
  rw [s.takeSymbol_of_isShift c y mutilated hshift, State.chan_setChan, if_pos rfl]
  rfl

/-- A symbol that goes on, or that completes an identity, rejects no call. -/
theorem State.rejected_takeSymbol (hshift : ¬isShift y mutilated = true)
    (hv : (s.verdict c y mutilated).2 = .going ∨ (s.verdict c y mutilated).2 = .accepted) :
    ((s.takeSymbol c y mutilated).chan c).rx.rejected = (s.chan c).rx.rejected := by
  rcases s.takeSymbol_cases c y mutilated hshift with ⟨-, h⟩ | ⟨-, h⟩ | ⟨hr, -⟩ | ⟨call, he, -⟩
  · rw [h, State.chan_parsed]
    rfl
  · rw [h, State.modRx, State.chan_modChan, if_pos rfl, State.chan_parsed]
    rfl
  · simp [hr] at hv
  · simp [he] at hv

theorem exec_receivedSymbol (hon : (s.chan c).state ≠ .offline) :
    exec (.receivedSymbol c y mutilated) s = .next (s.takeSymbol c y mutilated).flush :=
  congrArg eventStep (if_neg hon)

/-- R156. A symbol in SKIP is counted, and the parser leaves SKIP by an undamaged PHASING alone. -/
theorem State.takeSymbol_of_skip (hskip : (s.chan c).parser.state = .skip) :
    s.takeSymbol c y mutilated = s.setChan c { s.chan c with
      parser := if y = 6 ∧ mutilated = false then (s.chan c).parser.newRun else (s.chan c).parser
      rx := (s.chan c).rx.counted mutilated } := by
  by_cases hshift : isShift y mutilated = true
  · have hother : ¬(y = 6 ∧ mutilated = false) := by
      have := (isShift_iff y mutilated).1 hshift
      omega
    rw [s.takeSymbol_of_isShift c y mutilated hshift, if_neg hother]
  · have hv := Parser.symbol_skip hskip (s.chan c).settings.phasingRun (s.chan c).settings.copies y mutilated
    rw [← State.verdict] at hv
    rcases s.takeSymbol_cases c y mutilated hshift with ⟨-, h⟩ | ⟨hne, -⟩ | ⟨hne, -⟩ | ⟨call, hne, -⟩
    · rw [h, State.parsed, hv]
    all_goals simp [hv] at hne

/-- R154, R156. A symbol that rejects the identity, other than an undamaged PHASING, leaves the parser in SKIP. -/
theorem State.takeSymbol_skips_of_rejected (hident : (s.chan c).parser.state = .ident)
    (hrejected : ((s.takeSymbol c y mutilated).chan c).rx.rejected ≠ (s.chan c).rx.rejected)
    (hother : ¬(y = 6 ∧ mutilated = false)) : ((s.takeSymbol c y mutilated).chan c).parser.state = .skip := by
  have hshift : ¬isShift y mutilated = true := mt State.rejected_takeSymbol_of_isShift hrejected
  have hv : s.verdict c y mutilated = (s.chan c).parser.identSymbol (s.chan c).settings.copies y mutilated := by
    simp only [State.verdict, Parser.symbol, hident]
  rcases Parser.identSymbol_cases (s.chan c).parser (s.chan c).settings.copies y mutilated with
    hskip | ⟨hphasing, -⟩ | hkept
  · rw [State.parser_takeSymbol hshift, hv, hskip]
    rfl
  · exact absurd hphasing hother
  · exact absurd (State.rejected_takeSymbol hshift (hv ▸ hkept)) hrejected

/-- R155, R156. The symbol that cuts a body at 64 leaves the parser in SKIP, whatever the call asks for. -/
theorem State.takeSymbol_skips_of_cut (hbody : (s.chan c).parser.state = .body)
    (hlen : (s.chan c).parser.body.length = 63) (hjoins : mutilated = true ∨ y ∉ [0, 4, 5, 6]) :
    ((s.takeSymbol c y mutilated).chan c).parser.state = .skip := by
  have hshift : ¬isShift y mutilated = true := by
    rw [isShift_iff]
    rcases hjoins with hm | hy <;> simp_all
  rw [State.parser_takeSymbol hshift, State.verdict, Parser.symbol_body_full hbody hlen hjoins]
  rfl

end

end Sys2Proof.Machine

namespace Sys2Proof.Proofs

open Sys2Proof.Machine

/-- Settles O54: one symbol is taken in SKIP, in IDENT and at the cut of a body; what recognition then brings about leaves
the parser alone. -/
theorem skipWaitsForPhasing : Obligations.SkipWaitsForPhasing := by
  unfold Obligations.SkipWaitsForPhasing
  intro s c y mutilated hsilent hon ch p x after
  have hx : x = .next (s.takeSymbol c y mutilated).flush := exec_receivedSymbol hon
  have htaken {t : State} (ht : x = .next t) : t = (s.takeSymbol c y mutilated).flush :=
    Host.Outcome.next.inj (ht.symm.trans hx)
  refine ⟨fun hskip => ?skip, fun t hident ht hrejected hother => ?rejected, fun t hbody hlen hjoins ht => ?cut⟩
  case skip =>
    rw [hx, State.takeSymbol_of_skip hskip, State.flush_eq (by exact hsilent)]
    split <;> rfl
  case rejected =>
    cases htaken ht
    exact State.takeSymbol_skips_of_rejected hident hrejected hother
  case cut =>
    cases htaken ht
    exact State.takeSymbol_skips_of_cut hbody hlen hjoins

end Sys2Proof.Proofs
end

section
/-! What one step can do: the frame, the byte or the event that it takes, and what an accepted command and an event do to
the state. Every law that the steps keep is derived from these inversions. -/

namespace Sys2Proof.Machine

/-! ### The parts apart from the Office Link -/

/-- `t` differs from `s` in the Office Link and the model's own fields alone. -/
structure State.SameParts (s t : State) : Prop where
  clock : t.clock = s.clock
  store : t.store = s.store
  loadUnit : t.loadUnit = s.loadUnit
  descs : t.descs = s.descs
  slots : t.slots = s.slots
  channels : t.channels = s.channels
  watches : t.watches = s.watches

theorem State.SameParts.refl (s : State) : s.SameParts s := ⟨rfl, rfl, rfl, rfl, rfl, rfl, rfl⟩

theorem State.SameParts.trans {s t u : State} (h : s.SameParts t) (g : t.SameParts u) : s.SameParts u :=
  ⟨g.clock.trans h.clock, g.store.trans h.store, g.loadUnit.trans h.loadUnit, g.descs.trans h.descs,
    g.slots.trans h.slots, g.channels.trans h.channels, g.watches.trans h.watches⟩

theorem State.SameParts.chan {s t : State} (h : s.SameParts t) : t.chan = s.chan := congrArg vget h.channels

theorem State.SameParts.desc {s t : State} (h : s.SameParts t) : t.desc = s.desc := congrArg vget h.descs

theorem State.SameParts.slot {s t : State} (h : s.SameParts t) : t.slot = s.slot := congrArg vget h.slots

theorem State.SameParts.area {s t : State} (h : s.SameParts t) : t.area = s.area :=
  congrArg (fun x : Store => vget x.areas) h.store

theorem State.modLink_sameParts (s : State) (f : Link → Link) : s.SameParts (s.modLink f) :=
  ⟨rfl, rfl, rfl, rfl, rfl, rfl, rfl⟩

theorem State.flush_sameParts (s : State) : s.SameParts s.flush := ⟨rfl, rfl, rfl, rfl, rfl, rfl, rfl⟩

theorem State.drawn_sameParts (s : State) : s.SameParts s.drawn := ⟨rfl, rfl, rfl, rfl, rfl, rfl, rfl⟩

theorem State.withPending_sameParts (s : State) (cs : List Instr) : s.SameParts (s.withPending cs) :=
  ⟨rfl, rfl, rfl, rfl, rfl, rfl, rfl⟩

/-! ### What an accepted command does -/

/-- What an accepted command does, with the guards under which it was accepted. -/
inductive State.Obeys (s : State) : State → Prop
  | reports : s.Obeys s
  | clearCounts : s.Obeys (s.modLink Link.clearCounts)
  | masks (cats chans : BitVec 8) : s.Obeys (s.modLink fun k => { k with categories := cats, channels := chans })
  | setClock (day ms : Nat) (hday : day ≤ 65535) (hms : ms ≤ 86399999) : s.Obeys (s.applyClock day ms)
  | setSplit (nb : Nat) (hnb : nb ≤ 512) (harea : s.anyArea = false) (hload : s.loadUnit.current = none)
      (hchain : s.anyChain = false) (hreserves : s.reserveSum ≤ 1024 - nb) : s.Obeys (s.applySplit nb)
  | defineArea (a : AreaNo) (first last : Nat) (hbusy : s.areaBusy a = false) :
      s.Obeys (s.setArea a ⟨.empty, first, last, (last - first + 1) * Config.blockCells, 0, 0⟩)
  | clearArea (a : AreaNo) (hbusy : s.areaBusy a = false) : s.Obeys (s.setArea a Area.reset)
  | setAllowance (c : ChannelNo) (reserve cap : Nat) (hcap : reserve ≤ cap) (hpool : cap ≤ s.poolSize)
      (hreserves : reserve + s.otherReserves c ≤ s.poolSize) : s.Obeys (s.applyAllowance c reserve cap)
  | setGrain (g : Nat) : s.Obeys (s.applyGrain g)
  | declare (d : Declaration) (h : Handle) (c : ChannelNo) (hload : s.loadUnit.current = none)
      (hdup : s.duplicate c d.number = false) (hfree : s.lowestFree = some h) : s.Obeys (s.applyDeclare d h c)
  | openBulletin (a : AreaNo) (n : Nat) (hload : s.loadUnit.current = none) (hdef : (s.area a).state ≠ .undefined)
      (hair : (s.area a).onAir = 0) : s.Obeys (s.applyOpen a n)
  | text (l : OpenLoad) (body : Body) (hload : s.loadUnit.current = some l) (hcredit : body.length ≤ l.outstanding) :
      s.Obeys (s.takeText l body).afterText
  | abandon (l : OpenLoad) (hload : s.loadUnit.current = some l) : s.Obeys (s.abandon l)
  | cancelNow (h : Handle) (hstate : (s.desc h).state ∈ [.ready, .suspended, .parked]) : s.Obeys (s.cancelNow h)
  | cancelLater (h : Handle) (hstate : (s.desc h).state = .active) (hcls : (s.desc h).cls ≠ .relay) :
      s.Obeys (s.cancelLater h)
  | discard (h : Handle) (hstate : (s.desc h).state ∈ [.awaitAck, .unconfirmed]) : s.Obeys (s.freeSilent h)
  | requeue (h : Handle) (hstate : (s.desc h).state ∈ [.awaitAck, .unconfirmed]) :
      s.Obeys ((s.requeueReady h).judgeKeyUp [(s.desc h).channel])
  | changeSlot (i : SlotNo) (e : Slot) : s.Obeys (s.changeSlot i e)
  | setChannel (c : ChannelNo) (x : Settings) (hoff : (s.chan c).state = .offline) (hx : x.inRange = true) :
      s.Obeys (s.modChan c fun ch => { ch with settings := x })
  | openPort (c : ChannelNo) (hoff : (s.chan c).state = .offline) : s.Obeys (s.openPort c)
  | restorePort (c : ChannelNo) (hfault : (s.chan c).state = .faulted) : s.Obeys (s.restorePort c)
  | closePort (c : ChannelNo) : s.Obeys (s.closePort c)
  | resetPort (c : ChannelNo) : s.Obeys (s.resetPort c)
  | clearStats (c : ChannelNo) : s.Obeys (s.modStats c fun _ => Stats.reset)
  | setWatch (w : WatchNo) (p : Option Pattern) : s.Obeys (s.setWatch w p)
  | releaseLatch (c : ChannelNo) : s.Obeys (s.modChan c fun ch => { ch with latch := none })
  | clearHold (c : ChannelNo) (ship : Nat) : s.Obeys ((s.dropHold c ship).judgeKeyUp [c])
  | clearRx (c : ChannelNo) : s.Obeys (s.modRx c fun _ => RxCounts.reset)

section
variable {s t : State} {body : Body} {fs : List Field}

/-- An accepted command with a number in its body has accepted that number. -/
theorem onChannel_ok {f : ChannelNo → Judged} {x : State × List Field} (h : onChannel body f = .ok x) :
    ∃ c, f c = .ok x := by
  unfold onChannel at h
  split at h
  · split at h
    · exact ⟨_, h⟩
    · cases h
  · cases h

theorem onHandle_ok {f : Handle → Judged} {x : State × List Field} (h : onHandle body f = .ok x) : ∃ g, f g = .ok x := by
  unfold onHandle at h
  split at h
  · exact ⟨_, h⟩
  · cases h

theorem onSlot_ok {f : SlotNo → Judged} {x : State × List Field} (h : onSlot body f = .ok x) : ∃ i, f i = .ok x := by
  unfold onSlot at h
  split at h
  · split at h
    · exact ⟨_, h⟩
    · cases h
  · cases h

theorem onWatch_ok {f : WatchNo → Judged} {x : State × List Field} (h : onWatch body f = .ok x) : ∃ w, f w = .ok x := by
  unfold onWatch at h
  split at h
  · split at h
    · exact ⟨_, h⟩
    · cases h
  · cases h

theorem onEmpty_ok {j : Judged} {x : State × List Field} (h : onEmpty body j = .ok x) : j = .ok x := by
  unfold onEmpty at h
  split at h
  · exact h
  · cases h

/-- A number of two bytes is at most 65,535. -/
theorem be_pair_le (x y : Byte) : be [x, y] ≤ 65535 := by
  have := be_lt [x, y]
  simp only [List.length_cons, List.length_nil] at this
  omega

theorem doReadLink_ok (h : doReadLink body s = .ok (t, fs)) : s.Obeys t := by
  unfold doReadLink at h
  split at h
  · split at h <;> cases h
    split
    · exact .clearCounts
    · exact .reports
  · cases h

theorem doSetNotices_ok (h : doSetNotices body s = .ok (t, fs)) : s.Obeys t := by
  unfold doSetNotices at h
  split at h
  · split at h <;> cases h
    exact .masks ..
  · cases h

theorem doSetClock_ok (h : doSetClock body s = .ok (t, fs)) : s.Obeys t := by
  unfold doSetClock at h
  split at h
  · split at h
    case isTrue => cases h
    case isFalse hms =>
      obtain ⟨rfl, -⟩ := Prod.mk.inj (Except.ok.inj h)
      exact .setClock _ _ (be_pair_le ..) (Nat.le_of_not_lt hms)
  · cases h

theorem doSetSplit_ok (h : doSetSplit body s = .ok (t, fs)) : s.Obeys t := by
  unfold doSetSplit at h
  split at h
  case h_2 => cases h
  dsimp only at h
  split at h
  case isTrue => cases h
  split at h
  case isTrue => cases h
  split at h
  case isTrue => cases h
  case isFalse hnb huse hreserves =>
    cases h
    simp only [Bool.or_eq_true, not_or, Bool.not_eq_true, Option.isSome_eq_false_iff, Option.isNone_iff_eq_none] at huse
    exact .setSplit _ (by omega) huse.1.1 huse.1.2 huse.2 (Nat.le_of_not_lt hreserves)

theorem doDefineArea_ok (h : doDefineArea body s = .ok (t, fs)) : s.Obeys t := by
  unfold doDefineArea at h
  split at h
  case h_2 => cases h
  dsimp only at h
  split at h
  case h_1 => cases h
  split at h
  case isTrue => cases h
  split at h
  case isTrue => cases h
  split at h
  case isTrue => cases h
  case isFalse hbusy _ =>
    cases h
    exact .defineArea _ _ _ (Bool.eq_false_of_not_eq_true hbusy)

theorem doClearArea_ok (h : doClearArea body s = .ok (t, fs)) : s.Obeys t := by
  unfold doClearArea at h
  split at h
  case h_2 => cases h
  split at h
  case h_1 => cases h
  split at h
  case isTrue => cases h
  case isFalse hbusy =>
    cases h
    exact .clearArea _ (Bool.eq_false_of_not_eq_true hbusy)

theorem doSetAllowance_ok (h : doSetAllowance body s = .ok (t, fs)) : s.Obeys t := by
  unfold doSetAllowance at h
  split at h
  case h_2 => cases h
  dsimp only at h
  split at h
  case h_1 => cases h
  split at h
  case isTrue => cases h
  case isFalse hok =>
    cases h
    exact .setAllowance _ _ _ (by omega) (by omega) (by omega)

theorem doSetLoadGrain_ok (h : doSetLoadGrain body s = .ok (t, fs)) : s.Obeys t := by
  unfold doSetLoadGrain at h
  split at h
  case h_2 => cases h
  dsimp only at h
  split at h
  case isFalse => cases h
  case isTrue =>
    cases h
    exact .setGrain _

theorem declare_ok {d : Declaration} (h : s.declare d = .ok (t, fs)) : s.Obeys t := by
  unfold State.declare at h
  split at h
  case h_1 => cases h
  split at h
  case isTrue => cases h
  split at h
  case isTrue => cases h
  split at h
  case isTrue => cases h
  split at h
  case isTrue => cases h
  split at h
  case h_1 => cases h
  case h_2 hload _ hdup _ g hfree =>
    cases h
    exact .declare d _ _ (by simpa using hload) (Bool.eq_false_of_not_eq_true hdup) hfree

theorem doDeclareMessage_ok (h : doDeclareMessage body s = .ok (t, fs)) : s.Obeys t := by
  unfold doDeclareMessage at h
  split at h
  case h_2 => cases h
  split at h
  case h_2 => cases h
  case h_1 => exact declare_ok h

theorem doOpenBulletin_ok (h : doOpenBulletin body s = .ok (t, fs)) : s.Obeys t := by
  unfold doOpenBulletin at h
  split at h
  case h_2 => cases h
  dsimp only at h
  split at h
  case h_1 => cases h
  split at h
  case isTrue => cases h
  split at h
  case isTrue => cases h
  split at h
  case isTrue => cases h
  split at h
  case isTrue => cases h
  case isFalse hload hdef hair =>
    cases h
    exact .openBulletin _ _ (by simpa using hload) hdef (Nat.eq_zero_of_not_pos hair)

theorem doText_ok (h : doText body s = .ok (t, fs)) : s.Obeys t := by
  unfold doText at h
  split at h
  case isTrue => cases h
  split at h
  case h_1 => cases h
  case h_2 l hload =>
    split at h
    case isTrue => cases h
    case isFalse hcredit =>
      cases h
      exact .text l body hload (Nat.le_of_not_lt hcredit)

theorem doAbandonLoad_ok (h : doAbandonLoad body s = .ok (t, fs)) : s.Obeys t := by
  have h := onEmpty_ok h
  split at h
  case h_1 => cases h
  case h_2 l hload =>
    cases h
    exact .abandon l hload

theorem doListQueue_ok (h : doListQueue body s = .ok (t, fs)) : s.Obeys t := by
  unfold doListQueue at h
  split at h
  case h_2 => cases h
  split at h
  case h_1 => cases h
  split at h
  case h_1 => cases h
  case h_2 =>
    cases h
    exact .reports

theorem doCancel_ok (h : doCancel body s = .ok (t, fs)) : s.Obeys t := by
  obtain ⟨g, h⟩ := onHandle_ok h
  split at h
  case h_1 => cases h
  case h_5 hstate =>
    split at h
    case isTrue => cases h
    case isFalse hcls =>
      cases h
      exact .cancelLater g hstate hcls
  case h_2 hstate =>
    cases h
    exact .cancelNow g (by simp [hstate])
  case h_3 hstate =>
    cases h
    exact .cancelNow g (by simp [hstate])
  case h_4 hstate =>
    cases h
    exact .cancelNow g (by simp [hstate])
  all_goals cases h

theorem doDiscard_ok (h : doDiscard body s = .ok (t, fs)) : s.Obeys t := by
  obtain ⟨g, h⟩ := onHandle_ok h
  dsimp only at h
  split at h
  case h_2 hstate =>
    cases h
    exact .discard g (by simp [hstate])
  case h_3 hstate =>
    cases h
    exact .discard g (by simp [hstate])
  all_goals cases h

theorem doRequeue_ok (h : doRequeue body s = .ok (t, fs)) : s.Obeys t := by
  obtain ⟨g, h⟩ := onHandle_ok h
  dsimp only at h
  split at h
  case h_2 hstate =>
    cases h
    exact .requeue g (by simp [hstate])
  case h_3 hstate =>
    cases h
    exact .requeue g (by simp [hstate])
  all_goals cases h

theorem doSetSlot_ok (h : doSetSlot body s = .ok (t, fs)) : s.Obeys t := by
  unfold doSetSlot at h
  split at h
  case h_2 => cases h
  split at h
  case h_1 => cases h
  dsimp only at h
  split at h
  case isTrue => cases h
  case isFalse =>
    cases h
    exact .changeSlot ..

theorem doEnableSlot_ok (h : doEnableSlot body s = .ok (t, fs)) : s.Obeys t := by
  obtain ⟨i, h⟩ := onSlot_ok h
  dsimp only at h
  split at h
  case isTrue => cases h
  split at h
  case isTrue => cases h
  split at h
  case isTrue =>
    cases h
    exact .reports
  case isFalse =>
    cases h
    exact .changeSlot ..

theorem doDisableSlot_ok (h : doDisableSlot body s = .ok (t, fs)) : s.Obeys t := by
  obtain ⟨i, h⟩ := onSlot_ok h
  dsimp only at h
  split at h
  case isTrue =>
    cases h
    exact .changeSlot ..
  case isFalse =>
    cases h
    exact .reports

theorem doClearSlot_ok (h : doClearSlot body s = .ok (t, fs)) : s.Obeys t := by
  obtain ⟨i, h⟩ := onSlot_ok h
  cases h
  exact .changeSlot ..

theorem doSetChannel_ok (h : doSetChannel body s = .ok (t, fs)) : s.Obeys t := by
  unfold doSetChannel at h
  split at h
  case h_2 => cases h
  dsimp only at h
  split at h
  case h_1 => cases h
  split at h
  case isTrue => cases h
  split at h
  case isTrue => cases h
  case isFalse hoff hx =>
    cases h
    exact .setChannel _ _ (not_not.1 hoff) (by simpa using hx)

theorem doOpenChannel_ok (h : doOpenChannel body s = .ok (t, fs)) : s.Obeys t := by
  obtain ⟨c, h⟩ := onChannel_ok h
  split at h
  case isFalse => cases h
  case isTrue hoff =>
    cases h
    exact .openPort c hoff

theorem doRestore_ok (h : doRestore body s = .ok (t, fs)) : s.Obeys t := by
  obtain ⟨c, h⟩ := onChannel_ok h
  split at h
  case isFalse => cases h
  case isTrue hfault =>
    cases h
    exact .restorePort c hfault.1

theorem doSetWatch_ok (h : doSetWatch body s = .ok (t, fs)) : s.Obeys t := by
  unfold doSetWatch at h
  split at h
  case h_2 => cases h
  split at h
  case isTrue => cases h
  split at h
  case h_2 => cases h
  split at h
  case isTrue => cases h
  case isFalse =>
    cases h
    exact .setWatch ..

theorem doClearHold_ok (h : doClearHold body s = .ok (t, fs)) : s.Obeys t := by
  unfold doClearHold at h
  split at h
  case h_2 => cases h
  dsimp only at h
  split at h
  case h_1 => cases h
  split at h
  case isTrue => cases h
  split at h
  case h_1 => cases h
  case h_2 =>
    cases h
    exact .clearHold ..

theorem doReadReceive_ok (h : doReadReceive body s = .ok (t, fs)) : s.Obeys t := by
  unfold doReadReceive at h
  split at h
  case h_2 => cases h
  split at h
  case h_2 => cases h
  case h_1 =>
    cases h
    split
    · exact .clearRx ..
    · exact .reports

/-- A command on a channel that only reports. -/
theorem onChannel_reports {f : ChannelNo → List Field} (h : onChannel body (fun c => .ok (s, f c)) = .ok (t, fs)) :
    s.Obeys t := by
  obtain ⟨c, h⟩ := onChannel_ok h
  cases h
  exact .reports

/-- Whatever a judging accepts is one of the things that an accepted command does. -/
def Lawful (act : Body → State → Judged) : Prop := ∀ body s t fs, act body s = .ok (t, fs) → s.Obeys t

theorem commandAct_lawful (kind : Byte) : Lawful (commandAct kind) := by
  unfold commandAct
  split <;> intro body s t fs h
  case h_1 => cases onEmpty_ok h; exact .reports
  case h_2 => exact doReadLink_ok h
  case h_3 => exact doSetNotices_ok h
  case h_4 => exact doSetClock_ok h
  case h_5 => cases onEmpty_ok h; exact .reports
  case h_6 => exact doSetSplit_ok h
  case h_7 => exact doDefineArea_ok h
  case h_8 => exact doClearArea_ok h
  case h_9 => exact doSetAllowance_ok h
  case h_10 => cases onEmpty_ok h; exact .reports
  case h_11 => exact doSetLoadGrain_ok h
  case h_12 => exact doDeclareMessage_ok h
  case h_13 => exact doOpenBulletin_ok h
  case h_14 => exact doText_ok h
  case h_15 => exact doAbandonLoad_ok h
  case h_16 => obtain ⟨g, h⟩ := onHandle_ok h; cases h; exact .reports
  case h_17 => exact doListQueue_ok h
  case h_18 => exact doCancel_ok h
  case h_19 => exact doDiscard_ok h
  case h_20 => exact doRequeue_ok h
  case h_21 => exact doSetSlot_ok h
  case h_22 => exact doEnableSlot_ok h
  case h_23 => exact doDisableSlot_ok h
  case h_24 => exact doClearSlot_ok h
  case h_25 => obtain ⟨i, h⟩ := onSlot_ok h; cases h; exact .reports
  case h_26 => exact onChannel_reports h
  case h_27 => exact onChannel_reports h
  case h_28 => exact doOpenChannel_ok h
  case h_29 => exact doSetChannel_ok h
  case h_30 => exact onChannel_reports h
  case h_31 => exact doRestore_ok h
  case h_32 => obtain ⟨c, h⟩ := onChannel_ok h; cases h; exact .closePort c
  case h_33 => obtain ⟨c, h⟩ := onChannel_ok h; cases h; exact .resetPort c
  case h_34 => exact onChannel_reports h
  case h_35 => obtain ⟨c, h⟩ := onChannel_ok h; cases h; exact .clearStats c
  case h_36 => exact doSetWatch_ok h
  case h_37 => obtain ⟨w, h⟩ := onWatch_ok h; cases h; exact .setWatch ..
  case h_38 => obtain ⟨w, h⟩ := onWatch_ok h; cases h; exact .reports
  case h_39 => obtain ⟨c, h⟩ := onChannel_ok h; cases h; exact .releaseLatch c
  case h_40 => exact onChannel_reports h
  case h_41 => exact doClearHold_ok h
  case h_42 => exact doReadReceive_ok h
  case h_43 => cases h

/-- All that an accepted command can do. -/
theorem commandAct_ok {kind : Byte} (h : commandAct kind body s = .ok (t, fs)) : s.Obeys t :=
  commandAct_lawful kind body s t fs h

end

/-! ### What an event does -/

/-- What an event or the passing of time does before its notices are offered. -/
inductive State.Happens (s : State) : State → Prop
  | nothing : s.Happens s
  | advance : s.Happens s.advance
  | rollover (h : s.clock.beforeMidnight = true) : s.Happens s.rollover
  | stop : s.Happens s.stopAtEnd
  | occurrence (i : SlotNo) : s.Happens ((s.takeOccurrence i).judgeKeyUp (channelsOf (s.slot i).channels))
  | deadline (c : ChannelNo) (q : Request) (hq : q ∈ (s.chan c).requests) (h : s.deadlinePassed c q = true) :
      s.Happens ((s.endBroken c q false).judgeKeyUp [c])
  | expiry (h : Handle) (he : s.expired h = true) : s.Happens ((s.expire h).judgeKeyUp [(s.desc h).channel])
  | ackTimer (h : Handle) (hdue : s.ackOverdue h = true) : s.Happens (s.timeOut h)
  | holdExpiry (c : ChannelNo) (ship : Nat) : s.Happens (((s.dropHold c ship).holdEnded c ship 1).judgeKeyUp [c])
  | keyUpLimit (c : ChannelNo) (h : s.keyUpOverdue c = true) : s.Happens (s.faultChannel c .keyUpFailed)
  | keyUp (cs : List ChannelNo) : s.Happens (s.judgeKeyUp cs)
  | level (c : ChannelNo) (ready : Bool) : s.Happens (s.setReady c ready)
  | ready (c : ChannelNo) (h : (s.setReady c true).readyInTime c = true) :
      s.Happens (((s.setReady c true).enterOnAir c).judgeKeyUp ((s.setReady c true).decisionTouches c))
  | drop (c : ChannelNo) (h : (s.chan c).state.keyed = true) :
      s.Happens ((s.setReady c false).faultChannel c .transmitterDropped)
  | symbol (c : ChannelNo) (h : s.symbolDue c = true) :
      s.Happens ((s.symbolCompletes c).judgeKeyUp (s.symbolTouches (s.symbolCompletes c) c))
  | received (c : ChannelNo) (y : Nat) (mutilated : Bool) (h : (s.chan c).state ≠ .offline) :
      s.Happens (s.takeSymbol c y mutilated)

theorem State.Happens.ite {s t : State} {p : Prop} [Decidable p] (h : p → s.Happens t) :
    s.Happens (if p then t else s) := by
  split
  · exact h ‹_›
  · exact .nothing

/-! ### What a step takes -/

/-- What a command or an event makes of the state. -/
inductive State.Runs (s : State) : State → Prop
  | frame (kind : Byte) (body : Body) : s.Runs (s.receive kind body fun u => u.takeFrame kind body)
  | event {u : State} (h : s.Happens u) : s.Runs u.flush
  | powerOn : s.Runs s.powerOn
  | byte (b : Byte) : s.Runs (s.receiveByte b)
  | gap : s.Runs s.gapTimeout
  | nothing : s.Runs s
  | sent : s.Runs s.frameSent

theorem eq_ofNat_of_toNat_eq {k : Byte} {n : Nat} (h : k.toNat = n) : k = BitVec.ofNat 8 n := by
  subst h
  simp

/-- A row of the office link is the reception of its frame (R173, R174). -/
theorem exec_commandOf (s : State) (kind : Byte) (body : Body) :
    exec (commandOf kind body) s = .next (s.receive kind body fun u => u.takeFrame kind body) := by
  unfold commandOf
  split
  case h_44 => rfl
  all_goals
    rename_i h
    obtain rfl := eq_ofNat_of_toNat_eq h
    rfl

/-- A row that is a frame runs that frame. -/
theorem exec_frame (s : State) {i : Instr} (kind : Byte) (body : Body) (h : commandOf kind body = i) :
    ∃ t, exec i s = .next t ∧ s.Runs t := h ▸ ⟨_, exec_commandOf s kind body, .frame kind body⟩

/-- Every command and event has a next state, and this is all that it can be. -/
theorem exec_runs (i : Instr) (s : State) : ∃ t, exec i s = .next t ∧ s.Runs t := by
  cases i with
  | powerOnReset => exact ⟨_, rfl, .powerOn⟩
  | officeLinkByte b => exact ⟨_, rfl, .byte b⟩
  | gapTimeout =>
    refine ⟨_, rfl, ?_⟩
    split
    · exact .gap
    · exact .nothing
  | frameTransmitEnd => exact ⟨_, rfl, .sent⟩
  | midnightRollover => exact ⟨_, rfl, .event (.ite .rollover)⟩
  | clockStopped => exact ⟨_, rfl, .event .stop⟩
  | slotOccurrence i => exact ⟨_, rfl, .event (.ite fun _ => .occurrence i)⟩
  | requestDeadlineUnkeyed c slot due =>
    refine ⟨_, rfl, .event ?_⟩
    split
    case h_1 q hq =>
      have hp := List.find?_some hq
      simp only [Bool.and_eq_true] at hp
      exact .deadline c q (List.mem_of_find?_eq_some hq) hp.2
    case h_2 => exact .nothing
  | messageExpiry h => exact ⟨_, rfl, .event (.ite fun he => .expiry h he)⟩
  | ackTimerRunsOut h => exact ⟨_, rfl, .event (.ite fun hdue => .ackTimer h hdue)⟩
  | holdExpiry c ship => exact ⟨_, rfl, .event (.ite fun _ => .holdExpiry c ship)⟩
  | keyUpLimit c => exact ⟨_, rfl, .event (.ite fun h => .keyUpLimit c h)⟩
  | slotKeyUpThreshold c => exact ⟨_, rfl, .event (.ite fun _ => .keyUp [c])⟩
  | transmitterReadyArrives c =>
    refine ⟨_, rfl, .event ?_⟩
    split
    case isTrue h => exact .ready c h
    case isFalse => exact .level c true
  | transmitterReadyDrops c =>
    refine ⟨_, rfl, .event ?_⟩
    split
    case isTrue h => exact .drop c h
    case isFalse => exact .level c false
  | lineSymbolCompletes c => exact ⟨_, rfl, .event (.ite fun h => .symbol c h)⟩
  | receivedSymbol c y m =>
    refine ⟨_, rfl, .event ?_⟩
    split
    case isTrue => exact .nothing
    case isFalse h => exact .received c y m h
  | badForm kind body => exact ⟨_, rfl, .frame kind body⟩
  | ping b => exact exec_frame s 0x01 b rfl
  | restart b => exact exec_frame s 0x02 b rfl
  | readLink b => exact exec_frame s 0x03 b rfl
  | setNotices b => exact exec_frame s 0x04 b rfl
  | setClock b => exact exec_frame s 0x05 b rfl
  | readClock b => exact exec_frame s 0x06 b rfl
  | setSplit b => exact exec_frame s 0x07 b rfl
  | defineArea b => exact exec_frame s 0x08 b rfl
  | clearArea b => exact exec_frame s 0x09 b rfl
  | setAllowance b => exact exec_frame s 0x0A b rfl
  | readStore b => exact exec_frame s 0x0B b rfl
  | setLoadGrain b => exact exec_frame s 0x0C b rfl
  | declareMessage b => exact exec_frame s 0x0D b rfl
  | openBulletin b => exact exec_frame s 0x0E b rfl
  | text b => exact exec_frame s 0x0F b rfl
  | abandonLoad b => exact exec_frame s 0x10 b rfl
  | readMessage b => exact exec_frame s 0x11 b rfl
  | listQueue b => exact exec_frame s 0x12 b rfl
  | cancel b => exact exec_frame s 0x13 b rfl
  | discard b => exact exec_frame s 0x14 b rfl
  | requeue b => exact exec_frame s 0x15 b rfl
  | setSlot b => exact exec_frame s 0x16 b rfl
  | enableSlot b => exact exec_frame s 0x17 b rfl
  | disableSlot b => exact exec_frame s 0x18 b rfl
  | clearSlot b => exact exec_frame s 0x19 b rfl
  | readSlot b => exact exec_frame s 0x1A b rfl
  | readPending b => exact exec_frame s 0x1B b rfl
  | readInterleaver b => exact exec_frame s 0x1C b rfl
  | openChannel b => exact exec_frame s 0x1D b rfl
  | setChannel b => exact exec_frame s 0x1E b rfl
  | readChannel b => exact exec_frame s 0x1F b rfl
  | restore b => exact exec_frame s 0x20 b rfl
  | closeChannel b => exact exec_frame s 0x21 b rfl
  | resetChannel b => exact exec_frame s 0x22 b rfl
  | readStats b => exact exec_frame s 0x23 b rfl
  | clearStats b => exact exec_frame s 0x24 b rfl
  | setWatch b => exact exec_frame s 0x25 b rfl
  | clearWatch b => exact exec_frame s 0x26 b rfl
  | readWatch b => exact exec_frame s 0x27 b rfl
  | releaseCapture b => exact exec_frame s 0x28 b rfl
  | readCapture b => exact exec_frame s 0x29 b rfl
  | clearHold b => exact exec_frame s 0x2A b rfl
  | readReceive b => exact exec_frame s 0x2B b rfl

/-- The state that a step works on: the state itself but for its waiting commands and its drawings. -/
structure State.Begins (s u : State) : Prop where
  same : s.SameParts u
  link : u.link = s.link
  outbox : u.outbox = s.outbox

/-- Every step runs a command, an event or one millisecond (notes/assumptions/3.md). -/
theorem step_runs (s : State) : ∃ u t, s.Begins u ∧ step s = .next t ∧ u.Runs t := by
  unfold step
  split
  case h_1 c rest hp =>
    obtain ⟨t, ht, hr⟩ := exec_runs c (s.withPending rest)
    exact ⟨_, t, ⟨s.withPending_sameParts rest, rfl, rfl⟩, ht, hr⟩
  case h_2 =>
    unfold idle
    split
    case h_1 e _ =>
      obtain ⟨t, ht, hr⟩ := exec_runs e s.drawn
      exact ⟨_, t, ⟨s.drawn_sameParts, rfl, rfl⟩, ht, hr⟩
    case h_2 => exact ⟨s, _, ⟨.refl s, rfl, rfl⟩, rfl, .event .advance⟩

/-! ### What a step does to the parts apart from the Office Link -/

/-- What a step does apart from the Office Link. -/
inductive State.Acts (s : State) : State → Prop
  | nothing : s.Acts s
  | obeys {t : State} (h : s.Obeys t) : s.Acts t
  | happens {t : State} (h : s.Happens t) : s.Acts t
  | powerOn : s.Acts s.powerOn
  | restarted : s.Acts s.restarted

/-- What is done apart from the Office Link between two states that may differ in the link. -/
def State.ActsBetween (s t : State) : Prop := ∃ u v, s.SameParts u ∧ u.Acts v ∧ v.SameParts t

theorem State.ActsBetween.of_sameParts {s t : State} (h : s.SameParts t) : s.ActsBetween t := ⟨s, s, .refl s, .nothing, h⟩

theorem State.ActsBetween.of_sameParts_left {s t u : State} (h : s.SameParts t) (g : t.ActsBetween u) :
    s.ActsBetween u := by
  obtain ⟨v, w, hv, ha, hw⟩ := g
  exact ⟨v, w, h.trans hv, ha, hw⟩

theorem State.takeFrame_acts (s : State) (kind : Byte) (body : Body) : s.ActsBetween (s.takeFrame kind body) := by
  unfold State.takeFrame
  split
  · unfold State.takeRestart
    split
    · exact .of_sameParts (s.modLink_sameParts _)
    · exact .of_sameParts (s.modLink_sameParts fun k => k.place (.reply kind (.refuse .badForm)))
  · unfold State.take
    split
    case h_1 => exact .of_sameParts (s.modLink_sameParts _)
    case h_2 t fs h =>
      exact ⟨s, t, .refl s, .obeys (commandAct_ok h), (t.modLink_sameParts _).trans (State.flush_sameParts _)⟩

theorem State.receive_acts (s : State) (kind : Byte) (body : Body) :
    s.ActsBetween (s.receive kind body fun u => u.takeFrame kind body) := by
  rcases s.receive_cases kind body (fun u => u.takeFrame kind body) with ⟨-, h⟩ | ⟨-, -, -, h⟩ | ⟨-, -, h⟩ <;> rw [h]
  · exact .of_sameParts (.refl s)
  · exact s.takeFrame_acts kind body
  · exact .of_sameParts (s.modLink_sameParts _)

theorem State.receiveByte_acts (s : State) (b : Byte) : s.ActsBetween (s.receiveByte b) := by
  unfold State.receiveByte
  split
  · exact .of_sameParts (.refl s)
  · have hbyte := s.modLink_sameParts fun k => { k with rx := (s.link.rx.byte s.clock.elapsed b).1 }
    dsimp only
    split
    · exact .of_sameParts hbyte
    · exact .of_sameParts (hbyte.trans (State.modLink_sameParts ..))
    · exact .of_sameParts (hbyte.trans (State.modLink_sameParts ..))
    · exact .of_sameParts_left hbyte (State.receive_acts ..)

theorem State.frameSent_acts (s : State) : s.ActsBetween s.frameSent := by
  unfold State.frameSent
  split
  · exact .of_sameParts (.refl s)
  · split
    · exact ⟨s, _, .refl s, .restarted, .refl _⟩
    · refine .of_sameParts_left (s.modLink_sameParts fun k => { k with sending := none }.kick) ?_
      unfold State.serveBuffer
      split
      · exact .of_sameParts (.refl _)
      · split
        · exact .of_sameParts_left (State.modLink_sameParts ..) (State.takeFrame_acts ..)
        · exact .of_sameParts (.refl _)

theorem State.Runs.acts {s t : State} (h : s.Runs t) : s.ActsBetween t := by
  cases h with
  | frame kind body => exact s.receive_acts kind body
  | event h => exact ⟨s, _, .refl s, .happens h, State.flush_sameParts _⟩
  | powerOn => exact ⟨s, _, .refl s, .powerOn, .refl _⟩
  | byte b => exact s.receiveByte_acts b
  | gap => exact .of_sameParts (s.modLink_sameParts _)
  | nothing => exact .of_sameParts (.refl s)
  | sent => exact s.frameSent_acts

/-- What a step does apart from the Office Link is at most one accepted command, event or reset. -/
theorem step_acts {s t : State} (h : step s = .next t) : s.ActsBetween t := by
  obtain ⟨u, v, hb, hv, hr⟩ := step_runs s
  obtain rfl : v = t := Host.Outcome.next.inj (hv.symm.trans h)
  exact .of_sameParts_left hb.same hr.acts

end Sys2Proof.Machine

namespace Sys2Proof.Proofs

open Sys2Proof.Machine

/-- Settles O3: every command, event and millisecond has a next state. -/
theorem everyStepGoesOn : Obligations.EveryStepGoesOn := by
  unfold Obligations.EveryStepGoesOn
  intro s
  obtain ⟨_, t, -, ht, -⟩ := step_runs s
  exact ⟨t, ht⟩

/-- Settles O1. -/
theorem frontCommandRuns : Obligations.FrontCommandRuns := by
  unfold Obligations.FrontCommandRuns
  intro s c rest hpending
  simp only [step, hpending, State.withPending]

end Sys2Proof.Proofs
end

section
/-! What every operation keeps: each channel's ranges (section 8.2, R100, R104), its pending list (R91) and its hold table
(R161, R163), and the pool blocks, which move between the free list and the chains and are never lost (R35 to R38). One
lemma for each operation, in the order of the model's files. -/

namespace Sys2Proof.Machine

/-! ### The laws of one channel -/

def Channel.rangesOk (ch : Channel) : Prop :=
  ch.settings.inRange = true ∧ ch.urgentRun ≤ 8 ∧ ch.stats.overrun ≤ 15 ∧ ch.parser.run ≤ 16

def Channel.requestsOk (ch : Channel) : Prop :=
  ch.requests.length ≤ 4 ∧ ch.requests.Pairwise fun p q => p.before q = true

def Channel.holdsOk (ch : Channel) : Prop :=
  ch.holds.length ≤ 8 ∧ (ch.holds.map (·.ship)).Nodup ∧ ch.rx.capturesLost ≤ 255

/-- Each law that `a` keeps `b` keeps too. -/
structure Channel.Sound (a b : Channel) : Prop where
  ranges : a.rangesOk → b.rangesOk
  requests : a.requestsOk → b.requestsOk
  holds : a.holdsOk → b.holdsOk

theorem Channel.Sound.refl (ch : Channel) : ch.Sound ch := ⟨id, id, id⟩

theorem Channel.Sound.trans {a b d : Channel} (h : a.Sound b) (g : b.Sound d) : a.Sound d :=
  ⟨g.ranges ∘ h.ranges, g.requests ∘ h.requests, g.holds ∘ h.holds⟩

/-! ### The blocks of the pool -/

/-- The blocks that are free or in a chain. -/
def State.poolList (s : State) : List BlockNo := s.store.free ++ s.descs.toList.flatMap (·.chain)

/-- A table read and written at one number: what stands before it, what it holds, and what stands behind it. -/
theorem exists_toList_vput {α : Type} {n : Nat} (v : Vector α n) (i : Fin n) :
    ∃ xs ys, v.toList = xs ++ vget v i :: ys ∧ ∀ x, (vput v i x).toList = xs ++ x :: ys := by
  have hi : i.val < v.toList.length := by simp
  refine ⟨v.toList.take i, v.toList.drop (i + 1), ?_, fun x => ?_⟩
  · have hget : v.toList[i.val] = vget v i := by simp [vget]
    rw [← hget, List.cons_getElem_drop_succ, List.take_append_drop]
  · rw [vput, Vector.toList_set, List.set_eq_take_append_cons_drop, if_pos hi]

/-! ### The relation -/

/-- `t` keeps the laws of the channels that `s` keeps, and has the blocks of `s`. -/
structure State.Sound (s t : State) : Prop where
  channel : ∀ c, (s.chan c).Sound (t.chan c)
  blocks : t.poolList.Perm s.poolList

theorem State.Sound.refl (s : State) : s.Sound s := ⟨fun _ => .refl _, .refl _⟩

theorem State.Sound.trans {s t u : State} (h : s.Sound t) (g : t.Sound u) : s.Sound u :=
  ⟨fun c => (h.channel c).trans (g.channel c), g.blocks.trans h.blocks⟩

theorem State.Sound.ite {s t u : State} {p : Prop} [Decidable p] (h : p → s.Sound t) (g : ¬p → s.Sound u) :
    s.Sound (if p then t else u) := by
  split
  · exact h ‹_›
  · exact g ‹_›

theorem State.Sound.foldl {α : Type} {f : State → α → State} (h : ∀ s x, State.Sound s (f s x)) (xs : List α)
    (s : State) : s.Sound (xs.foldl f s) := by
  induction xs generalizing s with
  | nil => exact .refl s
  | cons x xs ih => exact (h s x).trans (ih (f s x))

theorem State.Sound.of_parts {s t : State} (hc : t.channels = s.channels) (hf : t.store.free = s.store.free)
    (hd : t.descs = s.descs) : s.Sound t := by
  have hchan : t.chan = s.chan := congrArg vget hc
  exact ⟨fun c => by rw [hchan]; exact .refl _, by rw [State.poolList, hf, hd]; exact .refl _⟩

section
variable (s : State) (c : ChannelNo)

/-- A change of a channel; most leave its laws' fields alone, which is the default. -/
theorem State.modChan_sound {f : Channel → Channel}
    (h : (s.chan c).Sound (f (s.chan c)) := by exact ⟨id, id, id⟩) : s.Sound (s.modChan c f) := by
  refine ⟨fun d => ?_, .refl _⟩
  rw [State.chan_modChan]
  split
  case isTrue hd => exact hd ▸ h
  case isFalse => exact .refl _

/-- A change of a channel that keeps the laws of every channel. -/
theorem State.modChan_sound_of {f : Channel → Channel} (h : ∀ ch : Channel, ch.Sound (f ch)) : s.Sound (s.modChan c f) :=
  s.modChan_sound c (h _)

theorem State.setChan_sound {x : Channel} (h : (s.chan c).Sound x) : s.Sound (s.setChan c x) :=
  s.modChan_sound c (f := fun _ => x) h

/-- A change of a descriptor that leaves its chain alone. -/
theorem State.modDesc_sound (h : Handle) (f : Descriptor → Descriptor)
    (hf : (f (s.desc h)).chain = (s.desc h).chain := by exact rfl) : s.Sound (s.modDesc h f) := by
  refine ⟨fun _ => .refl _, ?_⟩
  obtain ⟨xs, ys, hold, hnew⟩ := exists_toList_vput s.descs h
  have hd : (f (s.desc h)).chain = (vget s.descs h).chain := hf
  simp only [State.poolList, State.modDesc_descs, State.modDesc_store, hnew]
  rw [hold]
  simp [hd]

theorem State.emit_sound (e : Event) (ch : Option ChannelNo) (fs : List Field) : s.Sound (s.emit e ch fs) :=
  .of_parts rfl rfl rfl

theorem State.drawn_sound : s.Sound s.drawn := .of_parts rfl rfl rfl

theorem State.setSlot_sound (i : SlotNo) (e : Slot) : s.Sound (s.setSlot i e) := .of_parts rfl rfl rfl

theorem State.setArea_sound (a : AreaNo) (x : Area) : s.Sound (s.setArea a x) := .of_parts rfl rfl rfl

theorem State.setLoad_sound (l : Option OpenLoad) : s.Sound (s.setLoad l) := .of_parts rfl rfl rfl

/-- A change of the statistics that leaves the overrun count alone. -/
theorem State.modStats_sound {f : Stats → Stats} (h : ∀ t : Stats, (f t).overrun = t.overrun := by intro t; rfl) :
    s.Sound (s.modStats c f) :=
  s.modChan_sound c ⟨fun ⟨hset, hrun, hover, hp⟩ => ⟨hset, hrun, (h _).le.trans hover, hp⟩, id, id⟩

/-- A change of the receive counts that leaves the captures-lost count alone. -/
theorem State.modRx_sound {f : RxCounts → RxCounts} (h : ∀ r : RxCounts, (f r).capturesLost = r.capturesLost := by intro r; rfl) :
    s.Sound (s.modRx c f) :=
  s.modChan_sound c ⟨id, id, fun ⟨hlen, hnodup, hlost⟩ => ⟨hlen, hnodup, (h _).le.trans hlost⟩⟩

/-! ### Chains and the free list -/

theorem State.takeBlocks_sound (h : Handle) (n : Nat) : s.Sound (s.takeBlocks h n) := by
  refine ⟨fun _ => .refl _, ?_⟩
  obtain ⟨xs, ys, hold, hnew⟩ := exists_toList_vput s.descs h
  simp only [State.poolList, State.takeBlocks, State.modDesc_descs, hnew, State.desc]
  rw [hold, List.perm_iff_count]
  intro b
  have hsplit := congrArg (List.count b) (List.take_append_drop n s.store.free)
  simp only [List.count_append] at hsplit
  simp only [List.flatMap_append, List.flatMap_cons, List.count_append]
  omega

/-- A chain cut into a part that stays and a part that goes back to the free list. -/
theorem State.returnChain_sound (h : Handle) (d : Descriptor) (bs : List BlockNo) (hd : d.chain ++ bs = (s.desc h).chain) :
    s.Sound ((s.returnBlocks bs).setDesc h d) := by
  refine ⟨fun _ => .refl _, ?_⟩
  obtain ⟨xs, ys, hold, hnew⟩ := exists_toList_vput s.descs h
  simp only [State.poolList, State.setDesc_descs, State.setDesc_store, State.returnBlocks_descs, State.returnBlocks_store,
    hnew]
  rw [hold, List.perm_iff_count]
  intro b
  have hsplit := congrArg (List.count b) hd
  simp only [List.count_append, State.desc] at hsplit
  simp only [List.flatMap_append, List.flatMap_cons, List.count_append]
  omega

theorem State.judgeGrant_sound (notify : Bool) : s.Sound (s.judgeGrant notify) := by
  unfold State.judgeGrant
  split
  case h_1 => exact .refl s
  case h_2 l _ =>
    split
    case h_1 => exact .refl s
    case h_2 h _ _ =>
      have htaken := fun l' => (s.takeBlocks_sound h (s.grantBlocks l h)).trans (State.setLoad_sound _ l')
      exact .ite (fun _ => .ite (fun _ => (htaken _).trans (State.emit_sound ..)) fun _ => htaken _) fun _ =>
        s.setLoad_sound _

theorem State.rejudgeGrant_sound : s.Sound s.rejudgeGrant := by
  unfold State.rejudgeGrant
  split
  case h_1 => exact .ite (fun _ => s.judgeGrant_sound true) fun _ => .refl s
  case h_2 => exact .refl s

/-! ### The places of messages -/

theorem Channel.setQueue_sound (ch : Channel) (k : MsgClass) (q : List Handle) : ch.Sound (ch.setQueue k q) := by
  cases k <;> exact ⟨id, id, id⟩

theorem State.detach_sound (h : Handle) : s.Sound (s.detach h) := s.modChan_sound _

/-- A message moves to the head of its queue in a state that keeps its chain. -/
theorem State.toHead_sound (h : Handle) (f : Descriptor → Descriptor)
    (hf : ∀ d : Descriptor, (f d).chain = d.chain) : s.Sound (s.toHead h f) :=
  ((s.detach_sound h).trans (State.modDesc_sound _ h f (hf _))).trans
    (State.modChan_sound_of _ _ fun ch => ch.setQueue_sound ..)

theorem State.suspend_sound (h : Handle) : s.Sound (s.suspend h) := s.toHead_sound h _ fun _ => rfl

theorem State.requeueReady_sound (h : Handle) : s.Sound (s.requeueReady h) := s.toHead_sound h _ fun _ => rfl

theorem State.freeMessage_sound (h : Handle) : s.Sound (s.freeMessage h) :=
  (s.detach_sound h).trans (State.returnChain_sound _ h Descriptor.reset _ rfl)

theorem State.freeWith_sound (h : Handle) (e : Event) (fs : List Field) : s.Sound (s.freeWith h e fs) :=
  ((s.freeMessage_sound h).trans (State.emit_sound ..)).trans (State.rejudgeGrant_sound _)

theorem State.freeSilent_sound (h : Handle) : s.Sound (s.freeSilent h) :=
  (s.freeMessage_sound h).trans (State.rejudgeGrant_sound _)

theorem State.freeCancelled_sound (h : Handle) : s.Sound (s.freeCancelled h) := s.freeWith_sound ..

theorem State.suspendedNotice_sound (h : Handle) (cause : SuspendCause) : s.Sound (s.suspendedNotice h cause) :=
  s.emit_sound ..

theorem State.expireAll_sound : s.Sound s.expireAll :=
  s.drawn_sound.trans (.foldl (fun s h => s.freeWith_sound h _ _) _ _)

/-- Records that change apart from their ships keep the law of the hold table. -/
theorem Channel.holds_map_sound (ch : Channel) (f : Hold → Hold) (hf : ∀ r, (f r).ship = r.ship) :
    ch.Sound { ch with holds := ch.holds.map f } := by
  refine ⟨id, id, fun ⟨hlen, hnodup, hlost⟩ => ⟨by simpa using hlen, ?_, hlost⟩⟩
  have hships : (ch.holds.map f).map (·.ship) = ch.holds.map (·.ship) := by
    rw [List.map_map]
    exact List.map_congr_left fun r _ => hf r
  exact hships ▸ hnodup

theorem State.segmentEnds_sound (ship : Nat) : s.Sound (s.segmentEnds c ship) :=
  s.modChan_sound_of c fun ch => ch.holds_map_sound _ fun r => by split <;> rfl

theorem satSucc_le (top n : Nat) : satSucc top n ≤ top := by
  unfold satSucc
  split <;> omega

/-! ### The Broadcast Schedule -/

theorem Stats.overrun_countOutcome (t : Stats) (o : BulletinOutcome) : (t.countOutcome o).overrun = t.overrun := by
  cases o <;> rfl

theorem State.advanceOverrun_sound : s.Sound (s.advanceOverrun c) := by
  unfold State.advanceOverrun
  refine .ite (fun hlow => ?_) fun _ => ?_
  · exact s.modChan_sound c ⟨fun ⟨hset, hrun, _, hp⟩ => ⟨hset, hrun, hlow, hp⟩, id, id⟩
  · have hzero : s.Sound (s.modStats c fun t => { t with overrun := 0 }) :=
      s.modChan_sound c ⟨fun ⟨hset, hrun, _, hp⟩ => ⟨hset, hrun, Nat.zero_le _, hp⟩, id, id⟩
    exact hzero.trans (State.emit_sound ..)

theorem State.recordOutcome_sound (q : Request) (o : BulletinOutcome) (lateness : Option Nat) (quiet : Bool) :
    s.Sound (s.recordOutcome c q o lateness quiet) := by
  have hcount := fun fs => (s.emit_sound .outcome (some c) fs).trans
    (State.modStats_sound _ c (f := (·.countOutcome o)) fun t => t.overrun_countOutcome o)
  exact .ite (fun _ => (hcount _).trans (State.advanceOverrun_sound ..)) fun _ => hcount _

/-- Requests that leave a pending list leave it in order (R91). -/
theorem Channel.requests_filter_sound (ch : Channel) (p : Request → Bool) :
    ch.Sound { ch with requests := ch.requests.filter p } :=
  ⟨id, fun ⟨hlen, hord⟩ => ⟨(List.length_filter_le ..).trans hlen, hord.filter p⟩, id⟩

theorem State.dropRequest_sound (q : Request) : s.Sound (s.dropRequest c q) :=
  s.modChan_sound_of c fun ch => ch.requests_filter_sound _

theorem State.endRequest_sound (q : Request) (o : BulletinOutcome) (lateness : Option Nat) (quiet : Bool) :
    s.Sound (s.endRequest c q o lateness quiet) :=
  (s.dropRequest_sound c q).trans (State.recordOutcome_sound ..)

theorem State.endAllBroken_sound (quiet : Bool) (qs : List Request) : s.Sound (s.endAllBroken c quiet qs) :=
  .foldl (fun s q => s.endRequest_sound c q _ _ quiet) _ s

/-- R91. A request of a new occurrence is put at its place in the order. -/
theorem insertRequest_pairwise {q : Request} {qs : List Request}
    (hord : qs.Pairwise fun p r => p.before r = true) (hnew : ∀ p ∈ qs, ¬(p.slot = q.slot ∧ p.due = q.due)) :
    (insertRequest q qs).Pairwise fun p r => p.before r = true := by
  induction qs with
  | nil => simp [insertRequest]
  | cons p ps ih =>
    obtain ⟨hp, hps⟩ := List.pairwise_cons.1 hord
    unfold insertRequest
    split
    case isTrue hbefore =>
      refine List.pairwise_cons.2 ⟨fun r hr => ?_, hord⟩
      rcases List.mem_cons.1 hr with rfl | hr
      · exact hbefore
      · exact Request.before_trans hbefore (hp r hr)
    case isFalse hbefore =>
      refine List.pairwise_cons.2 ⟨fun r hr => ?_, ih hps fun r hr => hnew r (List.mem_cons_of_mem _ hr)⟩
      rcases List.mem_cons.1 ((insertRequest_perm q ps).mem_iff.1 hr) with rfl | hr
      · exact Request.before_total (fun h => hnew p List.mem_cons_self ⟨h.1.symm, h.2.symm⟩)
          (Bool.eq_false_of_not_eq_true hbefore)
      · exact hp r hr

theorem State.placeRequest_sound (i : SlotNo) (due : Nat) : s.Sound (s.placeRequest i due c) := by
  refine .ite (fun _ => s.recordOutcome_sound ..) fun _ => .ite (fun _ => .refl s) fun hnew =>
    .ite (fun _ => s.recordOutcome_sound ..) fun hplace => s.setChan_sound c ⟨id, fun ⟨_, hord⟩ => ⟨?_, ?_⟩, id⟩
  · have : ¬4 ≤ (s.chan c).requests.length := hplace
    rw [insertRequest_length]
    omega
  · refine insertRequest_pairwise hord fun p hp hsame => hnew (List.any_eq_true.2 ⟨p, hp, ?_⟩)
    have hsame : p.slot = i ∧ p.due = due := hsame
    simpa only [Request.isFor, Bool.and_eq_true, decide_eq_true_eq] using hsame

theorem State.takeOccurrence_sound (i : SlotNo) : s.Sound (s.takeOccurrence i) := by
  unfold State.takeOccurrence
  split
  case h_1 => exact .refl s
  case h_2 due _ =>
    exact (State.Sound.foldl (fun s c => s.placeRequest_sound c i due) _ s).trans (State.setSlot_sound ..)

theorem State.takeOccurrences_sound (is : List SlotNo) : s.Sound (s.takeOccurrences is) :=
  s.drawn_sound.trans (.foldl State.takeOccurrence_sound _ _)

theorem State.judgeBoundary_sound : s.Sound (s.judgeBoundary c) :=
  .ite (fun _ => s.endAllBroken_sound ..) fun _ => .refl s

/-- Requests that change apart from their occurrences stay in order (R91). -/
theorem State.modRequest_sound (slot : SlotNo) (due : Nat) {f : Request → Request}
    (hf : ∀ q : Request, (f q).slot = q.slot ∧ (f q).due = q.due := by intro q; exact ⟨rfl, rfl⟩) :
    s.Sound (s.modRequest c slot due f) := by
  have hkeys (q : Request) : (if q.isFor slot due then f q else q).slot = q.slot
      ∧ (if q.isFor slot due then f q else q).due = q.due := by
    split
    · exact hf q
    · exact ⟨rfl, rfl⟩
  refine s.modChan_sound c ⟨id, fun ⟨hlen, hord⟩ => ⟨by simpa using hlen, ?_⟩, id⟩
  refine List.pairwise_map.2 (hord.imp fun {p q} hpq => ?_)
  simpa only [Request.before, (hkeys p).1, (hkeys p).2, (hkeys q).1, (hkeys q).2] using hpq

theorem State.returnRequest_sound (slot : SlotNo) (due : Nat) (a : AreaNo) : s.Sound (s.returnRequest c slot due a) :=
  (s.modRequest_sound c slot due).trans (State.setArea_sound ..)

theorem State.bulletinEnds_sound (slot : SlotNo) (due : Nat) (a : AreaNo) : s.Sound (s.bulletinEnds c slot due a) := by
  unfold State.bulletinEnds
  dsimp only
  split
  case h_1 => exact (s.setArea_sound ..).trans (State.endRequest_sound ..)
  case h_2 => exact s.setArea_sound ..

/-! ### The Channel Interleaver -/

theorem State.beginItem_sound (it : Item) : s.Sound (s.beginItem c it) := s.modChan_sound c

theorem State.idleOrUnkey_sound : s.Sound (s.idleOrUnkey c) := by
  have hunkeyed : s.Sound (s.unkey c) := (s.modChan_sound c).trans (State.emit_sound ..)
  exact .ite (fun _ => hunkeyed) fun _ => s.modChan_sound c

theorem State.recordFit_sound (f : FitRecord) : s.Sound (s.recordFit c f) := s.modChan_sound c

/-- The setting that bounds k is at most 8 (section 8.2). -/
theorem Settings.urgentRun_le {x : Settings} (h : x.inRange = true) : x.urgentRun ≤ 8 := by
  simp only [Settings.inRange, Bool.and_eq_true, decide_eq_true_eq] at h
  omega

theorem Channel.nextRun_le {ch : Channel} (h : ch.rangesOk) (k : MsgClass) : ch.nextRun k ≤ 8 := by
  unfold Channel.nextRun
  split
  · exact (Nat.min_le_right ..).trans (Settings.urgentRun_le h.1)
  · exact Nat.zero_le _

theorem State.startTelex_sound (h : Handle) (e : Nat) (fresh : Bool) : s.Sound (s.startTelex c h e fresh) := by
  have htaken : s.Sound (if fresh then
      s.modChan c fun ch => { ch.detach h with active := some h, urgentRun := ch.nextRun (s.desc h).cls }
    else s) := by
    refine .ite (fun _ => s.modChan_sound c ⟨fun hok => ?_, id, id⟩) fun _ => .refl s
    obtain ⟨hset, _, hover, hp⟩ := id hok
    exact ⟨hset, Channel.nextRun_le hok _, hover, hp⟩
  have hactive := htaken.trans (State.modDesc_sound _ h fun d => { d with state := .active })
  exact .ite (fun _ => (hactive.trans (State.beginItem_sound ..)).trans (State.emit_sound ..)) fun _ =>
    hactive.trans (State.beginItem_sound ..)

theorem State.tryTelex_sound (h : Handle) (fresh : Bool) : s.Sound (s.tryTelex c h fresh) := by
  unfold State.tryTelex
  dsimp only
  split
  case h_1 => exact (s.recordFit_sound c _).trans (State.startTelex_sound ..)
  case h_2 => exact (s.recordFit_sound c _).trans (State.idleOrUnkey_sound ..)

theorem State.selectNew_sound : s.Sound (s.selectNew c) := by
  refine .ite (fun _ => s.idleOrUnkey_sound c) fun _ => ?_
  split
  case h_1 => exact s.tryTelex_sound ..
  case h_2 => exact s.idleOrUnkey_sound c

theorem State.selectTelex_sound : s.Sound (s.selectTelex c) := by
  unfold State.selectTelex
  split
  case h_1 h _ =>
    exact .ite (fun _ => ((s.suspend_sound h).trans (State.suspendedNotice_sound ..)).trans (State.selectNew_sound ..))
      fun _ => s.tryTelex_sound ..
  case h_2 => exact s.selectNew_sound c

theorem State.startBulletin_sound (q : Request) : s.Sound (s.startBulletin c q) :=
  ((s.modRequest_sound c _ _).trans (State.setArea_sound ..)).trans (State.beginItem_sound ..)

theorem State.startDue_sound (qs : List Request) : s.Sound (s.startDue c qs) := by
  induction qs generalizing s with
  | nil => exact s.selectTelex_sound c
  | cons q qs ih =>
    have hended (o : BulletinOutcome) (lateness : Option Nat) := (s.endRequest_sound c q o lateness false).trans (ih _)
    exact .ite (fun _ => .ite (fun _ => hended _ _) fun _ =>
      .ite (fun _ => s.startBulletin_sound c q) fun _ => hended _ _) fun _ => ih s

theorem State.select_sound : s.Sound (s.select c) := by
  unfold State.select
  split
  case h_1 => exact (s.modDesc_sound ..).trans (State.beginItem_sound ..)
  case h_2 => exact s.startDue_sound ..

theorem State.settle_sound (h : Handle) : s.Sound (s.settle c h) := by
  have hmarker := fun (u : State) (p : Purpose) => u.beginItem_sound c (.marker (.message h) p 0)
  refine .ite (fun _ => hmarker s _) fun _ => .ite (fun _ => hmarker s _) fun _ => .ite (fun _ => hmarker s _) fun _ =>
    .ite (fun _ => hmarker s _) fun _ => .ite (fun _ => hmarker s _) fun _ => ?_
  dsimp only
  split
  case h_1 => exact (s.recordFit_sound c _).trans (State.beginItem_sound ..)
  case h_2 => exact (s.recordFit_sound c _).trans (hmarker _ _)

theorem State.closeParked_sound : s.Sound (s.closeParked c) := by
  unfold State.closeParked
  split
  case h_1 h _ => exact (s.suspend_sound h).trans (State.suspendedNotice_sound ..)
  case h_2 => exact .refl s

/-- A parser that is put back to HUNT keeps the range of its run count. -/
theorem Channel.parser_reset_sound (ch : Channel) : ch.Sound { ch with parser := Parser.reset } :=
  ⟨fun ⟨hset, hrun, hover, _⟩ => ⟨hset, hrun, hover, Nat.zero_le _⟩, id, id⟩

theorem State.reachOffline_sound : s.Sound (s.reachOffline c) := by
  have hclosed (qs : List Request) := ((((s.modChan_sound c (f := fun ch =>
    { ch with state := .offline, item := .noItem, idleSince := none, faultReason := none })).trans
      (State.closeParked_sound _ c)).trans (State.endAllBroken_sound _ c false qs)).trans
        (State.modChan_sound_of _ c Channel.parser_reset_sound))
  exact .ite (fun _ => (hclosed _).trans (State.emit_sound ..)) fun _ => hclosed _

theorem State.atDecision_sound (cut : Option Closes) : s.Sound (s.atDecision c cut) := by
  have htaken := s.takeOccurrences_sound (s.dueSlotsNaming c)
  unfold State.atDecision
  dsimp only
  split
  case h_1 => exact htaken.trans (State.settle_sound ..)
  case h_2 =>
    split
    case h_1 => exact htaken.trans (State.beginItem_sound ..)
    case h_2 => exact .ite (fun _ => htaken.trans (State.reachOffline_sound ..)) fun _ =>
      htaken.trans (State.select_sound ..)

theorem State.decisionPoint_sound (cut : Option Closes) : s.Sound (s.decisionPoint c cut) :=
  (s.atDecision_sound c cut).trans (State.judgeBoundary_sound ..)

theorem State.cutTelex_sound : s.Sound (s.cutTelex c) := by
  unfold State.cutTelex
  split
  case h_1 => exact s.modChan_sound c
  case h_2 => exact s.modChan_sound c
  all_goals exact .refl s

theorem State.cutBulletin_sound : s.Sound (s.cutBulletin c) := by
  unfold State.cutBulletin
  split
  case h_1 => exact s.modChan_sound c
  all_goals exact .refl s

theorem State.relayReady_sound : s.Sound (s.relayReady c) :=
  .ite (fun _ => (s.cutTelex_sound c).trans (State.cutBulletin_sound ..)) fun _ => .refl s

theorem State.cancelActive_sound (h : Handle) : s.Sound (s.cancelActive c h) := by
  unfold State.cancelActive
  split
  case h_1 => exact .ite (fun _ => s.modChan_sound c) fun _ => .refl s
  case h_2 => exact .ite (fun _ => s.cutTelex_sound c) fun _ => .refl s
  case h_3 => exact .ite (fun _ => s.cutTelex_sound c) fun _ => .refl s
  all_goals exact .refl s

theorem State.markerEnds_sound (what : Closes) (p : Purpose) : s.Sound (s.markerEnds c what p) := by
  unfold State.markerEnds
  split
  case h_1 => exact s.returnRequest_sound ..
  case h_2 h =>
    split
    case h_1 => exact (s.modDesc_sound ..).trans (State.emit_sound ..)
    case h_2 => exact (s.suspend_sound h).trans (State.suspendedNotice_sound ..)
    case h_3 => exact s.freeCancelled_sound h
    case h_4 => exact (s.suspend_sound h).trans (State.suspendedNotice_sound ..)
    case h_5 => exact .refl s

/-! ### The Keyer -/

theorem State.countLine_sound : s.Sound (s.countLine c) :=
  .ite (fun _ => s.modStats_sound c) fun _ =>
    (s.modStats_sound c).trans (State.emit_sound ..)

theorem Stats.overrun_countDone (t : Stats) (n : Nat) : (t.countDone n).overrun = t.overrun := by
  unfold Stats.countDone
  repeat' split
  all_goals rfl

theorem State.toSent_sound (h : Handle) : s.Sound (s.toSent h) := by
  have htimed (u : State) (due : Option Nat) : u.Sound (u.modDesc h fun d => { d with state := .awaitAck, ackDue := due }) :=
    u.modDesc_sound ..
  have htail (u : State) (e : ChannelNo) : u.Sound (u.modChan e fun ch => { ch with sent := ch.sent ++ [h] }) :=
    u.modChan_sound e
  exact ((s.detach_sound h).trans (htimed ..)).trans (htail ..)

theorem State.messageEnds_sound (h : Handle) : s.Sound (s.messageEnds c h) := by
  have hdone := (s.modDesc_sound h fun d => { d with doneTime := some s.now }).trans
    (State.modStats_sound _ c (f := (·.countDone (s.desc h).length)) fun t => t.overrun_countDone _)
  exact .ite (fun _ => hdone.trans (State.freeCancelled_sound ..)) fun _ =>
    .ite (fun _ => hdone.trans (State.freeWith_sound ..)) fun _ =>
      (hdone.trans (State.toSent_sound ..)).trans (State.emit_sound ..)

theorem State.textSymbolDone_sound (h : Handle) (start : Nat) : s.Sound (s.textSymbolDone c h start) :=
  .ite (fun _ => (s.modDesc_sound ..).trans (State.modStats_sound _ c)) fun _ => s.modDesc_sound ..

theorem State.nextPeriod_sound : s.Sound (s.nextPeriod c) := s.modChan_sound c

theorem State.itemEnds_sound (cut : Option Closes) : s.Sound (s.itemEnds c cut) :=
  (s.modChan_sound c).trans (State.decisionPoint_sound ..)

theorem State.itemGoesOn_sound (it : Item) : s.Sound (s.itemGoesOn c it) :=
  (s.modChan_sound c).trans (State.judgeBoundary_sound ..)

theorem State.shiftDone_sound (sh : Nat) : s.Sound (s.shiftDone c sh) :=
  (s.modChan_sound c).trans (State.judgeBoundary_sound ..)

theorem State.segmentSymbolDone_sound (h : Handle) (start e : Nat) (cut : Option Nat) :
    s.Sound (s.segmentSymbolDone c h start e cut) := by
  have hdone := s.textSymbolDone_sound c h start
  exact .ite (fun _ => ((hdone.trans (State.segmentEnds_sound ..)).trans (State.messageEnds_sound ..)).trans
    (State.itemEnds_sound ..)) fun _ => .ite (fun _ => (hdone.trans (State.segmentEnds_sound ..)).trans
      (State.itemEnds_sound ..)) fun _ => hdone.trans (State.itemGoesOn_sound ..)

theorem State.relaySymbolDone_sound (h : Handle) : s.Sound (s.relaySymbolDone c h) := by
  have hdone := s.textSymbolDone_sound c h 0
  exact .ite (fun _ => (hdone.trans (State.messageEnds_sound ..)).trans (State.itemEnds_sound ..)) fun _ =>
    hdone.trans (State.itemGoesOn_sound ..)

theorem State.bulletinSymbolDone_sound (slot : SlotNo) (due : Nat) (a : AreaNo) (pos : Nat) (cut : Option Nat) :
    s.Sound (s.bulletinSymbolDone c slot due a pos cut) :=
  .ite (fun _ => (s.bulletinEnds_sound ..).trans (State.itemEnds_sound ..)) fun _ =>
    .ite (fun _ => s.itemEnds_sound ..) fun _ => s.itemGoesOn_sound ..

theorem State.itemSymbolDone_sound : s.Sound (s.itemSymbolDone c) := by
  unfold State.itemSymbolDone
  split
  case h_1 => exact .refl s
  case h_2 => exact (s.modStats_sound c).trans (State.itemEnds_sound ..)
  case h_3 => exact .ite (fun _ => s.itemGoesOn_sound ..) fun _ => s.itemGoesOn_sound ..
  case h_4 => exact .ite (fun _ => s.itemGoesOn_sound ..) fun _ =>
    ((s.modStats_sound c).trans (State.markerEnds_sound ..)).trans (State.itemEnds_sound ..)
  case h_5 => exact s.segmentSymbolDone_sound ..
  case h_6 => exact s.relaySymbolDone_sound ..
  case h_7 => exact s.bulletinSymbolDone_sound ..

theorem State.symbolCompletes_sound : s.Sound (s.symbolCompletes c) := by
  have hcounted := (s.countLine_sound c).trans (State.nextPeriod_sound _ c)
  unfold State.symbolCompletes
  dsimp only
  split
  case h_1 => exact .refl s
  case h_2 =>
    split
    case h_1 => exact hcounted.trans (State.shiftDone_sound ..)
    case h_2 => exact hcounted.trans (State.itemSymbolDone_sound ..)

theorem State.enterOnAir_sound : s.Sound (s.enterOnAir c) :=
  ((s.modChan_sound c).trans (State.decisionPoint_sound ..)).trans (State.emit_sound ..)

theorem State.keyUp_sound : s.Sound (s.keyUp c) := by
  have hrise : s.Sound (s.modChan c fun ch => { ch with state := .keyUp, keyRise := s.clock.elapsed }) :=
    s.modChan_sound c
  exact .ite (fun _ => hrise.trans (State.enterOnAir_sound ..)) fun _ => hrise

theorem State.judgeWithin_sound (n : Nat) (cs : List ChannelNo) : s.Sound (State.judgeWithin n cs s) := by
  induction n generalizing cs s with
  | zero => exact .refl s
  | succ n ih =>
    cases cs with
    | nil => exact .refl s
    | cons c cs => exact .ite (fun _ => (s.keyUp_sound c).trans (ih _ _)) fun _ => ih s cs

theorem State.judgeKeyUp_sound (cs : List ChannelNo) : s.Sound (s.judgeKeyUp cs) := s.judgeWithin_sound judgeBound cs

theorem State.breakSegment_sound : s.Sound (s.breakSegment c) := by
  unfold State.breakSegment
  split
  case h_1 => exact s.segmentEnds_sound ..
  case h_2 => exact .refl s

theorem State.forSome_sound {α : Type} (x : Option α) {f : State → α → State} (h : ∀ s a, State.Sound s (f s a)) :
    s.Sound (s.forSome x f) := by
  cases x with
  | some a => exact h s a
  | none => exact .refl s

theorem State.faultChannel_sound (reason : FaultReason) : s.Sound (s.faultChannel c reason) :=
  ((((((s.breakSegment_sound c).trans (State.modChan_sound ..)).trans (State.forSome_sound _ _ State.suspend_sound)).trans
    (State.forSome_sound _ _ State.requeueReady_sound)).trans
      (State.forSome_sound _ _ fun s q => s.returnRequest_sound c _ _ _)).trans (State.emit_sound ..)).trans
        (State.forSome_sound _ _ State.freeCancelled_sound)

theorem State.resetPort_sound : s.Sound (s.resetPort c) := by
  have hoff : s.Sound (s.modChan c fun ch => { ch with
      state := .offline, faultReason := none, item := .noItem, idleSince := none, urgentRun := 0, lastFit := none }) :=
    s.modChan_sound c ⟨fun ⟨hset, _, hover, hp⟩ => ⟨hset, Nat.zero_le _, hover, hp⟩, id, id⟩
  have hcleared (u : State) : u.Sound (u.modChan c fun ch => { ch with
      parser := Parser.reset, holds := [], latch := none, rx := RxCounts.reset, stats := Stats.reset }) :=
    u.modChan_sound c ⟨fun ⟨hset, hrun, _, _⟩ => ⟨hset, hrun, Nat.zero_le _, Nat.zero_le _⟩, id,
      fun _ => ⟨Nat.zero_le _, .nil, Nat.zero_le _⟩⟩
  exact (((((hoff.trans (State.forSome_sound _ _ fun u h => (u.suspend_sound h).trans
    (State.suspendedNotice_sound _ h .reset))).trans (State.forSome_sound _ _ State.freeCancelled_sound)).trans
      (State.forSome_sound _ _ State.requeueReady_sound)).trans
        (State.forSome_sound _ _ fun u q => u.setArea_sound _ _)).trans
          (State.endAllBroken_sound _ c true _)).trans (hcleared _)

/-! ### The Receive Watch -/

theorem State.capture_sound (p : Parser) : s.Sound (s.capture c p) := by
  refine .ite (fun _ => s.modChan_sound c ⟨id, id, fun ⟨hlen, hnodup, _⟩ => ⟨hlen, hnodup, ?_⟩⟩) fun _ =>
    (s.modChan_sound c).trans (State.emit_sound ..)
  exact satSucc_le 255 _

theorem State.dropHold_sound (ship : Nat) : s.Sound (s.dropHold c ship) :=
  s.modChan_sound c ⟨id, id, fun ⟨hlen, hnodup, hlost⟩ =>
    ⟨(List.length_filter_le ..).trans hlen, hnodup.sublist (List.filter_sublist.map _), hlost⟩⟩

/-- A record of a ship without one keeps the law of a table that is not full (R163). -/
theorem Channel.holds_append_sound {ch : Channel} {r : Hold} (hplace : ch.holds.length < holdPlaces)
    (hnew : ∀ x ∈ ch.holds, x.ship ≠ r.ship) : ch.Sound { ch with holds := ch.holds ++ [r] } := by
  refine ⟨id, id, fun ⟨_, hnodup, hlost⟩ => ⟨?_, ?_, hlost⟩⟩
  · rw [List.length_append]
    exact hplace
  · have hdisjoint : ∀ x ∈ ch.holds.map (·.ship), x ≠ r.ship := by simpa using hnew
    rw [List.map_append, List.nodup_append]
    exact ⟨hnodup, List.nodup_singleton _, by simpa using hdisjoint⟩

@[simp] theorem State.newHold_ship (ship n : Nat) : (s.newHold c ship n).ship = ship := by
  unfold State.newHold
  split <;> rfl

theorem State.holdCall_sound (ship n : Nat) : s.Sound (s.holdCall c ship n) := by
  have hcounted : s.Sound (s.countHold c) := s.modRx_sound c
  unfold State.holdCall
  dsimp only
  split
  case h_1 =>
    refine .ite (fun _ => ((hcounted.trans (State.dropHold_sound ..)).trans (State.emit_sound ..)).trans
      (State.judgeKeyUp_sound ..)) fun _ => (hcounted.trans (State.modChan_sound_of _ c fun ch => ch.holds_map_sound _ ?_)).trans
        (State.emit_sound ..)
    intro r
    split
    · unfold Hold.reload
      split <;> rfl
    · rfl
  case h_2 hfind =>
    refine .ite (fun _ => hcounted) fun _ => .ite (fun hplace => ?_) fun _ =>
      (s.modRx_sound c).trans (State.emit_sound ..)
    have hcreated : (s.countHold c).Sound ((s.countHold c).modChan c fun ch =>
        { ch with holds := ch.holds ++ [s.newHold c ship n] }) := by
      refine State.modChan_sound _ c (Channel.holds_append_sound ?_ ?_)
      · simpa [State.countHold, State.modRx] using hplace
      · rw [State.newHold_ship]
        simpa [State.countHold, State.modRx] using hfind
    exact ((hcounted.trans hcreated).trans (State.emit_sound ..)).trans (State.judgeKeyUp_sound ..)

theorem State.repeatMessage_sound (h : Handle) : s.Sound (s.repeatMessage c h) :=
  .ite (fun _ => (((s.requeueReady_sound h).trans (State.modDesc_sound ..)).trans (State.emit_sound ..)).trans
    (State.judgeKeyUp_sound ..)) fun _ => s.emit_sound ..

theorem State.deliverCall_sound (f : CallForm) (ship n : Nat) : s.Sound (s.deliverCall c f ship n) := by
  have hunmatched : s.Sound (s.unmatchedCall c f ship n) :=
    (s.modRx_sound c).trans (State.emit_sound ..)
  refine .ite (fun _ => hunmatched) fun _ => ?_
  split
  case h_1 => exact hunmatched
  case h_2 h _ =>
    split
    case h_1 => exact (s.freeWith_sound ..).trans (State.modRx_sound _ c)
    case h_2 => exact (s.repeatMessage_sound c h).trans (State.modRx_sound _ c)

theorem State.recognise_sound (p : Parser) : s.Sound (s.recognise c p) := by
  unfold State.recognise
  split
  case h_1 => exact s.holdCall_sound ..
  case h_2 => exact s.deliverCall_sound ..
  case h_3 => exact s.capture_sound c p

end

/-- The run count stays at most 16 (R153). -/
theorem Parser.identSymbol_run_le {p : Parser} (h : p.run ≤ 16) (copies y : Nat) (mutilated : Bool) :
    (p.identSymbol copies y mutilated).1.run ≤ 16 := by
  have hreject (b : Bool) : (p.reject b).1.run ≤ 16 := by
    unfold Parser.reject
    dsimp only
    split
    · exact (by decide : 1 ≤ 16)
    · exact h
  fun_cases Parser.identSymbol
  case case3 => exact h
  case case5 => exact h
  all_goals exact hreject _

theorem Parser.symbol_run_le {p : Parser} (h : p.run ≤ 16) (k copies y : Nat) (mutilated : Bool) :
    (p.symbol k copies y mutilated).1.run ≤ 16 := by
  have hone : (1 : Nat) ≤ 16 := by decide
  fun_cases Parser.symbol
  case case5 =>
    exact satSucc_le 16 _
  case case6 => exact Parser.identSymbol_run_le (by exact h) ..
  case case8 => exact Parser.identSymbol_run_le h ..
  case case11 =>
    unfold Parser.joinBody
    dsimp only
    split <;> exact h
  all_goals first
    | exact hone
    | exact h
    | exact Nat.zero_le _

theorem State.takeSymbol_sound (s : State) (c : ChannelNo) (y : Nat) (mutilated : Bool) :
    s.Sound (s.takeSymbol c y mutilated) := by
  by_cases hshift : isShift y mutilated = true
  · rw [s.takeSymbol_of_isShift c y mutilated hshift]
    exact s.setChan_sound c ⟨id, id, id⟩
  · have hparsed : s.Sound (s.parsed c y mutilated) :=
      s.setChan_sound c ⟨fun ⟨hset, hrun, hover, hp⟩ => ⟨hset, hrun, hover, Parser.symbol_run_le hp ..⟩, id, id⟩
    rcases s.takeSymbol_cases c y mutilated hshift with ⟨-, h⟩ | ⟨-, h⟩ | ⟨-, h⟩ | ⟨call, -, h⟩ <;> rw [h]
    · exact hparsed
    · exact hparsed.trans (State.modRx_sound _ c)
    · exact hparsed.trans (State.modRx_sound _ c)
    · exact hparsed.trans (State.recognise_sound ..)

/-! ### The Load Unit and the Station Clock -/

section
variable (s : State)

theorem State.followLoad_sound (l : OpenLoad) : s.Sound (s.followLoad l) := by
  unfold State.followLoad
  split
  · exact s.modDesc_sound ..
  · exact s.setArea_sound ..

theorem State.takeText_sound (l : OpenLoad) (bs : List Byte) : s.Sound (s.takeText l bs) := by
  have hcells (m : Memory) (l' : Option OpenLoad) :
      s.Sound (State.setLoad { s with store := { s.store with cells := m } } l') := .of_parts rfl rfl rfl
  exact (hcells ..).trans (State.followLoad_sound ..)

theorem State.loadNotice_sound (l : OpenLoad) (outcome number : Nat) : s.Sound (s.loadNotice l outcome number) := by
  unfold State.loadNotice
  dsimp only
  split <;> exact s.emit_sound ..

theorem State.trimChain_sound (h : Handle) : s.Sound (s.trimChain h) :=
  s.returnChain_sound h { s.desc h with chain := (s.desc h).chain.take _ } _ (List.take_append_drop ..)

theorem State.toTail_sound (h : Handle) : s.Sound (s.toTail h) :=
  (s.modDesc_sound ..).trans (State.modChan_sound_of _ _ fun ch => ch.setQueue_sound ..)

theorem State.completeTelex_sound (l : OpenLoad) (h : Handle) (c : ChannelNo) : s.Sound (s.completeTelex l h c) := by
  have hready := (((s.trimChain_sound h).trans (State.toTail_sound _ h)).trans (State.setLoad_sound _ none)).trans
    (State.loadNotice_sound _ l 0 (s.desc h).number)
  have hcut (p : Prop) [Decidable p] {u : State} (hu : s.Sound u) : s.Sound (if p then u.relayReady c else u) :=
    .ite (fun _ => hu.trans (State.relayReady_sound ..)) fun _ => hu
  have hexpired {u : State} (hu : s.Sound u) : s.Sound (if u.expired h then u.expire h else u) :=
    .ite (fun _ => hu.trans (State.freeWith_sound ..)) fun _ => hu
  exact (hexpired (hcut _ hready)).trans (State.judgeKeyUp_sound ..)

theorem State.completeLoad_sound (l : OpenLoad) : s.Sound (s.completeLoad l) := by
  unfold State.completeLoad
  split
  case h_1 =>
    exact .ite (fun _ => s.completeTelex_sound ..) fun _ =>
      ((s.freeMessage_sound _).trans (State.setLoad_sound ..)).trans (State.loadNotice_sound ..)
  case h_2 =>
    exact .ite (fun _ => ((s.setArea_sound ..).trans (State.setLoad_sound ..)).trans (State.loadNotice_sound ..))
      fun _ => ((s.setArea_sound ..).trans (State.setLoad_sound ..)).trans (State.loadNotice_sound ..)

theorem State.afterText_sound : s.Sound s.afterText := by
  unfold State.afterText
  split
  case h_1 => exact .refl s
  case h_2 =>
    exact .ite (fun _ => s.completeLoad_sound _) fun _ => .ite (fun _ => s.judgeGrant_sound true)
      fun _ => .refl s

theorem State.abandon_sound (l : OpenLoad) : s.Sound (s.abandon l) := by
  unfold State.abandon
  split
  case h_1 => exact (s.setLoad_sound none).trans (State.freeSilent_sound ..)
  case h_2 => exact (s.setArea_sound ..).trans (State.setLoad_sound ..)

theorem State.stopAtEnd_sound : s.Sound s.stopAtEnd := .ite (fun _ => .of_parts rfl rfl rfl) fun _ => .refl s

theorem State.applyClock_sound (day ms : Nat) : s.Sound (s.applyClock day ms) := by
  have hset : s.Sound (s.setTime day ms) := .of_parts rfl rfl rfl
  have hrecomputed (u : State) : u.Sound u.recomputeAll := .of_parts rfl rfl rfl
  have hexpired := ((hset.trans (State.stopAtEnd_sound _)).trans (hrecomputed _)).trans (State.expireAll_sound _)
  have hpassed := hexpired.trans
    (.foldl (f := State.endPassed) (fun u c => u.endAllBroken_sound c false _) allChannels _)
  exact (hpassed.trans (State.takeOccurrences_sound ..)).trans (State.judgeKeyUp_sound ..)

theorem State.advance_sound : s.Sound s.advance :=
  .ite (fun _ => .of_parts rfl rfl rfl) fun _ => .ite (fun _ => .of_parts rfl rfl rfl) fun _ => .of_parts rfl rfl rfl

theorem State.changeSlot_sound (i : SlotNo) (e : Slot) : s.Sound (s.changeSlot i e) := by
  have hset := s.setSlot_sound i e
  have htaken (u : State) : u.Sound (if u.slotDue i then u.takeOccurrence i else u) :=
    .ite (fun _ => u.takeOccurrence_sound i) fun _ => .refl u
  exact (hset.trans (htaken _)).trans (State.judgeKeyUp_sound ..)

theorem State.closePort_sound (c : ChannelNo) : s.Sound (s.closePort c) := by
  unfold State.closePort
  split
  case h_1 => exact .refl s
  case h_2 => exact .refl s
  case h_6 => exact (s.modChan_sound c).trans (State.cutTelex_sound ..)
  all_goals exact s.reachOffline_sound c

end

/-! ### Commands and events -/

/-- All that an accepted command can do to the laws: a new split rebuilds the free list, and everything else is sound. -/
theorem State.Obeys.sound {s t : State} (h : s.Obeys t) : s.Sound t ∨ ∃ nb, t = s.applySplit nb ∧ nb ≤ 512
    ∧ s.anyChain = false ∧ s.reserveSum ≤ 1024 - nb := by
  cases h with
  | setSplit nb hnb _ _ hchain hreserves => exact .inr ⟨nb, rfl, hnb, hchain, hreserves⟩
  | reports => exact .inl (.refl s)
  | clearCounts => exact .inl (.of_parts rfl rfl rfl)
  | masks => exact .inl (.of_parts rfl rfl rfl)
  | setClock day ms => exact .inl (s.applyClock_sound day ms)
  | defineArea => exact .inl (s.setArea_sound ..)
  | clearArea => exact .inl (s.setArea_sound ..)
  | setAllowance c => exact .inl ((s.modChan_sound c).trans (State.rejudgeGrant_sound _))
  | setGrain g =>
    have hgrain : s.Sound { s with loadUnit := { s.loadUnit with grain := g } } := .of_parts rfl rfl rfl
    exact .inl (hgrain.trans (State.rejudgeGrant_sound _))
  | declare d h => exact .inl (((s.modDesc_sound h _).trans (State.setLoad_sound ..)).trans (State.judgeGrant_sound ..))
  | openBulletin => exact .inl ((s.setArea_sound ..).trans (State.setLoad_sound ..))
  | text l body => exact .inl ((s.takeText_sound l body).trans (State.afterText_sound _))
  | abandon l => exact .inl (s.abandon_sound l)
  | cancelNow h => exact .inl ((s.freeSilent_sound h).trans (State.judgeKeyUp_sound ..))
  | cancelLater h =>
    exact .inl (.ite (fun _ => .refl s) fun _ => (s.modDesc_sound ..).trans (State.cancelActive_sound ..))
  | discard h => exact .inl (s.freeSilent_sound h)
  | requeue h => exact .inl ((s.requeueReady_sound h).trans (State.judgeKeyUp_sound ..))
  | changeSlot i e => exact .inl (s.changeSlot_sound i e)
  | setChannel c x _ hx =>
    exact .inl (s.modChan_sound c ⟨fun ⟨_, hrun, hover, hp⟩ => ⟨hx, hrun, hover, hp⟩, id, id⟩)
  | openPort c =>
    have hopened : s.Sound (s.modChan c fun ch => { ch with state := .standby, parser := Parser.reset }) :=
      s.modChan_sound c ⟨fun ⟨hset, hrun, hover, _⟩ => ⟨hset, hrun, hover, Nat.zero_le _⟩, id, id⟩
    exact .inl (hopened.trans (State.judgeKeyUp_sound ..))
  | restorePort c => exact .inl ((s.modChan_sound c).trans (State.judgeKeyUp_sound ..))
  | closePort c => exact .inl (s.closePort_sound c)
  | resetPort c => exact .inl (s.resetPort_sound c)
  | clearStats c =>
    exact .inl (s.modChan_sound c ⟨fun ⟨hset, hrun, _, hp⟩ => ⟨hset, hrun, Nat.zero_le _, hp⟩, id, id⟩)
  | setWatch => exact .inl (.of_parts rfl rfl rfl)
  | releaseLatch c => exact .inl (s.modChan_sound c)
  | clearHold c ship => exact .inl ((s.dropHold_sound c ship).trans (State.judgeKeyUp_sound ..))
  | clearRx c => exact .inl (s.modChan_sound c ⟨id, id, fun ⟨hlen, hnodup, _⟩ => ⟨hlen, hnodup, Nat.zero_le _⟩⟩)

theorem State.Happens.sound {s t : State} (h : s.Happens t) : s.Sound t := by
  cases h with
  | nothing => exact .refl s
  | advance => exact s.advance_sound
  | rollover => exact .of_parts rfl rfl rfl
  | stop => exact s.stopAtEnd_sound
  | occurrence i => exact (s.takeOccurrence_sound i).trans (State.judgeKeyUp_sound ..)
  | deadline c q => exact (s.endRequest_sound ..).trans (State.judgeKeyUp_sound ..)
  | expiry h => exact (s.freeWith_sound ..).trans (State.judgeKeyUp_sound ..)
  | ackTimer h => exact (s.modDesc_sound ..).trans (State.emit_sound ..)
  | holdExpiry c ship => exact ((s.dropHold_sound c ship).trans (State.emit_sound ..)).trans (State.judgeKeyUp_sound ..)
  | keyUpLimit c => exact s.faultChannel_sound ..
  | keyUp cs => exact s.judgeKeyUp_sound cs
  | level c => exact s.modChan_sound c
  | ready c => exact ((s.modChan_sound c).trans (State.enterOnAir_sound ..)).trans (State.judgeKeyUp_sound ..)
  | drop c => exact (s.modChan_sound c).trans (State.faultChannel_sound ..)
  | symbol c => exact (s.symbolCompletes_sound c).trans (State.judgeKeyUp_sound ..)
  | received c y m => exact s.takeSymbol_sound c y m

end Sys2Proof.Machine
end

section
/-! The cells of the store, the clock, the settings and the allowances: each step keeps them in their ranges. Traffic leaves
them alone; what does not is named command by command and event by event. -/

namespace Sys2Proof.Machine

/-! ### What is more than traffic -/

/-- The accepted commands that do more than change the traffic, the state from which the traffic then goes on included. -/
inductive State.Resets (s : State) : State → Prop
  | counts : s.Resets (s.modLink Link.clearCounts)
  | masks (cats chans : BitVec 8) : s.Resets (s.modLink fun k => { k with categories := cats, channels := chans })
  | clock (day ms : Nat) (hday : day ≤ 65535) (hms : ms ≤ 86399999) : s.Resets (s.setTime day ms).stopAtEnd
  | split (nb : Nat) (hnb : nb ≤ 512) (hchain : s.anyChain = false) (hreserves : s.reserveSum ≤ 1024 - nb) :
      s.Resets (s.applySplit nb)
  | allowance (c : ChannelNo) (reserve cap : Nat) (hcap : reserve ≤ cap) (hpool : cap ≤ s.poolSize)
      (hreserves : reserve + s.otherReserves c ≤ s.poolSize) :
      s.Resets (s.modChan c fun ch => { ch with reserve := reserve, cap := cap })
  | grain (g : Nat) : s.Resets { s with loadUnit := { s.loadUnit with grain := g } }
  | text (l : OpenLoad) (body : Body) : s.Resets (s.takeText l body)
  | settings (c : ChannelNo) (x : Settings) : s.Resets (s.modChan c fun ch => { ch with settings := x })
  | watch (w : WatchNo) (p : Option Pattern) : s.Resets (s.setWatch w p)
  | nothing : s.Resets s

section
variable (s : State)

theorem State.loadNotice_quiet (l : OpenLoad) (outcome number : Nat) : s.Quiet (s.loadNotice l outcome number) := by
  unfold State.loadNotice
  dsimp only
  split <;> exact s.emit_quiet ..

theorem State.trimChain_quiet (h : Handle) : s.Quiet (s.trimChain h) :=
  (s.returnBlocks_quiet ((s.desc h).chain.drop (ceilDiv (s.desc h).length Config.blockCells))).trans (State.modDesc_quiet _ h fun d =>
    { d with chain := d.chain.take (ceilDiv (s.desc h).length Config.blockCells) })

theorem State.toTail_quiet (h : Handle) : s.Quiet (s.toTail h) :=
  (s.modDesc_quiet ..).trans (State.modChan_quiet _ _ fun ch => ch.setQueue_settings ..)

theorem State.completeTelex_quiet (l : OpenLoad) (h : Handle) (c : ChannelNo) : s.Quiet (s.completeTelex l h c) := by
  have hready := (((s.trimChain_quiet h).trans (State.toTail_quiet _ h)).trans (State.setLoad_quiet _ none)).trans
    (State.loadNotice_quiet _ l 0 (s.desc h).number)
  have hcut (p : Prop) [Decidable p] {u : State} (hu : s.Quiet u) : s.Quiet (if p then u.relayReady c else u) :=
    .ite (fun _ => hu.trans (State.relayReady_quiet ..)) fun _ => hu
  have hexpired {u : State} (hu : s.Quiet u) : s.Quiet (if u.expired h then u.expire h else u) :=
    .ite (fun _ => hu.trans (State.expire_quiet ..)) fun _ => hu
  exact (hexpired (hcut _ hready)).trans (State.judgeKeyUp_quiet ..)

theorem State.completeLoad_quiet (l : OpenLoad) : s.Quiet (s.completeLoad l) := by
  have harea (a : AreaNo) (x : Area) (n : Nat) := ((s.setArea_quiet a x).trans (State.setLoad_quiet _ none)).trans
    (State.loadNotice_quiet _ l n 0)
  unfold State.completeLoad
  split
  case h_1 =>
    exact .ite (fun _ => s.completeTelex_quiet ..) fun _ =>
      ((s.freeMessage_quiet _).trans (State.setLoad_quiet ..)).trans (State.loadNotice_quiet ..)
  case h_2 => exact .ite (fun _ => harea ..) fun _ => harea ..

theorem State.afterText_quiet : s.Quiet s.afterText := by
  unfold State.afterText
  split
  case h_1 => exact .refl s
  case h_2 =>
    exact .ite (fun _ => s.completeLoad_quiet _) fun _ => .ite (fun _ => s.judgeGrant_quiet true) fun _ => .refl s

theorem State.abandon_quiet (l : OpenLoad) : s.Quiet (s.abandon l) := by
  unfold State.abandon
  split
  case h_1 => exact (s.setLoad_quiet none).trans (State.freeSilent_quiet ..)
  case h_2 => exact (s.setArea_quiet ..).trans (State.setLoad_quiet ..)

theorem State.changeSlot_quiet (i : SlotNo) (e : Slot) : s.Quiet (s.changeSlot i e) := by
  have htaken (u : State) : u.Quiet (if u.slotDue i then u.takeOccurrence i else u) :=
    .ite (fun _ => u.takeOccurrence_quiet i) fun _ => .refl u
  exact ((s.setSlot_quiet i e).trans (htaken _)).trans (State.judgeKeyUp_quiet ..)

theorem State.closePort_quiet (c : ChannelNo) : s.Quiet (s.closePort c) := by
  have hclosing : s.Quiet (s.modChan c fun ch => { ch with state := .closing }) :=
    s.modChan_quiet c fun _ => ⟨rfl, rfl, rfl, rfl⟩
  unfold State.closePort
  split
  case h_1 => exact .refl s
  case h_2 => exact .refl s
  case h_6 => exact hclosing.trans (State.cutTelex_quiet ..)
  all_goals exact s.reachOffline_quiet c

/-- What a SET-CLOCK does besides the clock is traffic. -/
theorem State.applyClock_quiet (day ms : Nat) : (s.setTime day ms).stopAtEnd.Quiet (s.applyClock day ms) := by
  have hrecomputed (u : State) : u.Quiet u.recomputeAll :=
    ⟨rfl, rfl, rfl, rfl, rfl, rfl, rfl, fun _ => rfl, fun _ => rfl, fun _ => rfl, fun _ => rfl⟩
  exact ((((hrecomputed _).trans (State.expireAll_quiet _)).trans
    (.foldl State.endPassed_quiet allChannels _)).trans (State.takeOccurrences_quiet ..)).trans
      (State.judgeKeyUp_quiet ..)

end

section
variable {s t : State}

/-- An accepted command is traffic after at most one change of another kind; of SET-SPLIT it is the change alone. -/
theorem State.Obeys.quiet (h : s.Obeys t) : ∃ u, s.Resets u ∧ u.Quiet t ∧ (u.store.split = s.store.split ∨ t = u) := by
  have hchan (c : ChannelNo) {f : Channel → Channel} (hf : ∀ ch : Channel, (f ch).settings = ch.settings
      ∧ (f ch).reserve = ch.reserve ∧ (f ch).cap = ch.cap ∧ (f ch).ready = ch.ready) := s.modChan_quiet c hf
  cases h with
  | clearCounts => exact ⟨_, .counts, .refl _, .inl rfl⟩
  | masks cats chans => exact ⟨_, .masks cats chans, .refl _, .inl rfl⟩
  | setClock day ms hday hms =>
    refine ⟨_, .clock day ms hday hms, s.applyClock_quiet day ms, .inl ?_⟩
    unfold State.stopAtEnd
    split <;> rfl
  | setSplit nb hnb _ _ hchain hreserves => exact ⟨_, .split nb hnb hchain hreserves, .refl _, .inr rfl⟩
  | setAllowance c reserve cap hcap hpool hreserves =>
    exact ⟨_, .allowance c reserve cap hcap hpool hreserves, State.rejudgeGrant_quiet _, .inl rfl⟩
  | setGrain g => exact ⟨_, .grain g, State.rejudgeGrant_quiet _, .inl rfl⟩
  | text l body =>
    refine ⟨_, .text l body, State.afterText_quiet _, .inl ?_⟩
    unfold State.takeText State.followLoad
    dsimp only
    split <;> rfl
  | setChannel c x => exact ⟨_, .settings c x, .refl _, .inl rfl⟩
  | setWatch w p => exact ⟨_, .watch w p, .refl _, .inl rfl⟩
  | reports => exact ⟨s, .nothing, .refl s, .inl rfl⟩
  | defineArea => exact ⟨s, .nothing, s.setArea_quiet .., .inl rfl⟩
  | clearArea => exact ⟨s, .nothing, s.setArea_quiet .., .inl rfl⟩
  | declare d h =>
    exact ⟨s, .nothing, ((s.modDesc_quiet h _).trans (State.setLoad_quiet ..)).trans (State.judgeGrant_quiet ..), .inl rfl⟩
  | openBulletin => exact ⟨s, .nothing, (s.setArea_quiet ..).trans (State.setLoad_quiet ..), .inl rfl⟩
  | abandon l => exact ⟨s, .nothing, s.abandon_quiet l, .inl rfl⟩
  | cancelNow h => exact ⟨s, .nothing, (s.freeSilent_quiet h).trans (State.judgeKeyUp_quiet ..), .inl rfl⟩
  | cancelLater h =>
    exact ⟨s, .nothing, .ite (fun _ => .refl s) fun _ => (s.modDesc_quiet ..).trans (State.cancelActive_quiet ..), .inl rfl⟩
  | discard h => exact ⟨s, .nothing, s.freeSilent_quiet h, .inl rfl⟩
  | requeue h => exact ⟨s, .nothing, (s.requeueReady_quiet h).trans (State.judgeKeyUp_quiet ..), .inl rfl⟩
  | changeSlot i e => exact ⟨s, .nothing, s.changeSlot_quiet i e, .inl rfl⟩
  | openPort c =>
    exact ⟨s, .nothing, (hchan c (by exact fun _ => ⟨rfl, rfl, rfl, rfl⟩)).trans (State.judgeKeyUp_quiet ..), .inl rfl⟩
  | restorePort c =>
    exact ⟨s, .nothing, (hchan c (by exact fun _ => ⟨rfl, rfl, rfl, rfl⟩)).trans (State.judgeKeyUp_quiet ..), .inl rfl⟩
  | closePort c => exact ⟨s, .nothing, s.closePort_quiet c, .inl rfl⟩
  | resetPort c => exact ⟨s, .nothing, s.resetPort_quiet c, .inl rfl⟩
  | clearStats c => exact ⟨s, .nothing, s.modStats_quiet .., .inl rfl⟩
  | releaseLatch c => exact ⟨s, .nothing, hchan c fun _ => ⟨rfl, rfl, rfl, rfl⟩, .inl rfl⟩
  | clearHold c ship => exact ⟨s, .nothing, (s.dropHold_quiet c ship).trans (State.judgeKeyUp_quiet ..), .inl rfl⟩
  | clearRx c => exact ⟨s, .nothing, s.modRx_quiet .., .inl rfl⟩

/-- The events that do more than change the traffic. -/
inductive State.Ticks (s : State) : State → Prop
  | nothing : s.Ticks s
  | advance : s.Ticks s.advance
  | rollover (h : s.clock.beforeMidnight = true) : s.Ticks s.rollover
  | stop : s.Ticks s.stopAtEnd
  | level (c : ChannelNo) (ready : Bool) : s.Ticks (s.setReady c ready)

/-- An event is traffic after at most one change of another kind. -/
theorem State.Happens.quiet (h : s.Happens t) : ∃ u, s.Ticks u ∧ u.Quiet t := by
  cases h with
  | nothing => exact ⟨s, .nothing, .refl s⟩
  | advance => exact ⟨_, .advance, .refl _⟩
  | rollover h => exact ⟨_, .rollover h, .refl _⟩
  | stop => exact ⟨_, .stop, .refl _⟩
  | occurrence i => exact ⟨s, .nothing, (s.takeOccurrence_quiet i).trans (State.judgeKeyUp_quiet ..)⟩
  | deadline c q => exact ⟨s, .nothing, (s.endBroken_quiet ..).trans (State.judgeKeyUp_quiet ..)⟩
  | expiry h => exact ⟨s, .nothing, (s.expire_quiet h).trans (State.judgeKeyUp_quiet ..)⟩
  | ackTimer h => exact ⟨s, .nothing, (s.modDesc_quiet ..).trans (State.emit_quiet ..)⟩
  | holdExpiry c ship =>
    exact ⟨s, .nothing, ((s.dropHold_quiet c ship).trans (State.holdEnded_quiet ..)).trans (State.judgeKeyUp_quiet ..)⟩
  | keyUpLimit c => exact ⟨s, .nothing, s.faultChannel_quiet ..⟩
  | keyUp cs => exact ⟨s, .nothing, s.judgeKeyUp_quiet cs⟩
  | level c ready => exact ⟨_, .level c ready, .refl _⟩
  | ready c => exact ⟨_, .level c true, (State.enterOnAir_quiet ..).trans (State.judgeKeyUp_quiet ..)⟩
  | drop c => exact ⟨_, .level c false, State.faultChannel_quiet ..⟩
  | symbol c => exact ⟨s, .nothing, (s.symbolCompletes_quiet c).trans (State.judgeKeyUp_quiet ..)⟩
  | received c y m => exact ⟨s, .nothing, s.takeSymbol_quiet c y m⟩

end

/-! ### A law over the parts apart from the Office Link -/

/-- A law that does not read the Office Link is kept by a step when commands, events and resets keep it. -/
theorem step_keeps {law : State → Prop} (hsame : ∀ {s t : State}, s.SameParts t → law s → law t)
    (hobeys : ∀ {s t : State}, s.Obeys t → law s → law t) (hhappens : ∀ {s t : State}, s.Happens t → law s → law t)
    (hpower : ∀ s : State, law s → law s.powerOn) (hrestart : ∀ s : State, law s → law s.restarted) {s t : State}
    (h : step s = .next t) (hs : law s) : law t := by
  obtain ⟨u, v, hu, ha, hv⟩ := step_acts h
  refine hsame hv ?_
  have hlaw := hsame hu hs
  cases ha with
  | nothing => exact hlaw
  | obeys h => exact hobeys h hlaw
  | happens h => exact hhappens h hlaw
  | powerOn => exact hpower u hlaw
  | restarted => exact hrestart u hlaw

/-! ### The cells -/

section
variable {s t : State}

theorem State.takeText_memoryOk (l : OpenLoad) (body : Body) (h : s.memoryOk) : (s.takeText l body).memoryOk := by
  have hcells : (s.takeText l body).store.cells
      = (storeText (s.targetAddress l.target) s.store.cells l.stored body).1 := by
    unfold State.takeText State.followLoad
    dsimp only
    split <;> rfl
  rw [State.memoryOk, hcells]
  exact storeText_wf _ _ _ h

theorem State.Quiet.memoryOk (h : s.Quiet t) (hs : s.memoryOk) : t.memoryOk := by rwa [State.memoryOk, h.cells]

theorem State.stopAtEnd_store (s : State) : s.stopAtEnd.store = s.store := by
  unfold State.stopAtEnd
  split <;> rfl

theorem State.advance_store (s : State) : s.advance.store = s.store := by
  unfold State.advance
  split
  · rfl
  · split <;> rfl

theorem State.Resets.memoryOk (h : s.Resets t) (hs : s.memoryOk) : t.memoryOk := by
  cases h with
  | clock day ms =>
    rw [State.memoryOk, State.stopAtEnd_store]
    exact hs
  | text l body => exact State.takeText_memoryOk l body hs
  | _ => exact hs

theorem State.Ticks.memoryOk (h : s.Ticks t) (hs : s.memoryOk) : t.memoryOk := by
  cases h with
  | stop => rwa [State.memoryOk, State.stopAtEnd_store]
  | advance => rwa [State.memoryOk, State.advance_store]
  | _ => exact hs

theorem step_keeps_memoryOk (h : step s = .next t) (hs : s.memoryOk) : t.memoryOk :=
  step_keeps (law := fun s => s.memoryOk) (fun h hs => by rwa [State.memoryOk, h.store])
    (fun h hs => let ⟨_, hr, hq, _⟩ := h.quiet; hq.memoryOk (hr.memoryOk hs))
    (fun h hs => let ⟨_, hr, hq⟩ := h.quiet; hq.memoryOk (hr.memoryOk hs)) (fun _ _ => rfl) (fun _ _ => rfl) h hs

/-! ### The clock -/

theorem State.Quiet.clockOk (h : s.Quiet t) (hs : s.clockOk) : t.clockOk := by rwa [State.clockOk, h.clock]

theorem State.stopAtEnd_clockOk (h : s.clockOk) : s.stopAtEnd.clockOk := by
  unfold State.stopAtEnd
  split <;> exact h

/-- R2. A rollover goes on to a day that exists. -/
theorem State.rollover_clockOk (h : s.clock.beforeMidnight = true) : s.rollover.clockOk := by
  simp only [Clock.beforeMidnight, Bool.and_eq_true, decide_eq_true_eq] at h
  obtain ⟨-, hday⟩ := h
  exact ⟨hday, Nat.zero_le _⟩

/-- R2, R3. The clock stops before its last millisecond passes. -/
theorem State.advance_clockOk (hs : s.clockOk) : s.advance.clockOk := by
  obtain ⟨hday, hms⟩ := id hs
  unfold State.advance
  split
  case isTrue h => exact State.rollover_clockOk h
  split
  case isFalse => exact hs
  case isTrue hmid hrun =>
    refine ⟨hday, ?_⟩
    simp only [Clock.beforeMidnight, Clock.atEnd, Bool.and_eq_true, Bool.not_eq_true', Bool.and_eq_false_iff,
      decide_eq_true_eq, decide_eq_false_iff_not] at hmid hrun
    have : s.clock.ms + 1 ≤ 86399999 := by
      by_contra hlast
      exact hmid ⟨⟨hrun.1, by omega⟩, by omega⟩
    exact this

theorem State.Resets.clockOk (h : s.Resets t) (hs : s.clockOk) : t.clockOk := by
  cases h with
  | clock day ms hday hms => exact State.stopAtEnd_clockOk ⟨hday, hms⟩
  | text l body =>
    unfold State.takeText State.followLoad
    dsimp only
    split <;> exact hs
  | _ => exact hs

theorem State.Ticks.clockOk (h : s.Ticks t) (hs : s.clockOk) : t.clockOk := by
  cases h with
  | advance => exact State.advance_clockOk hs
  | rollover h => exact State.rollover_clockOk h
  | stop => exact State.stopAtEnd_clockOk hs
  | _ => exact hs

theorem step_keeps_clockOk (h : step s = .next t) (hs : s.clockOk) : t.clockOk :=
  step_keeps (law := fun s => s.clockOk) (fun h hs => by rwa [State.clockOk, h.clock])
    (fun h hs => let ⟨_, hr, hq, _⟩ := h.quiet; hq.clockOk (hr.clockOk hs))
    (fun h hs => let ⟨_, hr, hq⟩ := h.quiet; hq.clockOk (hr.clockOk hs))
    (fun _ _ => ⟨Nat.zero_le _, Nat.zero_le _⟩) (fun _ hs => hs) h hs

/-! ### The settings and counts, the pending lists and the hold tables -/

/-- What every channel keeps is kept by the state. -/
theorem State.Sound.settingsOk (h : s.Sound t) (hs : s.settingsOk) : t.settingsOk := fun c => (h.channel c).ranges (hs c)

theorem State.Sound.requestsOk (h : s.Sound t) (hs : s.requestsOk) : t.requestsOk :=
  fun c => (h.channel c).requests (hs c)

theorem State.Sound.holdsOk (h : s.Sound t) (hs : s.holdsOk) : t.holdsOk := fun c => (h.channel c).holds (hs c)

@[simp] theorem State.chan_powerOn (s : State) (c : ChannelNo) : s.powerOn.chan c = Channel.reset (s.chan c).ready :=
  vget_map ..

@[simp] theorem State.chan_restarted (s : State) (c : ChannelNo) : s.restarted.chan c = Channel.reset (s.chan c).ready :=
  vget_map ..

/-- A law of the channels is kept by a step when sound changes and a new split keep it and a reset channel has it. -/
theorem step_keeps_channels {law : Channel → Prop} (hsound : ∀ {a b : Channel}, a.Sound b → law a → law b)
    (hcap : ∀ (ch : Channel) (n : Nat), law ch → law { ch with cap := n }) (hreset : ∀ ready, law (Channel.reset ready))
    (h : step s = .next t) (hs : ∀ c, law (s.chan c)) (c : ChannelNo) : law (t.chan c) := by
  refine step_keeps (law := fun s => ∀ c, law (s.chan c)) (fun h hs => by rwa [h.chan]) (fun h hs c => ?_)
    (fun h hs c => hsound (h.sound.channel c) (hs c)) (fun s _ c => ?_) (fun s _ c => ?_) h hs c
  · rcases h.sound with h | ⟨nb, rfl, -⟩
    · exact hsound (h.channel c) (hs c)
    · rw [State.chan_applySplit]
      exact hcap _ _ (hs c)
  · rw [State.chan_powerOn]
    exact hreset _
  · rw [State.chan_restarted]
    exact hreset _

theorem step_keeps_settingsOk (h : step s = .next t) (hs : s.settingsOk) : t.settingsOk :=
  step_keeps_channels (law := Channel.rangesOk) (fun h => h.ranges) (fun _ _ h => h)
    (fun _ => ⟨rfl, Nat.zero_le _, Nat.zero_le _, Nat.zero_le _⟩) h hs

theorem step_keeps_requestsOk (h : step s = .next t) (hs : s.requestsOk) : t.requestsOk :=
  step_keeps_channels (law := Channel.requestsOk) (fun h => h.requests) (fun _ _ h => h)
    (fun _ => ⟨Nat.zero_le _, .nil⟩) h hs

theorem step_keeps_holdsOk (h : step s = .next t) (hs : s.holdsOk) : t.holdsOk :=
  step_keeps_channels (law := Channel.holdsOk) (fun h => h.holds) (fun _ _ h => h)
    (fun _ => ⟨Nat.zero_le _, .nil, Nat.zero_le _⟩) h hs

/-! ### The allowances -/

theorem State.reserveSum_eq_sum (s : State) : s.reserveSum = ∑ c, (s.chan c).reserve := (Fin.sum_univ_def _).symm

theorem State.otherReserves_eq_sum (s : State) (c : ChannelNo) :
    s.otherReserves c = ∑ d, if d = c then 0 else (s.chan d).reserve := (Fin.sum_univ_def _).symm

theorem State.reserve_le_reserveSum (s : State) (c : ChannelNo) : (s.chan c).reserve ≤ s.reserveSum := by
  rw [s.reserveSum_eq_sum]
  exact Finset.single_le_sum (f := fun c => (s.chan c).reserve) (fun _ _ => Nat.zero_le _) (Finset.mem_univ c)

/-- The reserves of a state whose channel has been given another. -/
theorem State.reserveSum_allowance (s : State) (c : ChannelNo) (reserve cap : Nat) :
    (s.modChan c fun ch => { ch with reserve := reserve, cap := cap }).reserveSum = reserve + s.otherReserves c := by
  rw [State.reserveSum_eq_sum, State.otherReserves_eq_sum]
  have hsplit (d : ChannelNo) : ((s.modChan c fun ch => { ch with reserve := reserve, cap := cap }).chan d).reserve
      = (if d = c then reserve else 0) + if d = c then 0 else (s.chan d).reserve := by
    rw [State.chan_modChan]
    split <;> simp
  simp only [hsplit, Finset.sum_add_distrib, Finset.sum_ite_eq', Finset.mem_univ, if_true]

/-- The law of the allowances reads the split and the two values of each channel. -/
theorem State.allowancesOk_congr (hsplit : t.store.split = s.store.split)
    (hreserve : ∀ c, (t.chan c).reserve = (s.chan c).reserve) (hcap : ∀ c, (t.chan c).cap = (s.chan c).cap)
    (hs : s.allowancesOk) : t.allowancesOk := by
  obtain ⟨h512, hcaps, hsum⟩ := hs
  have hpool : t.poolSize = s.poolSize := by rw [State.poolSize, hsplit, State.poolSize]
  refine ⟨hsplit ▸ h512, fun c => ?_, ?_⟩
  · rw [hreserve, hcap, hpool]
    exact hcaps c
  · simp only [State.reserveSum_eq_sum, hreserve, hpool]
    rwa [State.reserveSum_eq_sum] at hsum

theorem State.Quiet.allowancesOk (h : s.Quiet t) (hs : s.allowancesOk) : t.allowancesOk :=
  State.allowancesOk_congr h.split h.reserve h.cap hs

theorem State.applySplit_allowancesOk {nb : Nat} (hnb : nb ≤ 512) (hreserves : s.reserveSum ≤ 1024 - nb)
    (hs : s.allowancesOk) : (s.applySplit nb).allowancesOk := by
  obtain ⟨-, hcaps, -⟩ := hs
  refine ⟨hnb, fun c => ?_, ?_⟩
  · rw [State.chan_applySplit, State.poolSize_applySplit]
    exact ⟨le_min (hcaps c).1 ((s.reserve_le_reserveSum c).trans hreserves), min_le_right ..⟩
  · rw [State.poolSize_applySplit, State.reserveSum_eq_sum]
    simp only [State.chan_applySplit]
    rwa [State.reserveSum_eq_sum] at hreserves

theorem State.allowance_allowancesOk {c : ChannelNo} {reserve cap : Nat} (hcap : reserve ≤ cap) (hpool : cap ≤ s.poolSize)
    (hreserves : reserve + s.otherReserves c ≤ s.poolSize) (hs : s.allowancesOk) :
    (s.modChan c fun ch => { ch with reserve := reserve, cap := cap }).allowancesOk := by
  obtain ⟨h512, hcaps, -⟩ := hs
  refine ⟨h512, fun d => ?_, ?_⟩
  · rw [State.chan_modChan]
    split
    · exact ⟨hcap, hpool⟩
    · exact hcaps d
  · rw [State.reserveSum_allowance]
    exact hreserves

theorem State.Resets.allowancesOk (h : s.Resets t) (hs : s.allowancesOk) : t.allowancesOk := by
  cases h with
  | split nb hnb _ hreserves => exact State.applySplit_allowancesOk hnb hreserves hs
  | allowance c reserve cap hcap hpool hreserves => exact State.allowance_allowancesOk hcap hpool hreserves hs
  | clock day ms =>
    unfold State.stopAtEnd
    split <;> exact hs
  | text l body =>
    unfold State.takeText State.followLoad
    dsimp only
    split <;> exact hs
  | settings c x =>
    refine State.allowancesOk_congr (by rfl) (fun d => ?_) (fun d => ?_) hs <;> rw [State.chan_modChan] <;> split
    case refine_1.isTrue hd => rw [hd]
    case refine_2.isTrue hd => rw [hd]
    all_goals rfl
  | _ => exact hs

theorem State.Ticks.allowancesOk (h : s.Ticks t) (hs : s.allowancesOk) : t.allowancesOk := by
  cases h with
  | level c ready =>
    refine State.allowancesOk_congr (by rfl) (fun d => ?_) (fun d => ?_) hs <;> rw [State.setReady, State.chan_modChan] <;>
      split
    case refine_1.isTrue hd => rw [hd]
    case refine_2.isTrue hd => rw [hd]
    all_goals rfl
  | advance =>
    unfold State.advance
    split
    · exact hs
    · split <;> exact hs
  | stop =>
    unfold State.stopAtEnd
    split <;> exact hs
  | _ => exact hs

theorem State.allowancesOk_of_reset (hsplit : s.store.split = 256) (hchan : ∀ c, ∃ ready, s.chan c = Channel.reset ready) :
    s.allowancesOk := by
  have hreserve (c : ChannelNo) : (s.chan c).reserve = 0 ∧ (s.chan c).cap = 768 := by
    obtain ⟨_, h⟩ := hchan c
    rw [h]
    exact ⟨rfl, rfl⟩
  have hpool : s.poolSize = 768 := by
    rw [State.poolSize, hsplit]
    rfl
  refine ⟨by omega, fun c => ?_, ?_⟩
  · rw [(hreserve c).1, (hreserve c).2, hpool]
    decide
  · simp [State.reserveSum_eq_sum, hreserve]

theorem step_keeps_allowancesOk (h : step s = .next t) (hs : s.allowancesOk) : t.allowancesOk :=
  step_keeps (law := fun s => s.allowancesOk)
    (fun h hs => State.allowancesOk_congr (by rw [h.store]) (by simp [h.chan]) (by simp [h.chan]) hs)
    (fun h hs => let ⟨_, hr, hq, _⟩ := h.quiet; hq.allowancesOk (hr.allowancesOk hs))
    (fun h hs => let ⟨_, hr, hq⟩ := h.quiet; hq.allowancesOk (hr.allowancesOk hs))
    (fun s _ => State.allowancesOk_of_reset rfl fun c => ⟨_, s.chan_powerOn c⟩)
    (fun s _ => State.allowancesOk_of_reset rfl fun c => ⟨_, s.chan_restarted c⟩) h hs

end

end Sys2Proof.Machine

namespace Sys2Proof.Proofs

open Sys2Proof.Machine

/-- Settles O56: each law is kept by the traffic, and by the few commands and events that do more. -/
theorem stepKeepsMemoryAndRanges : Obligations.StepKeepsMemoryAndRanges := by
  unfold Obligations.StepKeepsMemoryAndRanges
  exact fun s t h => ⟨step_keeps_memoryOk h, step_keeps_clockOk h, step_keeps_settingsOk h, step_keeps_allowancesOk h⟩

end Sys2Proof.Proofs
end

section
/-! The law of the Office Link: a record placed, a notice offered, a command taken and a frame's end each keep it. -/

namespace Sys2Proof.Machine

/-! ### The queue of the link -/

/-- `j` differs from `k` in the receiver, the masks and the counts alone. -/
structure Link.SameQueue (k j : Link) : Prop where
  output : j.output = k.output
  sending : j.sending = k.sending
  buffer : j.buffer = k.buffer
  restarting : j.restarting = k.restarting

theorem Link.SameQueue.refl (k : Link) : k.SameQueue k := ⟨rfl, rfl, rfl, rfl⟩

section
variable {k j : Link}

theorem Link.SameQueue.queued (h : k.SameQueue j) : j.queued = k.queued := by rw [Link.queued, h.output, Link.queued]

theorem Link.SameQueue.replyWaits (h : k.SameQueue j) : j.replyWaits = k.replyWaits := by
  rw [Link.replyWaits, h.output, Link.replyWaits]

theorem Link.SameQueue.ok (h : k.SameQueue j) (hk : k.ok) : j.ok := by
  rwa [Link.ok, h.queued, h.replyWaits, h.output, h.buffer, h.sending, h.restarting]

/-- No reply waits exactly when the output list holds notices alone. -/
theorem Link.replyWaits_eq_false_iff : k.replyWaits = false ↔ k.output.countP (fun r => !r.isNotice) = 0 := by
  simp [Link.replyWaits, List.countP_eq_zero]

/-- A link whose frames may be taken: no reply waits, no RESTART is under way, and a free transmitter has nothing to send
and no frame behind it. -/
structure Link.Free (k : Link) : Prop where
  queued : k.queued ≤ 64
  replyWaits : k.replyWaits = false
  buffer : k.buffer.length ≤ 4
  sending : k.sending = none → k.output = [] ∧ k.buffer = []
  restarting : k.restarting = false

theorem Link.SameQueue.free (h : k.SameQueue j) (hk : k.Free) : j.Free :=
  ⟨h.queued ▸ hk.queued, h.replyWaits ▸ hk.replyWaits, h.buffer ▸ hk.buffer,
    h.output ▸ h.buffer ▸ h.sending ▸ hk.sending, h.restarting ▸ hk.restarting⟩

/-! ### Records placed and notices offered -/

theorem Link.ok.place_notice (h : k.ok) (n : Notice) (hq : k.queued < 64) : (k.place (.notice n)).ok := by
  obtain ⟨hqueued, hreply, hbuffer, hsending, hwaits, hrestarting⟩ := h
  by_cases hs : k.sending = none
  · rw [Link.place_free hs (hsending hs)]
    exact ⟨hqueued, hreply, hbuffer, fun h => (Option.some_ne_none _ h).elim, hwaits, hrestarting⟩
  · rw [Link.place_busy hs]
    simp only [Link.queued, Link.replyWaits] at hq hwaits
    refine ⟨?_, ?_, hbuffer, fun h => (hs h).elim, fun hb => ?_, hrestarting⟩
    · simp only [Link.queued, List.countP_append, List.countP_singleton, Record.isNotice, if_true]
      omega
    · simpa [Record.isNotice] using hreply
    · simpa [Link.replyWaits, Record.isNotice] using hwaits hb

theorem Link.Free.place_reply (h : k.Free) (kind : Byte) (r : Reply) : (k.place (.reply kind r)).ok := by
  obtain ⟨hqueued, hreply, hbuffer, hsending, hrestarting⟩ := h
  have hcount := Link.replyWaits_eq_false_iff.1 hreply
  by_cases hs : k.sending = none
  · obtain ⟨hout, hb⟩ := hsending hs
    rw [Link.place_free hs hout]
    exact ⟨hqueued, hcount.le.trans (Nat.zero_le _), hbuffer, fun h => (Option.some_ne_none _ h).elim,
      fun h => (h hb).elim, fun _ => hb⟩
  · rw [Link.place_busy hs]
    refine ⟨?_, ?_, hbuffer, fun h => (hs h).elim, fun _ => ?_, fun h => ?_⟩
    · simpa [Link.queued, Record.isNotice] using hqueued
    · rw [List.countP_append, hcount, List.countP_singleton]
      split <;> omega
    · simp [Link.replyWaits, Record.isNotice]
    · simp [hrestarting] at h

theorem Link.lose_sameQueue (k : Link) : k.SameQueue k.lose := ⟨rfl, rfl, rfl, rfl⟩

theorem Link.ok.reportLoss (h : k.ok) (now : Nat) (hq : k.queued < 64) : (k.reportLoss now).ok :=
  Link.ok.place_notice (k := { k with pendingLoss := 0 }) (Link.SameQueue.ok ⟨rfl, rfl, rfl, rfl⟩ h) _ hq

/-- A record that joins the output list, or is begun at once, raises the number queued by one at most. -/
theorem Link.queued_place_le (h : k.ok) (r : Record) : (k.place r).queued ≤ k.queued + 1 := by
  obtain ⟨-, -, -, hsending, -⟩ := h
  by_cases hs : k.sending = none
  · rw [Link.place_free hs (hsending hs)]
    exact Nat.le_succ _
  · rw [Link.place_busy hs]
    simp only [Link.queued, List.countP_append, List.countP_singleton]
    split <;> omega

/-- R178. An offered notice never passes the 64 places. -/
theorem Link.ok.offer (h : k.ok) (now : Nat) (n : Notice) : (k.offer now n).ok := by
  rcases k.offer_cases now n with ⟨-, e⟩ | ⟨-, -, ⟨-, e⟩ | ⟨hq, -, e⟩ | ⟨hq, -, e⟩ | ⟨hq, -, e⟩⟩ <;> rw [e]
  · exact h
  · exact k.lose_sameQueue.ok h
  · exact h.place_notice n hq
  · have hq' : (k.reportLoss now).queued ≤ k.queued + 1 :=
      Link.queued_place_le (k := { k with pendingLoss := 0 }) (Link.SameQueue.ok ⟨rfl, rfl, rfl, rfl⟩ h) _
    exact (h.reportLoss now (by omega)).place_notice n (by omega)
  · exact (Link.lose_sameQueue _).ok (h.reportLoss now (by omega))

theorem Link.ok.offers (now : Nat) (ns : List Notice) (h : k.ok) : (ns.foldl (fun k n => k.offer now n) k).ok := by
  induction ns generalizing k with
  | nil => exact h
  | cons n ns ih => exact ih (h.offer now n)

theorem Link.ok.free (h : k.ok) (hw : k.replyWaits = false) (hr : k.restarting = false) : k.Free := by
  obtain ⟨hqueued, hreply, hbuffer, hsending, hwaits, -⟩ := h
  refine ⟨hqueued, hw, hbuffer, fun hs => ⟨hsending hs, ?_⟩, hr⟩
  by_contra hb
  simp [hw] at hwaits
  exact hb hwaits

theorem Link.reset_ok (reason stamp : Nat) : (Link.reset reason stamp).ok :=
  ⟨Nat.zero_le _, Nat.zero_le _, Nat.zero_le _, fun h => (Option.some_ne_none _ h).elim, fun h => (h rfl).elim,
    fun _ => rfl⟩

/-! ### The link through an accepted command and an event -/

variable {s t : State}

theorem State.takeText_link (s : State) (l : OpenLoad) (body : Body) : (s.takeText l body).link = s.link := by
  unfold State.takeText State.followLoad
  dsimp only
  split <;> rfl

theorem State.stopAtEnd_link (s : State) : s.stopAtEnd.link = s.link := by
  unfold State.stopAtEnd
  split <;> rfl

theorem State.Resets.link (h : s.Resets t) : s.link.SameQueue t.link := by
  cases h with
  | clock => rw [State.stopAtEnd_link]; exact .refl _
  | text l body => rw [State.takeText_link]; exact .refl _
  | _ => exact ⟨rfl, rfl, rfl, rfl⟩

theorem State.Obeys.link (h : s.Obeys t) : s.link.SameQueue t.link := by
  obtain ⟨u, hr, hq, -⟩ := h.quiet
  exact hq.link ▸ hr.link

theorem State.Happens.link (h : s.Happens t) : t.link = s.link := by
  obtain ⟨u, hr, hq⟩ := h.quiet
  rw [hq.link]
  cases hr with
  | stop => exact State.stopAtEnd_link s
  | advance =>
    unfold State.advance
    split
    · rfl
    · split <;> rfl
  | _ => rfl

/-! ### Commands taken, frames received and sent -/

theorem State.linkOk_flush (h : s.link.ok) : s.flush.linkOk := ⟨Link.ok.offers _ _ h, rfl⟩

theorem State.take_linkOk (h : s.link.Free) (ho : s.outbox = []) (kind : Byte) {j : Judged}
    (hj : ∀ t fs, j = .ok (t, fs) → s.Obeys t) : (s.take kind j).linkOk := by
  unfold State.take
  split
  case h_1 => exact ⟨h.place_reply .., ho⟩
  case h_2 t fs => exact State.linkOk_flush ((((hj t fs rfl).link).free h).place_reply ..)

/-- R181. The ACCEPT of a RESTART is all that is left to send. -/
theorem Link.restart_ok (k : Link) (a : Record) (hr : a.isNotice = false) :
    { k with output := [a], buffer := [], restarting := true, rx := Receiver.reset }.kick.ok := by
  unfold Link.kick
  split
  · exact ⟨by simp_all [Link.queued], by simp_all, Nat.zero_le _, fun h => (Option.some_ne_none _ h).elim,
      fun h => (h rfl).elim, fun _ => rfl⟩
  case h_2 hbusy =>
    refine ⟨by simp [Link.queued, hr], by simp [hr], Nat.zero_le _, fun h => ?_, fun h => (h rfl).elim, fun _ => rfl⟩
    exact (hbusy _ _ h rfl).elim

theorem State.takeFrame_linkOk (h : s.link.Free) (ho : s.outbox = []) (kind : Byte) (body : Body) :
    (s.takeFrame kind body).linkOk := by
  unfold State.takeFrame
  split
  · unfold State.takeRestart
    split
    · exact ⟨Link.restart_ok _ _ rfl, ho⟩
    · exact State.take_linkOk h ho kind fun _ _ h => by cases h
  · exact State.take_linkOk h ho kind fun _ _ h => commandAct_ok h

theorem Link.ok.bufferFrame (h : k.ok) (hr : k.restarting = false) (hw : k.replyWaits = true) (f : Frame) :
    (k.bufferFrame f).ok := by
  obtain ⟨hqueued, hreply, hbuffer, hsending, hwaits, hrestarting⟩ := h
  unfold Link.bufferFrame
  split
  case isTrue hroom =>
    exact ⟨hqueued, hreply, by simpa [Config.bufferPlaces, Nat.succ_le_iff] using hroom, hsending, fun _ => hw,
      fun h => by simp [hr] at h⟩
  case isFalse => exact ⟨hqueued, hreply, hbuffer, hsending, hwaits, hrestarting⟩

theorem State.receive_linkOk (h : s.linkOk) (kind : Byte) (body : Body) :
    (s.receive kind body fun u => u.takeFrame kind body).linkOk := by
  obtain ⟨hk, ho⟩ := id h
  rcases s.receive_cases kind body (fun u => u.takeFrame kind body) with ⟨-, e⟩ | ⟨hr, -, hw, e⟩ | ⟨hr, hw, e⟩ <;>
    rw [e]
  · exact h
  · exact State.takeFrame_linkOk (hk.free hw hr) ho kind body
  · refine ⟨hk.bufferFrame hr ?_ _, ho⟩
    obtain ⟨-, -, -, -, hwaits, -⟩ := hk
    exact hw.elim hwaits id

theorem State.receiveByte_linkOk (h : s.linkOk) (b : Byte) : (s.receiveByte b).linkOk := by
  have hmod {u : State} (f : Link → Link) (hf : u.link.SameQueue (f u.link)) (hu : u.linkOk) : (u.modLink f).linkOk :=
    ⟨hf.ok hu.1, hu.2⟩
  unfold State.receiveByte
  split
  · exact h
  · have hbyte := hmod (fun k => { k with rx := (s.link.rx.byte s.clock.elapsed b).1 }) ⟨rfl, rfl, rfl, rfl⟩ h
    dsimp only
    split
    · exact hbyte
    · exact hmod _ ⟨rfl, rfl, rfl, rfl⟩ hbyte
    · exact hmod _ ⟨rfl, rfl, rfl, rfl⟩ hbyte
    · exact State.receive_linkOk hbyte ..

/-- At a frame's end the transmitter begins the record at the head of its list (R175). -/
theorem Link.kick_sent (k : Link) :
    { k with sending := none }.kick = { k with sending := k.output.head?, output := k.output.tail } := by
  obtain ⟨_, _, out, sending⟩ := k
  cases out <;> rfl

theorem Link.ok.sent_free (h : k.ok) (hr : k.restarting = false)
    (hw : Link.replyWaits { k with sending := k.output.head?, output := k.output.tail } = false) {f : Frame}
    {fs : List Frame} (hb : k.buffer = f :: fs) :
    Link.Free { k with sending := k.output.head?, output := k.output.tail, buffer := fs } := by
  obtain ⟨hqueued, -, hbuffer, -, hwaits, -⟩ := h
  refine ⟨(List.Sublist.countP_le (List.tail_sublist _)).trans hqueued, hw, ?_, fun hnone => ?_, hr⟩
  · rw [hb] at hbuffer
    exact Nat.le_of_succ_le hbuffer
  · have hout : k.output = [] := List.head?_eq_none_iff.1 hnone
    have := hwaits (by simp [hb])
    simp [Link.replyWaits, hout] at this

theorem Link.ok.sent (h : k.ok)
    (hw : k.buffer ≠ [] → Link.replyWaits { k with sending := k.output.head?, output := k.output.tail } = true) :
    Link.ok { k with sending := k.output.head?, output := k.output.tail } := by
  obtain ⟨hqueued, hreply, hbuffer, -, -, hrestarting⟩ := h
  refine ⟨(List.Sublist.countP_le (List.tail_sublist _)).trans hqueued,
    (List.Sublist.countP_le (List.tail_sublist _)).trans hreply, hbuffer, fun hnone => ?_, hw, hrestarting⟩
  rw [List.head?_eq_none_iff] at hnone
  simp [hnone]

theorem State.frameSent_linkOk (h : s.linkOk) : s.frameSent.linkOk := by
  obtain ⟨hk, ho⟩ := id h
  unfold State.frameSent
  split
  · exact h
  split
  · exact ⟨Link.reset_ok .., rfl⟩
  case h_2.isFalse =>
    simp only [State.modLink, Link.kick_sent]
    unfold State.serveBuffer
    split
    case h_1 hb => exact ⟨hk.sent fun h => (h hb).elim, ho⟩
    case h_2 f fs hb =>
      have hb : s.link.buffer = f :: fs := hb
      split
      case isTrue hmay =>
        simp only [Link.mayTake, Bool.and_eq_true, Bool.not_eq_true'] at hmay
        obtain ⟨hr, hw⟩ := hmay
        apply State.takeFrame_linkOk
        · exact hk.sent_free hr hw hb
        · exact ho
      case isFalse hmay =>
        have hr : s.link.restarting = false := by
          obtain ⟨-, -, -, -, -, hrestarting⟩ := hk
          simpa [hb] using mt hrestarting
        refine ⟨hk.sent fun _ => ?_, ho⟩
        simpa [Link.mayTake, hr] using hmay

theorem State.Runs.linkOk (h : s.Runs t) (hs : s.linkOk) : t.linkOk := by
  cases h with
  | frame kind body => exact State.receive_linkOk hs kind body
  | event h => exact State.linkOk_flush (h.link ▸ hs.1)
  | powerOn => exact ⟨Link.reset_ok .., rfl⟩
  | byte b => exact State.receiveByte_linkOk hs b
  | gap => exact ⟨Link.SameQueue.ok ⟨rfl, rfl, rfl, rfl⟩ hs.1, hs.2⟩
  | nothing => exact hs
  | sent => exact State.frameSent_linkOk hs

end

end Sys2Proof.Machine

namespace Sys2Proof.Proofs

open Sys2Proof.Machine

/-- Settles O57: whatever a step takes, it keeps the law. -/
theorem stepKeepsTheLinkLaw : Obligations.StepKeepsTheLinkLaw := by
  unfold Obligations.StepKeepsTheLinkLaw
  intro s t hs h
  obtain ⟨u, v, hb, hv, hr⟩ := step_runs s
  obtain rfl : v = t := Host.Outcome.next.inj (hv.symm.trans h)
  exact hr.linkOk ⟨hb.link ▸ hs.1, hb.outbox ▸ hs.2⟩

end Sys2Proof.Proofs
end

section
/-! The Office Link's commands, replies, notices and resets (sections 10.3 to 10.7), and the passing of time. -/

namespace Sys2Proof.Machine

section
variable {s t : State}

/-! ### Frames taken -/

/-- A frame that arrives when it may be taken is taken (R173). -/
theorem exec_commandOf_now (h : s.takesAtOnce) (kind : Byte) (body : Body) :
    exec (commandOf kind body) s = .next (s.takeFrame kind body) := by
  rw [exec_commandOf, State.receive_now h]

theorem State.takeFrame_of_ne {kind : Byte} (h : kind ≠ 0x02) (body : Body) :
    s.takeFrame kind body = s.take kind (commandAct kind body s) := if_neg h

theorem State.take_error (kind : Byte) (r : Reason) : s.take kind (.error r) = s.refused kind r := rfl

/-- A restart with a body is refused; without one it leaves its ACCEPT to send (R181). -/
theorem State.takeFrame_restart (body : Body) :
    s.takeFrame 0x02 body = if body = [] then s.modLink fun k => { k with
        output := [.reply 0x02 (.accept [])], buffer := [], restarting := true, rx := Receiver.reset }.kick
      else s.refused 0x02 .badForm := by
  cases body <;> rfl

/-- A record to send alone begins at once, or waits behind the one on the line (R175). -/
theorem Link.kick_alone (k : Link) (a : Record) : { k with output := [a] }.kick
    = { k with sending := some (k.sending.getD a), output := if k.sending = none then [] else [a] } := by
  obtain ⟨_, _, _, sending⟩ := k
  cases sending <;> rfl

/-- At a frame's end with no RESTART to complete, the transmitter begins the next record, then the buffer is served. -/
theorem State.frameSent_eq {r : Record} (hs : s.link.sending = some r)
    (h : s.link.restarting = false ∨ s.link.output ≠ []) :
    s.frameSent = State.serveBuffer
      { s with link := { s.link with sending := s.link.output.head?, output := s.link.output.tail } } := by
  have hr : ¬(s.link.restarting && s.link.output.isEmpty) = true := by
    rcases h with h | h <;> simp [h]
  simp only [State.frameSent, hs, if_neg hr, State.modLink, Link.kick_sent]

theorem Link.replyWaits_eq_false {k : Link} (h : ∀ n ∈ k.output, n.isNotice = true) : k.replyWaits = false := by
  simpa [Link.replyWaits] using h

/-- The frame at the head of the buffer is taken when no reply waits (R173). -/
theorem State.serveBuffer_of_free {f : Frame} {fs : List Frame} (hb : s.link.buffer = f :: fs)
    (hr : s.link.restarting = false) (hw : ∀ n ∈ s.link.output, n.isNotice = true) :
    s.serveBuffer = State.takeFrame { s with link := { s.link with buffer := fs } } f.kind f.body := by
  have hmay : s.link.mayTake = true := by simp [Link.mayTake, hr, Link.replyWaits_eq_false hw]
  simp only [State.serveBuffer, hb, if_pos hmay, State.modLink]

/-- A frame that finds none ahead of it, no reply waiting and no RESTART under way is taken (R173). -/
theorem State.receive_of_free (hr : s.link.restarting = false) (hb : s.link.buffer = [])
    (hw : ∀ n ∈ s.link.output, n.isNotice = true) (kind : Byte) (body : Body) (f : State → State) :
    s.receive kind body f = f s := by
  simp [State.receive, hr, hb, Link.mayTake, Link.replyWaits_eq_false hw]

theorem State.serveBuffer_of_waits {n : Record} (hn : n ∈ s.link.output) (hr : n.isNotice = false) :
    s.serveBuffer = s := by
  have hmay : ¬s.link.mayTake = true := by
    have hw : s.link.replyWaits = true := by
      rw [Link.replyWaits, List.any_eq_true]
      exact ⟨n, hn, by simp [hr]⟩
    simp [Link.mayTake, hw]
  unfold State.serveBuffer
  split
  · rfl
  · exact if_neg hmay

theorem State.serveBuffer_of_empty (hb : s.link.buffer = []) : s.serveBuffer = s := by
  simp only [State.serveBuffer, hb]

theorem State.serveBuffer_of_restarting (hr : s.link.restarting = true) : s.serveBuffer = s := by
  have hmay : ¬s.link.mayTake = true := by simp [Link.mayTake, hr]
  unfold State.serveBuffer
  split
  · rfl
  · exact if_neg hmay

/-! ### Replies and notices formed -/

theorem State.Obeys.formed (h : s.Obeys t) : t.link.formed = s.link.formed := by
  rw [Link.formed, h.link.sending, h.link.output, Link.formed]

/-- A judged command forms its reply, then the notices of its action. -/
theorem State.formed_take {kind : Byte} {j : Judged} (hj : ∀ t fs, j = .ok (t, fs) → s.Obeys t) :
    (∃ r, j = .error r ∧ s.take kind j = s.refused kind r
      ∧ (s.take kind j).link.formed = s.link.formed ++ [.reply kind (.refuse r)])
    ∨ ∃ fs ns, (s.take kind j).link.formed
      = s.link.formed ++ [.reply kind (.accept fs)] ++ List.map Record.notice ns := by
  cases j with
  | error r => exact .inl ⟨r, rfl, rfl, Link.formed_place ..⟩
  | ok x =>
    obtain ⟨t, fs⟩ := x
    obtain ⟨ns, hns⟩ := (t.modLink (·.place (.reply kind (.accept fs)))).formed_flush
    refine .inr ⟨fs, ns, hns.trans ?_⟩
    rw [← (hj t fs rfl).formed]
    exact congrArg (· ++ _) (Link.formed_place ..)

/-! ### One offered notice -/

theorem Event.category_bit {k : Link} {n : Notice} (hn : n.event.unmasked = false) (hc : n.channel = none) :
    k.passes n = k.categories.getLsbD n.event.category.code := by
  simp [Link.passes, hn, hc]

theorem Link.offer_masked {k : Link} {n : Notice} (now : Nat) (h : k.passes n = false) : k.offer now n = k := by
  simp [Link.offer, h]

section
variable {k : Link} {n : Notice} (now : Nat)

theorem Link.offer_lost (hr : k.restarting = false) (hp : k.passes n = true) (hq : 64 ≤ k.queued) :
    k.offer now n = k.lose := by
  have hq : Config.noticePlaces ≤ k.queued := hq
  simp [Link.offer, hr, hp, hq]

theorem Link.offer_queued (hr : k.restarting = false) (hp : k.passes n = true) (hq : k.queued < 64)
    (hl : k.pendingLoss = 0) : k.offer now n = k.place (.notice n) := by
  have hq : ¬Config.noticePlaces ≤ k.queued := Nat.not_le.2 hq
  simp [Link.offer, hr, hp, hq, hl]

theorem Link.offer_behind_loss (hr : k.restarting = false) (hp : k.passes n = true) (hq : k.queued < 63)
    (hl : 0 < k.pendingLoss) : k.offer now n = (k.reportLoss now).place (.notice n) := by
  have hfull : ¬Config.noticePlaces ≤ k.queued := Nat.not_le.2 (by exact hq.trans (Nat.lt_succ_self _))
  have hroom : k.queued + 1 < Config.noticePlaces := Nat.succ_lt_succ hq
  simp [Link.offer, hr, hp, hfull, hl.ne', hroom]

theorem Link.offer_lost_behind_loss (hr : k.restarting = false) (hp : k.passes n = true) (hq : k.queued = 63)
    (hl : 0 < k.pendingLoss) : k.offer now n = (k.reportLoss now).lose := by
  have hfull : ¬Config.noticePlaces ≤ k.queued := by rw [hq]; decide
  have hroom : ¬k.queued + 1 < Config.noticePlaces := by rw [hq]; decide
  simp [Link.offer, hr, hp, hfull, hl.ne', hroom]

end

@[simp] theorem Link.pendingLoss_kick (k : Link) : k.kick.pendingLoss = k.pendingLoss := by
  unfold Link.kick; split <;> rfl

@[simp] theorem Link.noticesLost_kick (k : Link) : k.kick.noticesLost = k.noticesLost := by
  unfold Link.kick; split <;> rfl

@[simp] theorem Link.pendingLoss_place (k : Link) (r : Record) : (k.place r).pendingLoss = k.pendingLoss := by
  simp [Link.place]

@[simp] theorem Link.noticesLost_place (k : Link) (r : Record) : (k.place r).noticesLost = k.noticesLost := by
  simp [Link.place]

@[simp] theorem Link.pendingLoss_reportLoss (k : Link) (now : Nat) : (k.reportLoss now).pendingLoss = 0 := by
  simp [Link.reportLoss]

@[simp] theorem Link.noticesLost_reportLoss (k : Link) (now : Nat) : (k.reportLoss now).noticesLost = k.noticesLost := by
  simp [Link.reportLoss]

/-- An event that forms one notice offers it alone. -/
theorem eventStep_emit (ho : s.outbox = []) (e : Event) (c : Option ChannelNo) (fs : List Field) :
    eventStep (s.emit e c fs) = .next { s with link := s.link.offer s.clock.ms ⟨e, c, s.clock.ms, fs⟩ } := by
  simp [eventStep, State.flush, State.emit, ho]

/-- The running clock that stands at its end stops (R3). -/
theorem State.stopAtEnd_eq (hr : s.clock.running = true) (hday : s.clock.day = 65535) (hms : s.clock.ms = 86399999) :
    s.stopAtEnd = State.emit { s with clock := { s.clock with running := false } } .clockStopped none [] := by
  simp [State.stopAtEnd, Clock.atEnd, hr, hday, hms]

/-! ### The passing of time -/

/-- When no event is due, the running clock does not stand at its end. -/
theorem State.not_atEnd_of_dueEvents (h : s.dueEvents = []) (hr : s.clock.running = true) : s.clock.atEnd = false := by
  simp only [State.dueEvents, List.append_eq_nil_iff] at h
  obtain ⟨⟨⟨⟨⟨hstop, -⟩, -⟩, -⟩, -⟩, -⟩ := h
  simpa [hr] using hstop

theorem step_of_idle (hp : s.pending = []) (hd : s.dueEvents = []) : step s = .next s.advance.flush := by
  simp [step, hp, idle, hd, pickEvent, sortBy]

end

end Sys2Proof.Machine

namespace Sys2Proof.Proofs

open Sys2Proof.Machine

/-- Settles O2. -/
theorem idleMillisecondPasses : Obligations.IdleMillisecondPasses := by
  unfold Obligations.IdleMillisecondPasses
  intro s hp hd ho hmid
  rw [step_of_idle hp hd]
  unfold State.advance
  rw [if_neg (by simp [hmid])]
  cases hr : s.clock.running with
  | true =>
    rw [State.not_atEnd_of_dueEvents hd hr]
    exact congrArg _ (State.flush_eq ho)
  | false => exact congrArg _ (State.flush_eq ho)

/-- Settles O4. -/
theorem powerOnResetState : Obligations.PowerOnResetState := by
  unfold Obligations.PowerOnResetState
  intro s
  have hreplicate {α : Type} {n : Nat} (x : α) (i : Fin n) : vget (Vector.replicate n x) i = x := by simp [vget]
  have hfree : s.powerOn.store.free.map Fin.val = List.range' 256 768 := by
    simp [State.powerOn, State.reset, Store.reset, Config.resetSplit]
  refine ⟨s.powerOn, rfl, rfl, rfl, hfree, rfl, fun a => hreplicate .., rfl, fun h => ?_, fun i => ?_,
    fun w => hreplicate .., fun c => ?_, rfl, rfl, rfl, rfl, fun n hn => ?_, rfl, rfl, rfl, rfl, rfl, rfl, rfl, rfl, rfl⟩
  · have hdesc : s.powerOn.desc h = Descriptor.reset := hreplicate ..
    exact hdesc ▸ ⟨rfl, rfl⟩
  · have hslot : s.powerOn.slot i = Slot.reset := hreplicate ..
    exact hslot ▸ ⟨rfl, rfl⟩
  · rw [State.chan_powerOn]
    exact ⟨rfl, rfl, rfl, rfl, rfl, rfl, rfl, rfl, rfl, rfl, rfl, rfl, rfl, rfl, rfl, rfl, rfl, rfl, rfl, rfl, rfl⟩
  · have hbits : ∀ n : Fin 7, (0x7F : BitVec 8).getLsbD n.val = true := by decide
    exact hbits ⟨n, hn⟩

/-- Settles O5. -/
theorem restartTaken : Obligations.RestartTaken := by
  unfold Obligations.RestartTaken
  intro s
  refine ⟨fun h => ?_, fun r fs hr hs hb hw => ?_, fun b kind body hr => ⟨?_, ?_⟩⟩
  · have hexec : exec (.restart []) s = .next (s.takeFrame 0x02 []) := exec_commandOf_now h 0x02 []
    rw [hexec, State.takeFrame_restart, if_pos rfl]
    obtain ⟨-, hb, -, -⟩ := h
    rw [State.modLink, Link.kick_alone { s.link with buffer := [], restarting := true, rx := Receiver.reset }]
    simp [hb, Receiver.reset]
  · have hsent : exec .frameTransmitEnd s = .next s.frameSent := rfl
    have htaken : s.frameSent = _ := (State.frameSent_eq hs (.inl hr)).trans (State.serveBuffer_of_free hb hr hw)
    rw [hsent, htaken, State.takeFrame_restart, if_pos rfl, State.modLink, Link.kick_alone { s.link with
      buffer := [], restarting := true, rx := Receiver.reset, sending := s.link.output.head? }]
    simp [Receiver.reset]
  · have hbyte : exec (.officeLinkByte b) s = .next (s.receiveByte b) := rfl
    rw [hbyte, State.receiveByte, if_pos hr]
  · rw [exec_commandOf, State.receive, if_pos hr]

/-- Settles O6. -/
theorem restartCompletes : Obligations.RestartCompletes := by
  unfold Obligations.RestartCompletes
  intro s u r hr hout hs hu
  obtain rfl : s.powerOn = u := Host.Outcome.next.inj hu
  have hsent : s.frameSent = s.restarted := by simp [State.frameSent, hs, hr, hout]
  exact congrArg _ hsent

/-- Settles O7. -/
theorem frameEndBeginsNext : Obligations.FrameEndBeginsNext := by
  unfold Obligations.FrameEndBeginsNext
  have hsent (s : State) : exec .frameTransmitEnd s = .next s.frameSent := rfl
  refine ⟨fun s r hr hs => ⟨fun h => ?_, fun f fs hb hw => ?_⟩, fun s r a rest hr hs hout => ?_,
    fun s kind body h => exec_commandOf_now h kind body⟩
  · rw [hsent, State.frameSent_eq hs (.inl hr)]
    rcases h with hb | ⟨n, hn, hreply⟩
    · exact congrArg Host.Outcome.next (State.serveBuffer_of_empty hb)
    · exact congrArg Host.Outcome.next (State.serveBuffer_of_waits hn hreply)
  · have htaken : s.frameSent = _ := (State.frameSent_eq hs (.inl hr)).trans (State.serveBuffer_of_free hb hr hw)
    rw [hsent, htaken]
    refine ⟨rfl, fun hfs => ?_⟩
    subst hfs
    rw [exec_commandOf]
    exact congrArg Host.Outcome.next (State.receive_of_free (s := { s with link := { s.link with
      sending := s.link.output.head?, output := s.link.output.tail, buffer := [] } }) hr rfl hw
      f.kind f.body fun u => u.takeFrame f.kind f.body).symm
  · have hnext := (State.frameSent_eq hs (.inr (by simp [hout]))).trans (State.serveBuffer_of_restarting hr)
    rw [hsent, hnext, hout]
    rfl

/-- Settles O8. -/
theorem bufferTakesFourFrames : Obligations.BufferTakesFourFrames := by
  unfold Obligations.BufferTakesFourFrames
  intro s kind body hr h
  rw [exec_commandOf]
  rcases s.receive_cases kind body (fun u => u.takeFrame kind body) with ⟨hr', -⟩ | ⟨-, hb, hw, -⟩ | ⟨-, -, e⟩
  · simp [hr] at hr'
  · simp [hb, hw] at h
  · rw [e]
    rfl

/-- Settles O14. -/
theorem eachCommandHasOneReply : Obligations.EachCommandHasOneReply := by
  unfold Obligations.EachCommandHasOneReply
  intro s kind body h
  rw [exec_commandOf_now h]
  by_cases hkind : kind = 0x02
  · subst hkind
    rw [State.takeFrame_restart]
    by_cases hbody : body = []
    · rw [if_pos hbody]
      refine ⟨fun hne => absurd hbody (hne rfl), fun t r later ht hformed => ?_⟩
      cases ht
      have haccept : (s.link.sending.toList ++ [Record.reply 0x02 (.accept [])] : List Record)
          = s.link.sending.toList ++ (s.link.output ++ Record.reply 0x02 (.refuse r) :: later) := by
        simp only [State.modLink, Link.formed_kick] at hformed
        simpa [Link.formed, ← List.append_assoc] using hformed
      have hlist := List.append_cancel_left haccept
      cases hout : s.link.output <;> simp [hout] at hlist
    · rw [if_neg hbody]
      refine ⟨fun _ => ⟨_, _, [], rfl, by simp; rfl⟩, fun t r later ht hformed => ?_⟩
      cases ht
      simp [State.refused] at hformed
      rw [hformed.1]
  · rw [State.takeFrame_of_ne hkind]
    rcases State.formed_take (s := s) (kind := kind) (j := commandAct kind body s) fun _ _ h => commandAct_ok h with
      ⟨r, -, htake, hformed⟩ | ⟨fs, ns, hformed⟩
    · refine ⟨fun _ => ⟨_, _, [], rfl, by simpa using hformed⟩, fun t r' later ht hformed' => ?_⟩
      cases ht
      rw [hformed] at hformed'
      simp at hformed'
      rw [htake, hformed'.1]
    · refine ⟨fun _ => ⟨_, _, ns, rfl, hformed⟩, fun t r later ht hformed' => ?_⟩
      cases ht
      rw [hformed] at hformed'
      simp at hformed'

/-- Settles O15. -/
theorem midnightRollsOver : Obligations.MidnightRollsOver := by
  unfold Obligations.MidnightRollsOver
  intro s ho hr hrun hms hday hq hl hc
  have hmid : s.clock.beforeMidnight = true := by simp [Clock.beforeMidnight, hrun, hms, hday]
  have hexec : exec .midnightRollover s = eventStep s.rollover := congrArg eventStep (if_pos hmid)
  rw [hexec]
  refine (eventStep_emit (s := { s with clock := { s.clock with
    day := s.clock.day + 1, ms := 0, elapsed := s.clock.elapsed + 1 } }) ho ..).trans ?_
  have hpasses : s.link.passes ⟨.day, none, 0, [.num 2 (s.clock.day + 1),
    .num 1 s.clock.isSet.toNat]⟩ = true :=
    (Event.category_bit rfl rfl).trans hc
  simp only [Field.flag, Link.offer_queued _ hr hpasses hq hl]

/-- Settles O16, by the cases of an offered notice. -/
theorem clockStopsAndItsNoticeIsJudged : Obligations.ClockStopsAndItsNoticeIsJudged := by
  unfold Obligations.ClockStopsAndItsNoticeIsJudged
  intro s ho hr hrun hday hms
  have hexec : exec .clockStopped s = eventStep s.stopAtEnd := rfl
  have hpasses : s.link.passes ⟨.clockStopped, none, 86399999, []⟩ = s.link.categories.getLsbD 5 :=
    Event.category_bit rfl rfl
  rw [hexec, State.stopAtEnd_eq hrun hday hms]
  refine ⟨_, eventStep_emit (s := { s with clock := { s.clock with running := false } }) ho .., ?_⟩
  simp only [hms]
  refine ⟨fun hc => ?_, fun hc hq => ?_, fun hc hq hl => ?_, fun hc hq hl => ?_, fun hc hq hl => ?_⟩
  · rw [Link.offer_masked _ (hpasses.trans hc)]
  · rw [Link.offer_lost _ hr (hpasses.trans hc) hq]
    rfl
  · rw [Link.offer_queued _ hr (hpasses.trans hc) hq hl]
  · rw [Link.offer_behind_loss _ hr (hpasses.trans hc) hq hl]
    simp
  · rw [Link.offer_lost_behind_loss _ hr (hpasses.trans hc) hq hl]
    refine ⟨by simp [Link.lose]; rfl, by simp [Link.lose]; rfl, by simp⟩

/-- Settles O17. -/
theorem partAndClockReports : Obligations.PartAndClockReports := by
  unfold Obligations.PartAndClockReports
  intro s h
  obtain ⟨-, -, -, ho⟩ := id h
  refine ⟨commandStep_silent h rfl ho, (commandStep_silent (fs := s.clock.fields ++ [.time s.clock.elapsed]) h rfl ho).trans ?_⟩
  cases hrun : s.clock.running <;> simp [Clock.fields, Field.flag, Field.time, hrun]

/-- Settles O18. -/
theorem masksAndLinkCounts : Obligations.MasksAndLinkCounts := by
  unfold Obligations.MasksAndLinkCounts
  intro s cats chans b h
  obtain ⟨-, hb, -, ho⟩ := id h
  have hfields : s.link.fields = [.num 1 s.link.rx.phase.code, .num 2 s.link.badCrc, .num 2 s.link.overlength,
      .num 2 s.link.gapTimeouts, .num 2 s.link.bufferFull, .num 2 s.link.noticesLost, .num 2 s.link.pendingLoss,
      .num 1 s.link.queued, .num 1 0] := by simp [Link.fields, hb]
  refine ⟨?_, hfields ▸ commandStep_silent h rfl ho, hfields ▸ commandStep_silent h rfl ho, fun hlt => ?_⟩
  · have hbit : cats.getLsbD 7 = decide (128 ≤ cats.toNat) := by
      rw [← BitVec.msb_eq_decide cats, BitVec.msb_eq_getLsbD_last]
    by_cases hcats : cats.toNat < 128
    · rw [if_pos hcats]
      have hbit : ¬cats.getLsbD 7 = true := by rw [hbit]; simpa using hcats
      exact commandStep_silent h (if_neg hbit) ho
    · rw [if_neg hcats]
      have hbit : cats.getLsbD 7 = true := by rw [hbit]; simpa using hcats
      exact commandStep_refused h (if_pos hbit)
  · have hflag : flagOf b = none := by
      have h0 : b ≠ 0 := by rintro rfl; simp at hlt
      have h1 : b ≠ 1 := by rintro rfl; simp at hlt
      rw [flagOf, if_neg h0, if_neg h1]
    exact commandStep_refused h (by simp [doReadLink, hflag])

end Sys2Proof.Proofs
end

section
/-! The frame receiver (sections 10.1 and 10.2): what the bytes of a frame, of a faulty frame and a gap do. -/

namespace Sys2Proof.Machine

section
variable {s t : State}

/-- The state with the receiver at a given place. -/
def State.withRx (s : State) (r : Receiver) : State := s.modLink fun k => { k with rx := r }

/-- The receiver with the bytes of a frame recorded so far. -/
def rxAt (phase : RxPhase) (bytes check : List Byte) (now : Nat) : Receiver := ⟨phase, bytes, check, now⟩

@[simp] theorem State.withRx_withRx (s : State) (q r : Receiver) : (s.withRx q).withRx r = s.withRx r := rfl

/-- What becomes of a frame by the receiver's verdict on a byte (R171). -/
def State.concluded (s : State) : RxVerdict → State
  | .going => s
  | .overlength => s.modLink fun k => { k with overlength := satSucc max16 k.overlength }
  | .badCrc => s.modLink fun k => { k with badCrc := satSucc max16 k.badCrc }
  | .received f => s.receive f.kind f.body fun u => u.takeFrame f.kind f.body

/-- A byte is judged by the receiver where it stands (R171). -/
theorem State.receiveByte_of_verdict (hr : s.link.restarting = false) {b : Byte} {q : Receiver} {v : RxVerdict}
    (h : s.link.rx.byte s.clock.elapsed b = (q, v)) : s.receiveByte b = (s.withRx q).concluded v := by
  simp only [State.receiveByte, hr, Bool.false_eq_true, if_false, h]
  cases v <;> rfl

/-- A byte that leaves the frame in reception. -/
theorem State.feed_going (hr : s.link.restarting = false) {b : Byte} {q : Receiver}
    (h : s.link.rx.byte s.clock.elapsed b = (q, .going)) (bs : List Byte) :
    s.feed (b :: bs) = (s.withRx q).feed bs := by
  have hb : exec (.officeLinkByte b) s = .next (s.withRx q) :=
    congrArg Host.Outcome.next (State.receiveByte_of_verdict hr h)
  simp only [State.feed, hb]

theorem State.receiveByte_at (hr : s.link.restarting = false) (p : Receiver) {b : Byte} {q : Receiver} {v : RxVerdict}
    (h : p.byte s.clock.elapsed b = (q, v)) : (s.withRx p).receiveByte b = (s.withRx q).concluded v :=
  State.receiveByte_of_verdict (s := s.withRx p) hr h

theorem State.feed_at (hr : s.link.restarting = false) (p q : Receiver) {b : Byte}
    (h : p.byte s.clock.elapsed b = (q, .going)) (bs : List Byte) :
    (s.withRx p).feed (b :: bs) = (s.withRx q).feed bs := State.feed_going (s := s.withRx p) hr h bs

section
variable (hr : s.link.restarting = false)
include hr

/-- The start byte. -/
theorem State.feed_start (hrx : s.link.rx.phase = .hunt) (bs : List Byte) :
    s.feed (0xA5 :: bs) = (s.withRx (rxAt .length [] [] s.clock.elapsed)).feed bs :=
  State.feed_going hr (by simp [Receiver.byte, hrx, rxAt]) bs

/-- The two bytes of a length within the limit. -/
theorem State.feed_length {x y : Byte} (h : be [x, y] ≤ 512) (bs : List Byte) :
    (s.withRx (rxAt .length [] [] s.clock.elapsed)).feed (x :: y :: bs)
      = (s.withRx (rxAt .kind [x, y] [] s.clock.elapsed)).feed bs := by
  have hlen : ¬Config.maxBody < be [x, y] := Nat.not_lt.2 h
  rw [State.feed_at hr _ (rxAt .length [x] [] s.clock.elapsed) rfl]
  refine State.feed_at hr _ _ ?_ _
  simp [Receiver.byte, rxAt, Receiver.bodyLength, hlen]

/-- The kind. -/
theorem State.feed_kind {x y : Byte} (kind : Byte) (bs : List Byte) :
    (s.withRx (rxAt .kind [x, y] [] s.clock.elapsed)).feed (kind :: bs)
      = (s.withRx (rxAt (if be [x, y] = 0 then .check else .body) [x, y, kind] [] s.clock.elapsed)).feed bs :=
  State.feed_at hr _ _ rfl _

/-- The bytes of the body, as many as the length says, of which at least one is still to come. -/
theorem State.feed_body {x y kind : Byte} (rest : List Byte) (hne : rest ≠ []) (done : List Byte)
    (hlen : done.length + rest.length = be [x, y]) (bs : List Byte) :
    (s.withRx (rxAt .body (x :: y :: kind :: done) [] s.clock.elapsed)).feed (rest ++ bs)
      = (s.withRx (rxAt .check (x :: y :: kind :: (done ++ rest)) [] s.clock.elapsed)).feed bs := by
  induction rest generalizing done with
  | nil => exact absurd rfl hne
  | cons b rest ih =>
    have hbyte : (s.withRx (rxAt .body (x :: y :: kind :: done) [] s.clock.elapsed)).feed (b :: (rest ++ bs))
        = (s.withRx (rxAt (if done.length + 1 < be [x, y] then .body else .check) (x :: y :: kind :: (done ++ [b])) []
          s.clock.elapsed)).feed (rest ++ bs) := by
      refine State.feed_at hr _ _ ?_ _
      simp [Receiver.byte, rxAt, Receiver.bodyLength]
    rw [List.cons_append, hbyte]
    cases rest with
    | nil => simp [← hlen]
    | cons c rest =>
      have hmore : done.length + 1 < be [x, y] := by rw [← hlen]; simp
      rw [if_pos hmore, ih (List.cons_ne_nil c rest) (done ++ [b]) (by rw [← hlen]; simp; omega)]
      simp

/-- All that the check covers, from the start byte on (R170). -/
theorem State.feed_core (hrx : s.link.rx.phase = .hunt) (kind : Byte) (body : Body) (hbody : body.length ≤ 512)
    (bs : List Byte) :
    s.feed (0xA5 :: frameCore kind body ++ bs)
      = (s.withRx (rxAt .check (frameCore kind body) [] s.clock.elapsed)).feed bs := by
  have hbe : be [BitVec.ofNat 8 (body.length / 256), BitVec.ofNat 8 body.length] = body.length := be_two (by omega)
  have hcore : frameCore kind body
      = BitVec.ofNat 8 (body.length / 256) :: BitVec.ofNat 8 body.length :: kind :: body := by
    simp [frameCore, toBe_two]
  rw [hcore, List.cons_append, State.feed_start hr hrx, List.cons_append, List.cons_append, List.cons_append,
    State.feed_length hr (hbe.trans_le hbody), State.feed_kind hr, hbe]
  cases body with
  | nil => rfl
  | cons b body => exact State.feed_body hr (b :: body) (List.cons_ne_nil b body) [] (by rw [hbe]; simp) bs

/-- The two bytes of the check, and what becomes of the frame (R171). -/
theorem State.feed_check (kind : Byte) (body : Body) (x y : Byte) :
    (s.withRx (rxAt .check (frameCore kind body) [] s.clock.elapsed)).feed [x, y] = .next (
      if be [x, y] = (crc (frameCore kind body)).toNat then
        (s.withRx (rxAt .hunt [] [] s.clock.elapsed)).receive kind body fun u => u.takeFrame kind body
      else (s.withRx (rxAt .hunt [] [] s.clock.elapsed)).modLink fun k =>
        { k with badCrc := satSucc max16 k.badCrc }) := by
  have hframe : Receiver.frame ⟨.check, frameCore kind body, [x, y], s.clock.elapsed⟩ = ⟨kind, body⟩ := by
    simp [Receiver.frame, frameCore, toBe_two]
  rw [State.feed_at hr _ (rxAt .check (frameCore kind body) [x] s.clock.elapsed) rfl]
  refine congrArg Host.Outcome.next ?_
  split
  case isTrue h =>
    refine State.receiveByte_at hr _ (q := rxAt .hunt [] [] s.clock.elapsed) (v := .received ⟨kind, body⟩) ?_
    simp [Receiver.byte, rxAt, h, hframe, Receiver.toHunt, Receiver.reset]
  case isFalse h =>
    refine State.receiveByte_at hr _ (q := rxAt .hunt [] [] s.clock.elapsed) (v := .badCrc) ?_
    simp [Receiver.byte, rxAt, h, Receiver.toHunt, Receiver.reset]

end

/-! ### The receiver after a frame is taken -/

@[simp] theorem Link.rx_kick (k : Link) : k.kick.rx = k.rx := by unfold Link.kick; split <;> rfl

@[simp] theorem Link.rx_place (k : Link) (r : Record) : (k.place r).rx = k.rx := by simp [Link.place]

@[simp] theorem Link.rx_offer (k : Link) (now : Nat) (n : Notice) : (k.offer now n).rx = k.rx := by
  rcases k.offer_cases now n with ⟨-, h⟩ | ⟨-, -, ⟨-, h⟩ | ⟨-, -, h⟩ | ⟨-, -, h⟩ | ⟨-, -, h⟩⟩ <;>
    simp [h, Link.lose, Link.reportLoss]

theorem State.rx_flush (s : State) : s.flush.link.rx = s.link.rx := by
  have hoffers (ns : List Notice) (k : Link) : (ns.foldl (fun k n => k.offer s.clock.ms n) k).rx = k.rx := by
    induction ns generalizing k with
    | nil => rfl
    | cons n ns ih => rw [List.foldl_cons, ih, Link.rx_offer]
  exact hoffers ..

theorem State.Obeys.rx (h : s.Obeys t) : t.link.rx = s.link.rx := by
  obtain ⟨u, hr, hq, -⟩ := h.quiet
  rw [hq.link]
  cases hr with
  | clock => rw [State.stopAtEnd_link]; rfl
  | text l body => rw [State.takeText_link]
  | _ => rfl

/-- Taking a frame leaves the receiver, or abandons the frame in reception (R181). -/
theorem State.takeFrame_rx (s : State) (kind : Byte) (body : Body) :
    (s.takeFrame kind body).link.rx = s.link.rx ∨ (s.takeFrame kind body).link.rx = Receiver.reset := by
  by_cases hkind : kind = 0x02
  · subst hkind
    rw [State.takeFrame_restart]
    split
    · exact .inr (by simp [State.modLink])
    · exact .inl (by simp [State.refused])
  · rw [State.takeFrame_of_ne hkind]
    left
    cases h : commandAct kind body s with
    | error r => exact Link.rx_place ..
    | ok x => exact (State.rx_flush _).trans ((Link.rx_place ..).trans (commandAct_ok h).rx)

theorem State.receive_rx_hunt (h : s.link.rx.phase = .hunt) (kind : Byte) (body : Body) :
    (s.receive kind body fun u => u.takeFrame kind body).link.rx.phase = .hunt := by
  rcases s.receive_cases kind body (fun u => u.takeFrame kind body) with ⟨-, e⟩ | ⟨-, -, -, e⟩ | ⟨-, -, e⟩ <;> rw [e]
  · exact h
  · rcases s.takeFrame_rx kind body with e | e <;> rw [e]
    · exact h
    · rfl
  · simp only [State.modLink, Link.bufferFrame]
    split <;> exact h

theorem Receiver.byte_received {r q : Receiver} {now : Nat} {b : Byte} {v : RxVerdict} (h : r.byte now b = (q, v)) :
    q.phase = .hunt ∨ v = .going ∧ (r.phase ≠ .hunt → q.lastAt = now) := by
  unfold Receiver.byte at h
  split at h
  case h_1 hp =>
    split at h <;> cases h
    · exact .inr ⟨rfl, fun hne => rfl⟩
    · exact .inl hp
  case h_2 =>
    dsimp only at h
    split at h
    · cases h; exact .inr ⟨rfl, fun _ => rfl⟩
    · split at h <;> cases h
      · exact .inl rfl
      · exact .inr ⟨rfl, fun _ => rfl⟩
  case h_3 => cases h; exact .inr ⟨rfl, fun _ => rfl⟩
  case h_4 => cases h; exact .inr ⟨rfl, fun _ => rfl⟩
  case h_5 =>
    dsimp only at h
    split at h
    · cases h; exact .inr ⟨rfl, fun _ => rfl⟩
    · split at h <;> cases h
      · exact .inl rfl
      · exact .inl rfl

/-- A byte that leaves a frame in reception leaves it with the time of the byte (R172). -/
theorem State.receiveByte_lastAt (hr : s.link.restarting = false) (hp : s.link.rx.phase ≠ .hunt) (b : Byte)
    (ht : (s.receiveByte b).link.rx.phase ≠ .hunt) :
    (s.receiveByte b).link.rx.lastAt = s.clock.elapsed ∧ (s.receiveByte b).clock = s.clock := by
  obtain ⟨q, v, hv⟩ : ∃ q v, s.link.rx.byte s.clock.elapsed b = (q, v) := ⟨_, _, rfl⟩
  rw [State.receiveByte_of_verdict hr hv] at ht ⊢
  rcases Receiver.byte_received hv with hq | ⟨rfl, hlast⟩
  · cases v with
    | received f => exact absurd (State.receive_rx_hunt (s := s.withRx q) hq ..) ht
    | _ => exact absurd hq ht
  · exact ⟨hlast hp, rfl⟩

theorem State.gapOver_eq_false (h : s.link.rx.phase = .hunt ∨ s.clock.elapsed ≤ s.link.rx.lastAt + 50) :
    exec .gapTimeout s = .next s := by
  have hover : s.gapOver = false := by
    have hlimit : Config.gapLimit = 50 := rfl
    rcases h with h | h
    · simp [State.gapOver, h]
    · simp [State.gapOver, hlimit]
      omega
  exact congrArg Host.Outcome.next (if_neg (by simp [hover]))

end

end Sys2Proof.Machine

namespace Sys2Proof.Proofs

open Sys2Proof.Machine

/-- Settles O9: the bytes of a frame are taken part by part. -/
theorem framesSpellCommands : Obligations.FramesSpellCommands := by
  unfold Obligations.FramesSpellCommands
  intro s kind body hbody hrx hr
  have hcheck : be [BitVec.ofNat 8 ((crc (frameCore kind body)).toNat / 256),
      BitVec.ofNat 8 (crc (frameCore kind body)).toNat] = (crc (frameCore kind body)).toNat :=
    be_two (BitVec.isLt _)
  rw [frameBytes, State.feed_core hr hrx kind body hbody, toBe_two, State.feed_check hr, if_pos hcheck, exec_commandOf]
  rfl

/-- Settles O10. -/
theorem faultyFramesAreDiscarded : Obligations.FaultyFramesAreDiscarded := by
  unfold Obligations.FaultyFramesAreDiscarded
  intro s hrx hr
  refine ⟨fun b hb => ?_, fun n hn hn' => ?_, fun kind body check hbody hlen hcheck => ?_⟩
  · have hbyte : s.link.rx.byte s.clock.elapsed b = (s.link.rx, .going) := by
      unfold Receiver.byte
      rw [hrx]
      exact if_neg hb
    exact congrArg Host.Outcome.next (State.receiveByte_of_verdict hr hbyte)
  · have hbe : be [BitVec.ofNat 8 (n / 256), BitVec.ofNat 8 n] = n := be_two (by omega)
    have hover : Config.maxBody < be [BitVec.ofNat 8 (n / 256), BitVec.ofNat 8 n] := hbe.symm ▸ hn
    rw [State.feed_start hr hrx, toBe_two]
    rw [State.feed_at hr _ (rxAt .length [BitVec.ofNat 8 (n / 256)] [] s.clock.elapsed) rfl]
    refine congrArg Host.Outcome.next
      (State.receiveByte_at hr _ (q := rxAt .hunt [] [] s.clock.elapsed) (v := .overlength) ?_)
    simp [Receiver.byte, rxAt, Receiver.bodyLength, hover, Receiver.toHunt, Receiver.reset]
  · match check, hlen with
    | [x, y], _ =>
      rw [State.feed_core hr hrx kind body hbody, State.feed_check hr, if_neg hcheck]
      rfl

/-- Settles O11. -/
theorem gapRule : Obligations.GapRule := by
  unfold Obligations.GapRule
  intro s hr
  refine ⟨fun h => State.gapOver_eq_false (.inl h), fun h => State.gapOver_eq_false (.inr h), fun hp hlate => ?_,
    fun b t hp ht hphase => ?_⟩
  · have hover : s.gapOver = true := by
      have hlimit : Config.gapLimit = 50 := rfl
      simp [State.gapOver, hp, hlimit]
      omega
    refine ⟨s.gapTimeout, congrArg Host.Outcome.next (if_pos hover), rfl, _, rfl, ?_⟩
    have hbyte : s.gapTimeout.link.rx.byte s.gapTimeout.clock.elapsed 0xA5
        = (rxAt .length [] [] s.clock.elapsed, .going) := rfl
    rw [State.receiveByte_of_verdict (s := s.gapTimeout) hr hbyte]
    rfl
  · obtain rfl : s.receiveByte b = t := Host.Outcome.next.inj ht
    obtain ⟨hlast, hclock⟩ := State.receiveByte_lastAt hr hp b hphase
    exact ⟨hlast, State.gapOver_eq_false (.inr (by rw [hlast, hclock]; exact Nat.le_add_right ..))⟩

end Sys2Proof.Proofs
end

section
/-! The first judgements of a command (R174): the size of its body and the numbers that it names. -/

namespace Sys2Proof.Machine

section
variable {s : State} {kind : Byte} {body : Body}

/-- A refused command changes nothing but its reply (R174). -/
theorem exec_refused (h : s.takesAtOnce) (hkind : kind ≠ 0x02) {r : Reason} (hj : commandAct kind body s = .error r) :
    exec (commandOf kind body) s = .next (s.refused kind r) := by
  rw [exec_commandOf_now h, State.takeFrame_of_ne hkind, hj, State.take_error]

/-! ### The size of a body -/

/-- A judging that refuses BAD-FORM every body of another size. -/
def NeedsSize (n : Nat) (act : Body → State → Judged) : Prop :=
  ∀ body s, body.length ≠ n → act body s = .error .badForm

theorem onEmpty_badForm {j : Judged} (h : body.length ≠ 0) : onEmpty body j = .error .badForm := by
  unfold onEmpty
  split
  · exact absurd rfl h
  · rfl

theorem onChannel_badForm {f : ChannelNo → Judged} (h : body.length ≠ 1) : onChannel body f = .error .badForm := by
  unfold onChannel
  split
  · exact absurd rfl h
  · rfl

theorem onHandle_badForm {f : Handle → Judged} (h : body.length ≠ 1) : onHandle body f = .error .badForm := by
  unfold onHandle
  split
  · exact absurd rfl h
  · rfl

theorem onSlot_badForm {f : SlotNo → Judged} (h : body.length ≠ 1) : onSlot body f = .error .badForm := by
  unfold onSlot
  split
  · exact absurd rfl h
  · rfl

theorem onWatch_badForm {f : WatchNo → Judged} (h : body.length ≠ 1) : onWatch body f = .error .badForm := by
  unfold onWatch
  split
  · exact absurd rfl h
  · rfl

theorem doReadLink_size : NeedsSize 1 doReadLink := by
  intro body s h
  unfold doReadLink
  split
  · exact absurd rfl h
  · rfl

theorem doSetNotices_size : NeedsSize 2 doSetNotices := by
  intro body s h
  unfold doSetNotices
  split
  · exact absurd rfl h
  · rfl

theorem doSetClock_size : NeedsSize 6 doSetClock := by
  intro body s h
  unfold doSetClock
  split
  · exact absurd rfl h
  · rfl

theorem doSetSplit_size : NeedsSize 2 doSetSplit := by
  intro body s h
  unfold doSetSplit
  split
  · exact absurd rfl h
  · rfl

theorem doDefineArea_size : NeedsSize 5 doDefineArea := by
  intro body s h
  unfold doDefineArea
  split
  · exact absurd rfl h
  · rfl

theorem doClearArea_size : NeedsSize 1 doClearArea := by
  intro body s h
  unfold doClearArea
  split
  · exact absurd rfl h
  · rfl

theorem doSetAllowance_size : NeedsSize 5 doSetAllowance := by
  intro body s h
  unfold doSetAllowance
  split
  · exact absurd rfl h
  · rfl

theorem doSetLoadGrain_size : NeedsSize 2 doSetLoadGrain := by
  intro body s h
  unfold doSetLoadGrain
  split
  · exact absurd rfl h
  · rfl

theorem doDeclareMessage_size : NeedsSize 17 doDeclareMessage := by
  intro body s h
  unfold doDeclareMessage
  split
  · exact absurd rfl h
  · rfl

theorem doOpenBulletin_size : NeedsSize 3 doOpenBulletin := by
  intro body s h
  unfold doOpenBulletin
  split
  · exact absurd rfl h
  · rfl

theorem doListQueue_size : NeedsSize 2 doListQueue := by
  intro body s h
  unfold doListQueue
  split
  · exact absurd rfl h
  · rfl

theorem doSetSlot_size : NeedsSize 13 doSetSlot := by
  intro body s h
  unfold doSetSlot
  split
  · exact absurd rfl h
  · rfl

theorem doSetChannel_size : NeedsSize 18 doSetChannel := by
  intro body s h
  unfold doSetChannel
  split
  · exact absurd rfl h
  · rfl

theorem doClearHold_size : NeedsSize 4 doClearHold := by
  intro body s h
  unfold doClearHold
  split
  · exact absurd rfl h
  · rfl

theorem doReadReceive_size : NeedsSize 2 doReadReceive := by
  intro body s h
  unfold doReadReceive
  split
  · exact absurd rfl h
  · rfl

/-- R174 step 2. Every judging refuses a body of another size than its command's. -/
theorem commandAct_size (hkind : kind ≠ 0x02) {n : Nat} (h : fixedSize kind = some n) :
    NeedsSize n (commandAct kind) := by
  unfold commandAct
  split
  case h_43 => exact fun _ _ _ => rfl
  all_goals
    rename_i hk
    obtain rfl := eq_ofNat_of_toNat_eq hk
  case h_2 => obtain rfl := Option.some.inj h; exact doReadLink_size
  case h_3 => obtain rfl := Option.some.inj h; exact doSetNotices_size
  case h_4 => obtain rfl := Option.some.inj h; exact doSetClock_size
  case h_6 => obtain rfl := Option.some.inj h; exact doSetSplit_size
  case h_7 => obtain rfl := Option.some.inj h; exact doDefineArea_size
  case h_8 => obtain rfl := Option.some.inj h; exact doClearArea_size
  case h_9 => obtain rfl := Option.some.inj h; exact doSetAllowance_size
  case h_11 => obtain rfl := Option.some.inj h; exact doSetLoadGrain_size
  case h_12 => obtain rfl := Option.some.inj h; exact doDeclareMessage_size
  case h_13 => obtain rfl := Option.some.inj h; exact doOpenBulletin_size
  case h_14 => cases h
  case h_17 => obtain rfl := Option.some.inj h; exact doListQueue_size
  case h_21 => obtain rfl := Option.some.inj h; exact doSetSlot_size
  case h_29 => obtain rfl := Option.some.inj h; exact doSetChannel_size
  case h_36 => cases h
  case h_41 => obtain rfl := Option.some.inj h; exact doClearHold_size
  case h_42 => obtain rfl := Option.some.inj h; exact doReadReceive_size
  case h_1 | h_5 | h_10 | h_15 => obtain rfl := Option.some.inj h; exact fun _ _ h => onEmpty_badForm h
  case h_16 | h_18 | h_19 | h_20 => obtain rfl := Option.some.inj h; exact fun _ _ h => onHandle_badForm h
  case h_22 | h_23 | h_24 | h_25 => obtain rfl := Option.some.inj h; exact fun _ _ h => onSlot_badForm h
  case h_37 | h_38 => obtain rfl := Option.some.inj h; exact fun _ _ h => onWatch_badForm h
  all_goals obtain rfl := Option.some.inj h; exact fun _ _ h => onChannel_badForm h

theorem doSetWatch_badForm (h : body.length < 4 ∨ body.length ≠ 4 + 2 * (body.getD 2 0).toNat) :
    doSetWatch body s = .error .badForm := by
  unfold doSetWatch
  split
  case h_1 w set n m rest =>
    have hrest : rest.length ≠ 2 * n.toNat := by
      simp only [List.length_cons, List.getD_cons_succ, List.getD_cons_zero] at h
      omega
    exact if_pos hrest
  case h_2 => rfl

/-! ### The number that a body begins with -/

theorem channelOf_above {b : Byte} (h : 7 < b.toNat) : channelOf b = none := dif_neg (by omega)

theorem slotOf_above {b : Byte} (h : 63 < b.toNat) : slotOf b = none := dif_neg (by omega)

theorem areaOf_above {b : Byte} (h : 31 < b.toNat) : areaOf b = none := dif_neg (by omega)

theorem watchOf_above {b : Byte} (h : 3 < b.toNat) : watchOf b = none := dif_neg (by omega)

variable {b : Byte}

theorem onChannel_range (h : channelOf b = none) (f : ChannelNo → Judged) : onChannel [b] f = .error .range := by
  simp only [onChannel, h]

theorem onSlot_range (h : slotOf b = none) (f : SlotNo → Judged) : onSlot [b] f = .error .range := by
  simp only [onSlot, h]

theorem onWatch_range (h : watchOf b = none) (f : WatchNo → Judged) : onWatch [b] f = .error .range := by
  simp only [onWatch, h]

/-- R46. A declaration on no channel is refused RANGE. -/
theorem declarationOf_channel {c n1 n0 d2 d1 d0 k l1 l0 p e1 e0 m3 m2 m1 m0 f : Byte} {d : Declaration}
    (h : declarationOf c n1 n0 d2 d1 d0 k l1 l0 p e1 e0 m3 m2 m1 m0 f = some d) : d.channel = channelOf c := by
  unfold declarationOf at h
  split at h
  · cases h
    rfl
  · cases h

theorem doDeclareMessage_range (hb : channelOf b = none) (h : body.length = 16) :
    doDeclareMessage (b :: body) s = .error .range := by
  match body, h with
  | [n1, n0, d2, d1, d0, k, l1, l0, p, e1, e0, m3, m2, m1, m0, f], _ =>
    unfold doDeclareMessage
    dsimp only
    split
    case h_1 d hd =>
      have hchannel : d.channel = none := (declarationOf_channel hd).trans hb
      simp only [State.declare, hchannel]
    case h_2 => rfl

theorem doSetAllowance_range (hb : channelOf b = none) (h : body.length = 4) :
    doSetAllowance (b :: body) s = .error .range := by
  match body, h with
  | [r1, r0, k1, k0], _ => simp only [doSetAllowance, hb]

theorem doListQueue_range (hb : channelOf b = none) (h : body.length = 1) :
    doListQueue (b :: body) s = .error .range := by
  match body, h with
  | [l], _ => simp only [doListQueue, hb]

theorem doSetChannel_range (hb : channelOf b = none) (h : body.length = 17) :
    doSetChannel (b :: body) s = .error .range := by
  match body, h with
  | [p1, p0, g1, g0, k1, k0, t1, t0, q1, q0, m1, m0, n, a1, a0, kk, rc], _ => simp only [doSetChannel, hb]

theorem doClearHold_range (hb : channelOf b = none) (h : body.length = 3) :
    doClearHold (b :: body) s = .error .range := by
  match body, h with
  | [x2, x1, x0], _ => simp only [doClearHold, hb]

theorem doReadReceive_range (hb : channelOf b = none) (h : body.length = 1) :
    doReadReceive (b :: body) s = .error .range := by
  match body, h with
  | [f], _ => simp only [doReadReceive, hb]

theorem doSetSlot_range (hb : slotOf b = none) (h : body.length = 12) : doSetSlot (b :: body) s = .error .range := by
  match body, h with
  | [set, a3, a2, a1, a0, p1, p0, ar, w3, w2, w1, w0], _ => simp only [doSetSlot, hb]

theorem doDefineArea_range (hb : areaOf b = none) (h : body.length = 4) :
    doDefineArea (b :: body) s = .error .range := by
  match body, h with
  | [f1, f0, l1, l0], _ => simp only [doDefineArea, hb]

theorem doClearArea_range (hb : areaOf b = none) : doClearArea [b] s = .error .range := by
  simp only [doClearArea, hb]

theorem doOpenBulletin_range (hb : areaOf b = none) (h : body.length = 2) :
    doOpenBulletin (b :: body) s = .error .range := by
  match body, h with
  | [n1, n0], _ => simp only [doOpenBulletin, hb]

/-- A command of one byte that names a channel above 7 is refused RANGE. -/
theorem commandAct_channel_range {f : State → ChannelNo → Judged}
    (hact : commandAct kind = fun body s => onChannel body (f s)) (hb : channelOf b = none) (h : body = []) :
    commandAct kind (b :: body) s = .error .range := by
  rw [hact, h]
  exact onChannel_range hb _

theorem commandAct_slot_range {f : State → SlotNo → Judged}
    (hact : commandAct kind = fun body s => onSlot body (f s)) (hb : slotOf b = none) (h : body = []) :
    commandAct kind (b :: body) s = .error .range := by
  rw [hact, h]
  exact onSlot_range hb _

theorem commandAct_watch_range {f : State → WatchNo → Judged}
    (hact : commandAct kind = fun body s => onWatch body (f s)) (hb : watchOf b = none) (h : body = []) :
    commandAct kind (b :: body) s = .error .range := by
  rw [hact, h]
  exact onWatch_range hb _

/-- The commands whose body begins with a channel. -/
theorem commandAct_channels (hsize : fixedSize kind = some (body.length + 1))
    (hkind : kind ∈ ([0x0A, 0x0D, 0x12, 0x1B, 0x1C, 0x1D, 0x1E, 0x1F, 0x20, 0x21, 0x22, 0x23, 0x24, 0x28, 0x29, 0x2A,
      0x2B] : List Byte)) (hb : channelOf b = none) : commandAct kind (b :: body) s = .error .range := by
  simp only [List.mem_cons, List.not_mem_nil, or_false] at hkind
  have hlen {n : Nat} (h : some (n + 1) = some (body.length + 1)) : body.length = n :=
    (Nat.succ.inj (Option.some.inj h)).symm
  have hnil (h : some 1 = some (body.length + 1)) : body = [] := List.eq_nil_of_length_eq_zero (hlen h)
  rcases hkind with rfl | rfl | rfl | rfl | rfl | rfl | rfl | rfl | rfl | rfl | rfl | rfl | rfl | rfl | rfl | rfl | rfl
  · exact doSetAllowance_range hb (hlen hsize)
  · exact doDeclareMessage_range hb (hlen hsize)
  · exact doListQueue_range hb (hlen hsize)
  · exact commandAct_channel_range rfl hb (hnil hsize)
  · exact commandAct_channel_range rfl hb (hnil hsize)
  · exact commandAct_channel_range rfl hb (hnil hsize)
  · exact doSetChannel_range hb (hlen hsize)
  · exact commandAct_channel_range rfl hb (hnil hsize)
  · exact commandAct_channel_range rfl hb (hnil hsize)
  · exact commandAct_channel_range rfl hb (hnil hsize)
  · exact commandAct_channel_range rfl hb (hnil hsize)
  · exact commandAct_channel_range rfl hb (hnil hsize)
  · exact commandAct_channel_range rfl hb (hnil hsize)
  · exact commandAct_channel_range rfl hb (hnil hsize)
  · exact commandAct_channel_range rfl hb (hnil hsize)
  · exact doClearHold_range hb (hlen hsize)
  · exact doReadReceive_range hb (hlen hsize)

/-- The commands whose body begins with a slot, an area or a watch. -/
theorem commandAct_slots (hsize : fixedSize kind = some (body.length + 1))
    (hkind : kind ∈ ([0x16, 0x17, 0x18, 0x19, 0x1A] : List Byte)) (hb : slotOf b = none) :
    commandAct kind (b :: body) s = .error .range := by
  simp only [List.mem_cons, List.not_mem_nil, or_false] at hkind
  have hlen {n : Nat} (h : some (n + 1) = some (body.length + 1)) : body.length = n :=
    (Nat.succ.inj (Option.some.inj h)).symm
  have hnil (h : some 1 = some (body.length + 1)) : body = [] := List.eq_nil_of_length_eq_zero (hlen h)
  rcases hkind with rfl | rfl | rfl | rfl | rfl
  · exact doSetSlot_range hb (hlen hsize)
  all_goals exact commandAct_slot_range rfl hb (hnil hsize)

theorem commandAct_areas (hsize : fixedSize kind = some (body.length + 1))
    (hkind : kind ∈ ([0x08, 0x09, 0x0E] : List Byte)) (hb : areaOf b = none) :
    commandAct kind (b :: body) s = .error .range := by
  simp only [List.mem_cons, List.not_mem_nil, or_false] at hkind
  have hlen {n : Nat} (h : some (n + 1) = some (body.length + 1)) : body.length = n :=
    (Nat.succ.inj (Option.some.inj h)).symm
  rcases hkind with rfl | rfl | rfl
  · exact doDefineArea_range hb (hlen hsize)
  · rw [List.eq_nil_of_length_eq_zero (hlen hsize)]
    exact doClearArea_range hb
  · exact doOpenBulletin_range hb (hlen hsize)

theorem commandAct_watches (hsize : fixedSize kind = some (body.length + 1))
    (hkind : kind ∈ ([0x26, 0x27] : List Byte)) (hb : watchOf b = none) :
    commandAct kind (b :: body) s = .error .range := by
  simp only [List.mem_cons, List.not_mem_nil, or_false] at hkind
  have hnil (h : some 1 = some (body.length + 1)) : body = [] :=
    List.eq_nil_of_length_eq_zero (Nat.succ.inj (Option.some.inj h)).symm
  rcases hkind with rfl | rfl
  all_goals exact commandAct_watch_range rfl hb (hnil hsize)

end

end Sys2Proof.Machine

namespace Sys2Proof.Proofs

open Sys2Proof.Machine

/-- Settles O12. -/
theorem formIsJudged : Obligations.FormIsJudged := by
  unfold Obligations.FormIsJudged
  intro s kind body h
  refine ⟨fun hkind => ?_, fun n hsize hlen => ?_, fun hlen => ?_, fun hlen => ?_⟩
  · have hbad : commandOf kind body = .badForm kind body := Laws.FrameForm.commandOf_bad kind body hkind
    have hact : commandAct kind = fun _ _ => .error .badForm := by
      simp only [isCommandKind, decide_eq_false_iff_not] at hkind
      unfold commandAct
      split
      case h_43 => rfl
      all_goals omega
    rw [← hbad]
    refine exec_refused h ?_ (by rw [hact])
    rintro rfl
    simp [isCommandKind] at hkind
  · by_cases hkind : kind = 0x02
    · subst hkind
      obtain rfl := Option.some.inj hsize
      rw [exec_commandOf_now h, State.takeFrame_restart, if_neg (fun hnil => hlen (by rw [hnil]; rfl))]
    · exact exec_refused h hkind (commandAct_size hkind hsize body s hlen)
  · exact commandStep_refused h (if_pos hlen)
  · exact commandStep_refused h (doSetWatch_badForm hlen)

/-- Settles O13. -/
theorem numbersAreJudged : Obligations.NumbersAreJudged := by
  unfold Obligations.NumbersAreJudged
  intro s kind b body h hsize hnumber
  have hkind : kind ≠ 0x02 := by
    rintro rfl
    cases hsize
  refine exec_refused h hkind ?_
  rcases hnumber with ⟨hk, hb⟩ | ⟨hk, hb⟩ | ⟨hk, hb⟩ | ⟨hk, hb⟩
  · exact commandAct_channels hsize hk (channelOf_above hb)
  · exact commandAct_slots hsize hk (slotOf_above hb)
  · exact commandAct_areas hsize hk (areaOf_above hb)
  · exact commandAct_watches hsize hk (watchOf_above hb)

end Sys2Proof.Proofs
end

section
/-! The commands of the Text Store and the Load Unit (chapters 3 and 4): areas, allowances, the freeing of messages, grants,
declarations, and the opening and abandoning of loads. -/

namespace Sys2Proof.Machine

section
variable {s : State}

/-! ### Numbers of the store -/

theorem ceilDiv_blockCells (n : Nat) : ceilDiv n Config.blockCells = (n + 63) / 64 := rfl

/-- A table's list is its entries in the order of their numbers. -/
theorem toList_eq_map_vget {α : Type} {n : Nat} (v : Vector α n) : v.toList = (List.finRange n).map (vget v) := by
  apply List.ext_getElem
  · simp
  · intro i h1 h2
    simp [vget]

theorem areaOf_byteOf (a : AreaNo) : areaOf (byteOf a.val) = some a := areaOf_val a

theorem channelOf_byteOf (c : ChannelNo) : channelOf (byteOf c.val) = some c := channelOf_val c

theorem slotOf_byteOf (i : SlotNo) : slotOf (byteOf i.val) = some i := slotOf_val i

theorem watchOf_byteOf (w : WatchNo) : watchOf (byteOf w.val) = some w := watchOf_val w

theorem handleOf_byteOf (h : Handle) : handleOf (byteOf h.val) = h := handleOf_val h

/-- A number that fits two bytes is read as it was sent. -/
theorem be_pair {n : Nat} (h : n ≤ 65535) : be [BitVec.ofNat 8 (n / 256), BitVec.ofNat 8 n] = n :=
  be_two (Nat.lt_succ_of_le h)

/-! ### Areas (R30, R31) -/

theorem State.areaBusy_iff (a : AreaNo) : s.areaBusy a = true ↔
    0 < (s.area a).onAir ∨ ∃ l, s.loadUnit.current = some l ∧ l.target = .bulletin a := by
  unfold State.areaBusy State.isLoading
  cases s.loadUnit.current <;> simp

theorem State.overlaps_iff (a : AreaNo) (first last : Nat) : s.overlaps a first last = true ↔
    ∃ b, b ≠ a ∧ (s.area b).state ≠ .undefined ∧ (s.area b).first ≤ last ∧ first ≤ (s.area b).last := by
  simp [State.overlaps, and_assoc]

/-- The judgement of DEFINE-AREA (R30). -/
theorem doDefineArea_eq (a : AreaNo) {first last : Nat} (hfirst : first ≤ 65535) (hlast : last ≤ 65535) :
    doDefineArea (byteOf a.val :: (toBe 2 first ++ toBe 2 last)) s
      = if ¬(first ≤ last ∧ last < s.store.split ∧ last - first < 256) then .error .range
        else if s.areaBusy a then .error .busy
        else if s.overlaps a first last then .error .overlap
        else .ok (s.setArea a ⟨.empty, first, last, (last - first + 1) * 64, 0, 0⟩,
          [.num 1 a.val, .num 2 ((last - first + 1) * 64)]) := by
  have hrange : (s.store.split ≤ first ∨ s.store.split ≤ last ∨ last < first ∨ maxAreaBlocks < last - first + 1)
      ↔ ¬(first ≤ last ∧ last < s.store.split ∧ last - first < 256) := by
    have hmax : maxAreaBlocks = 256 := rfl
    omega
  simp only [toBe_two, List.cons_append, List.nil_append, doDefineArea, be_pair hfirst, be_pair hlast, areaOf_byteOf,
    hrange]
  rfl

theorem doClearArea_eq (a : AreaNo) : doClearArea [byteOf a.val] s
    = if s.areaBusy a then .error .busy else .ok (s.setArea a Area.reset, [.num 1 a.val]) := by
  simp only [doClearArea, areaOf_byteOf]

/-! ### READ-STORE (R43) -/

/-- The bytes of fields of one size each. -/
theorem fieldBytes_flatMap_length {α : Type} {f : α → List Field} {k : Nat} (h : ∀ x, (fieldBytes (f x)).length = k)
    (xs : List α) : (fieldBytes (xs.flatMap f)).length = xs.length * k := by
  induction xs with
  | nil => simp [fieldBytes]
  | cons x xs ih =>
    rw [List.flatMap_cons, fieldBytes_append, List.length_append, h, ih, List.length_cons]
    ring

/-! ### The freeing of a message (R38, R61) -/

/-- What a change of one descriptor does to a channel's use (R37). -/
theorem State.use_setDesc_add (s : State) (h : Handle) (d : Descriptor) (c : ChannelNo) :
    (s.setDesc h d).use c + (if (s.desc h).channel = c then (s.desc h).chain.length else 0)
      = s.use c + if d.channel = c then d.chain.length else 0 := by
  obtain ⟨xs, ys, hget, hput⟩ := exists_toList_vput s.descs h
  have hs : s.descs.toList = xs ++ s.desc h :: ys := hget
  simp only [State.use, State.setDesc_descs, hput d, hs, List.map_append, List.map_cons, List.sum_append, List.sum_cons]
  omega

theorem State.use_freeMessage (s : State) (h : Handle) (c : ChannelNo) :
    (s.freeMessage h).use c + (if (s.desc h).channel = c then (s.desc h).chain.length else 0) = s.use c := by
  have hadd := s.use_setDesc_add h Descriptor.reset c
  have hreset : (if Descriptor.reset.channel = c then Descriptor.reset.chain.length else 0) = 0 := ite_self 0
  rwa [hreset] at hadd

/-! ### Grants (R50) -/

theorem State.setLoad_current (s : State) {l : Option OpenLoad} (h : s.loadUnit.current = l) : s.setLoad l = s := by
  subst h
  rfl

theorem State.rejudgeGrant_of_none (h : s.loadUnit.current = none) : s.rejudgeGrant = s := by
  simp only [State.rejudgeGrant, h]

theorem State.rejudgeGrant_of_not_waiting {l : OpenLoad} (h : s.loadUnit.current = some l) (hw : l.waiting = false) :
    s.rejudgeGrant = s := by
  simp [State.rejudgeGrant, h, hw]

theorem State.rejudgeGrant_of_bulletin {l : OpenLoad} {a : AreaNo} (h : s.loadUnit.current = some l)
    (ht : l.target = .bulletin a) : s.rejudgeGrant = s := by
  simp [State.rejudgeGrant, State.judgeGrant, h, ht]

/-- The state after a grant, its notice apart (R50). -/
def State.granted (s : State) (l : OpenLoad) (h : Handle) : State :=
  State.setDesc { s with
    store := { s.store with free := s.store.free.drop (s.grantBlocks l h) }
    loadUnit := ⟨some { l with outstanding := s.grantNeed l, waiting := false }, s.loadUnit.grain⟩ } h
    { s.desc h with chain := (s.desc h).chain ++ s.store.free.take (s.grantBlocks l h) }

/-- R50. The judgement of a grant of an open telex load. -/
theorem State.judgeGrant_eq {l : OpenLoad} {h : Handle} {c : ChannelNo} (hl : s.loadUnit.current = some l)
    (ht : l.target = .telex h c) (notify : Bool) :
    s.judgeGrant notify = if s.grantBlocks l h ≤ s.usable c then
        (if notify then (s.granted l h).emit .credit (some c)
          [.handle h, .num 2 (s.grantNeed l), .num 2 l.received, .num 2 l.clamped] else s.granted l h)
      else s.setLoad (some { l with waiting := true }) := by
  unfold State.judgeGrant
  rw [hl]
  dsimp only
  split
  case h_1 ht' =>
    rw [ht] at ht'
    cases ht'
  case h_2 ht' =>
    rw [ht] at ht'
    cases ht'
    rfl

theorem State.rejudgeGrant_of_waiting {l : OpenLoad} (h : s.loadUnit.current = some l) (hw : l.waiting = true) :
    s.rejudgeGrant = s.judgeGrant true := by
  simp [State.rejudgeGrant, h, hw]

/-! ### Declarations (R46, R47) -/

theorem classOf_byteOf (k : MsgClass) : classOf (byteOf k.code) = some k := by cases k <;> rfl

theorem flagOf_byteOf (b : Bool) : flagOf (byteOf b.toNat) = some b := by cases b <;> rfl

/-- A class byte above 2 names no class, and a flag above 1 no flag. -/
theorem classOf_above {b : Byte} (h : 2 < b.toNat) : classOf b = none := by
  have h0 : b ≠ 0 := by rintro rfl; simp at h
  have h1 : b ≠ 1 := by rintro rfl; simp at h
  have h2 : b ≠ 2 := by rintro rfl; simp at h
  rw [classOf, if_neg h0, if_neg h1, if_neg h2]

theorem flagOf_above {b : Byte} (h : 1 < b.toNat) : flagOf b = none := by
  have h0 : b ≠ 0 := by rintro rfl; simp at h
  have h1 : b ≠ 1 := by rintro rfl; simp at h
  rw [flagOf, if_neg h0, if_neg h1]

theorem declarationOf_eq_none {c n1 n0 d2 d1 d0 k l1 l0 p e1 e0 m3 m2 m1 m0 f : Byte}
    (h : classOf k = none ∨ flagOf p = none ∨ flagOf f = none) :
    declarationOf c n1 n0 d2 d1 d0 k l1 l0 p e1 e0 m3 m2 m1 m0 f = none := by
  unfold declarationOf
  split
  case h_1 hk hp hf => simp [hk, hp, hf] at h
  case h_2 => rfl

/-- A declaration is read as it was sent. -/
theorem doDeclareMessage_body {d : Declaration} {c : ChannelNo} (hc : d.channel = some c) (hfits : d.fits) :
    doDeclareMessage (d.body c) s = s.declare d := by
  obtain ⟨hnumber, hdest, hlength, hexpiry⟩ := hfits
  obtain ⟨channel, number, dest, cls, length, expiry, confirm⟩ := d
  obtain rfl : channel = some c := hc
  cases expiry with
  | none =>
    have hread : declarationOf (byteOf c.val) (BitVec.ofNat 8 (number / 256)) (BitVec.ofNat 8 number)
        (BitVec.ofNat 8 (dest / 256 / 256)) (BitVec.ofNat 8 (dest / 256)) (BitVec.ofNat 8 dest) (byteOf cls.code)
        (BitVec.ofNat 8 (length / 256)) (BitVec.ofNat 8 length) 0 0 0 0 0 0 0 (byteOf confirm.toNat)
        = some ⟨some c, number, dest, cls, length, none, confirm⟩ := by
      have hzero : flagOf 0 = some false := rfl
      simp only [declarationOf, classOf_byteOf, flagOf_byteOf, hzero, channelOf_byteOf, be_pair hnumber, be_three hdest,
        be_pair hlength, Bool.false_eq_true, if_false]
    have hbody : doDeclareMessage (Declaration.body ⟨some c, number, dest, cls, length, none, confirm⟩ c) s
        = match declarationOf (byteOf c.val) (BitVec.ofNat 8 (number / 256)) (BitVec.ofNat 8 number)
            (BitVec.ofNat 8 (dest / 256 / 256)) (BitVec.ofNat 8 (dest / 256)) (BitVec.ofNat 8 dest) (byteOf cls.code)
            (BitVec.ofNat 8 (length / 256)) (BitVec.ofNat 8 length) 0 0 0 0 0 0 0 (byteOf confirm.toNat) with
          | some d => s.declare d
          | none => .error .range := rfl
    rw [hbody, hread]
  | some e =>
    obtain ⟨day, ms⟩ := e
    obtain ⟨hday, hms⟩ := hexpiry _ rfl
    have hread : declarationOf (byteOf c.val) (BitVec.ofNat 8 (number / 256)) (BitVec.ofNat 8 number)
        (BitVec.ofNat 8 (dest / 256 / 256)) (BitVec.ofNat 8 (dest / 256)) (BitVec.ofNat 8 dest) (byteOf cls.code)
        (BitVec.ofNat 8 (length / 256)) (BitVec.ofNat 8 length) 1 (BitVec.ofNat 8 (day / 256)) (BitVec.ofNat 8 day)
        (BitVec.ofNat 8 (ms / 256 / 256 / 256)) (BitVec.ofNat 8 (ms / 256 / 256)) (BitVec.ofNat 8 (ms / 256))
        (BitVec.ofNat 8 ms) (byteOf confirm.toNat)
        = some ⟨some c, number, dest, cls, length, some (day, ms), confirm⟩ := by
      have hone : flagOf 1 = some true := rfl
      simp only [declarationOf, classOf_byteOf, flagOf_byteOf, hone, channelOf_byteOf, be_pair hnumber, be_three hdest,
        be_pair hlength, if_true, be_pair hday, be_four hms]
    have hbody : doDeclareMessage (Declaration.body ⟨some c, number, dest, cls, length, some (day, ms), confirm⟩ c) s
        = match declarationOf (byteOf c.val) (BitVec.ofNat 8 (number / 256)) (BitVec.ofNat 8 number)
            (BitVec.ofNat 8 (dest / 256 / 256)) (BitVec.ofNat 8 (dest / 256)) (BitVec.ofNat 8 dest) (byteOf cls.code)
            (BitVec.ofNat 8 (length / 256)) (BitVec.ofNat 8 length) 1 (BitVec.ofNat 8 (day / 256)) (BitVec.ofNat 8 day)
            (BitVec.ofNat 8 (ms / 256 / 256 / 256)) (BitVec.ofNat 8 (ms / 256 / 256)) (BitVec.ofNat 8 (ms / 256))
            (BitVec.ofNat 8 ms) (byteOf confirm.toNat) with
          | some d => s.declare d
          | none => .error .range := rfl
    rw [hbody, hread]

/-- The state after an accepted declaration (R47): the load opened, and the first grant made or waiting. -/
def State.declared (s : State) (d : Declaration) (h : Handle) (c : ChannelNo) : State :=
  let lc := min d.length 8192
  let n := min s.loadUnit.grain lc
  let k := (n + 63) / 64
  let made := decide (k ≤ s.usable c)
  State.setDesc { s with
    store := { s.store with free := if made then s.store.free.drop k else s.store.free }
    loadUnit := ⟨some ⟨.telex h c, lc, 0, if made then n else 0, 0, 0, 0, decide (8192 < d.length), !made⟩,
      s.loadUnit.grain⟩ } h
    ⟨.loading, c, d.number, d.dest, d.cls, 0, 0, if made then s.store.free.take k else [],
      d.confirm && decide (d.cls ≠ .relay), d.expiry.map fun e => e.1 * 86400000 + e.2, 0,
      decide (8192 < d.length), 0, 0, 0, none, none, none, false⟩

theorem State.granted_setDesc (s : State) (h : Handle) (d : Descriptor) (x : Option OpenLoad) (l : OpenLoad) :
    ((s.setDesc h d).setLoad x).granted l h = State.setDesc { s with
      store := { s.store with free := s.store.free.drop (((s.setDesc h d).setLoad x).grantBlocks l h) }
      loadUnit := ⟨some { l with outstanding := s.grantNeed l, waiting := false }, s.loadUnit.grain⟩ } h
      { d with chain := d.chain ++ s.store.free.take (((s.setDesc h d).setLoad x).grantBlocks l h) } := by
  have hdesc : ((s.setDesc h d).setLoad x).desc h = d := by simp
  rw [State.granted, hdesc]
  simp [State.setDesc, State.setLoad]
  rfl

theorem State.applyDeclare_eq {d : Declaration} {h : Handle} {c : ChannelNo} (hchain : (s.desc h).chain = []) :
    s.applyDeclare d h c = s.declared d h c := by
  obtain ⟨x, hx, hxchain⟩ : ∃ x, d.descriptor c (s.desc h) = x ∧ x = ⟨.loading, c, d.number, d.dest, d.cls, 0, 0, [],
      d.confirm && decide (d.cls ≠ .relay), d.expiry.map fun e => e.1 * 86400000 + e.2, 0, decide (8192 < d.length), 0, 0,
      0, none, none, none, false⟩ := ⟨_, rfl, by rw [Declaration.descriptor, hchain]; rfl⟩
  have hopen : (s.modDesc h (d.descriptor c)).setLoad (some (d.load h c)) = (s.setDesc h x).setLoad (some (d.load h c)) := by
    rw [State.modDesc, hx]
  have hused : ((s.setDesc h x).setLoad (some (d.load h c))).use = s.use :=
    funext fun e => State.use_setDesc e hchain (by rw [hxchain])
  have husable : ((s.setDesc h x).setLoad (some (d.load h c))).usable c = s.usable c := by
    simp only [State.usable, State.othersUnused, hused]
    rfl
  have hblocks : ((s.setDesc h x).setLoad (some (d.load h c))).grantBlocks (d.load h c) h
      = (min s.loadUnit.grain (min d.length 8192) + 63) / 64 := by
    have hneed : ((s.setDesc h x).setLoad (some (d.load h c))).grantNeed (d.load h c)
      = min s.loadUnit.grain (min d.length 8192) := rfl
    rw [State.grantBlocks, hneed]
    simp [hxchain, Declaration.load, ceilDiv_blockCells]
  rw [State.applyDeclare, hopen, State.judgeGrant_eq (h := h) (c := c) rfl rfl, husable, State.granted_setDesc, hblocks,
    hxchain]
  simp only [Bool.false_eq_true, if_false, State.declared]
  by_cases hmade : (min s.loadUnit.grain (min d.length 8192) + 63) / 64 ≤ s.usable c
  · simp only [if_pos hmade, decide_eq_true hmade]
    rfl
  · simp only [if_neg hmade, decide_eq_false hmade]
    rfl

theorem State.duplicate_iff (c : ChannelNo) (n : Nat) : s.duplicate c n = true ↔
    ∃ g, (s.desc g).state ≠ .free ∧ (s.desc g).channel = c ∧ (s.desc g).number = n := by
  simp only [State.duplicate, any_toList_iff_exists_vget, Bool.and_eq_true, decide_eq_true_eq, State.desc, and_assoc]

theorem State.lowestFree_eq_none_iff : s.lowestFree = none ↔ ∀ g, (s.desc g).state ≠ .free := by
  simp [State.lowestFree]

theorem State.lowestFree_eq_some {h : Handle} (hh : (s.desc h).state = .free)
    (hlow : ∀ g, g < h → (s.desc g).state ≠ .free) : s.lowestFree = some h := by
  rw [State.lowestFree, List.find?_eq_some_iff_getElem]
  refine ⟨by simpa using hh, h.val, by simp, by simp, fun j hj => ?_⟩
  simpa using hlow ⟨j, hj.trans h.isLt⟩ hj

/-- R46 order 1, the channel apart. -/
theorem Declaration.inRange_iff (d : Declaration) : d.inRange = true ↔
    ¬(d.number = 0 ∨ 99999 < d.dest ∨ d.length = 0 ∨ ∃ e, d.expiry = some e ∧ 86399999 < e.2) := by
  cases h : d.expiry <;> simp [Declaration.inRange, h, and_assoc]

end

end Sys2Proof.Machine

namespace Sys2Proof.Proofs

open Sys2Proof.Machine

/-- Settles O21. -/
theorem areasAreDefinedAndCleared : Obligations.AreasAreDefinedAndCleared := by
  unfold Obligations.AreasAreDefinedAndCleared
  intro s a first last h hfirst hlast
  obtain ⟨-, -, -, ho⟩ := id h
  have hdefine := doDefineArea_eq (s := s) a hfirst hlast
  have hclear := doClearArea_eq (s := s) a
  simp only [← s.areaBusy_iff a, ← s.overlaps_iff a first last]
  refine ⟨fun hr => ?_, fun hr hl => ?_, fun hr hl hov => ?_, fun hr hl hov => ?_, fun hl => ?_, fun hl => ?_⟩
  · exact commandStep_refused h (by rw [hdefine, if_pos hr])
  · exact commandStep_refused h (by rw [hdefine, if_neg (not_not.2 hr), if_pos hl])
  · exact commandStep_refused h (by rw [hdefine, if_neg (not_not.2 hr), if_neg hl, if_pos hov])
  · exact commandStep_silent h (by rw [hdefine, if_neg (not_not.2 hr), if_neg hl, if_neg hov]) ho
  · exact commandStep_refused h (by rw [hclear, if_pos hl])
  · exact commandStep_silent h (by rw [hclear, if_neg hl]; rfl) ho

/-- Settles O22. -/
theorem allowanceAndGrainAreSet : Obligations.AllowanceAndGrainAreSet := by
  unfold Obligations.AllowanceAndGrainAreSet
  intro s c reserve cap g h hreserve hcap hg
  have hallowance : doSetAllowance (byteOf c.val :: (toBe 2 reserve ++ toBe 2 cap)) s
      = if cap < reserve ∨ s.poolSize < cap ∨ s.poolSize < reserve + s.otherReserves c then .error .range
        else .ok (s.applyAllowance c reserve cap, [.channel c, .num 2 reserve, .num 2 cap, .num 2 (s.use c)]) := by
    simp only [toBe_two, List.cons_append, List.nil_append, doSetAllowance, be_pair hreserve, be_pair hcap,
      channelOf_byteOf]
  have hgrain : doSetLoadGrain (toBe 2 g) s
      = if g = 64 ∨ g = 128 ∨ g = 256 then .ok (s.applyGrain g, [.num 2 g]) else .error .range := by
    simp only [toBe_two, doSetLoadGrain, be_pair hg]
  have hok : ¬(cap < reserve ∨ s.poolSize < cap ∨ s.poolSize < reserve + s.otherReserves c) ↔ (reserve ≤ cap
      ∧ cap ≤ 1024 - s.store.split ∧ reserve + (allChannels.map fun d => if d = c then 0 else (s.chan d).reserve).sum
        ≤ 1024 - s.store.split) := by
    have hpool : s.poolSize = 1024 - s.store.split := rfl
    rw [hpool, State.otherReserves]
    omega
  refine ⟨fun hno => ?_, fun hyes => ?_, fun hyes => ?_, fun hno => ?_⟩
  · exact commandStep_refused h (by rw [hallowance, if_pos (not_not.1 (mt hok.1 hno))])
  · exact commandStep_accepted h (by rw [hallowance, if_neg (hok.2 hyes)]; rfl)
  · exact commandStep_accepted h (by rw [hgrain, if_pos hyes]; rfl)
  · exact commandStep_refused h (by rw [hgrain, if_neg (by tauto)])

/-- Settles O23. -/
theorem readStoreReports : Obligations.ReadStoreReports := by
  unfold Obligations.ReadStoreReports
  intro s h
  obtain ⟨-, -, -, ho⟩ := id h
  have hareas : s.store.areas.toList.flatMap Area.fields = (List.finRange 32).flatMap fun a => (s.area a).fields := by
    rw [toList_eq_map_vget, List.flatMap_map]
    rfl
  have hread : doReadStore [] s = .ok (s, [.num 2 s.store.split, .num 2 s.poolSize, .num 2 s.freeCount]
      ++ allChannels.flatMap (fun c => [.num 2 (s.chan c).reserve, .num 2 (s.chan c).cap, .num 2 (s.use c)])
      ++ (List.finRange 32).flatMap fun a => (s.area a).fields) := hareas ▸ rfl
  refine ⟨commandStep_silent h hread ho, ?_⟩
  have hchannel (c : ChannelNo) : (fieldBytes [.num 2 (s.chan c).reserve, .num 2 (s.chan c).cap,
      .num 2 (s.use c)]).length = 6 := rfl
  have harea (a : AreaNo) : (fieldBytes [.num 2 (s.area a).first, .num 2 (s.area a).last, .num 2 (s.area a).capacity,
      .num 2 (s.area a).length, .num 1 (s.area a).state.code, .num 1 (s.area a).onAir]).length = 10 := rfl
  have hhead : (fieldBytes [.num 2 s.store.split, .num 2 (1024 - s.store.split),
      .num 2 s.store.free.length]).length = 6 := rfl
  rw [List.length_cons, fieldBytes_append, fieldBytes_append, List.length_append, List.length_append, hhead,
    fieldBytes_flatMap_length hchannel, fieldBytes_flatMap_length harea, List.length_finRange, allChannels,
    List.length_finRange]

/-- Settles O24. -/
theorem freedMessageReturnsItsBlocks : Obligations.FreedMessageReturnsItsBlocks := by
  unfold Obligations.FreedMessageReturnsItsBlocks
  intro s h
  have hdesc (g : Handle) : (s.freeMessage h).desc g = if g = h then Descriptor.reset else s.desc g :=
    State.desc_setDesc ..
  have hchan (c : ChannelNo) : (s.freeMessage h).chan c
      = if c = (s.desc h).channel then (s.chan (s.desc h).channel).detach h else s.chan c :=
    s.chan_modChan (s.desc h).channel c (·.detach h)
  have huse := s.use_freeMessage h
  refine ⟨by rw [hdesc, if_pos rfl]; rfl, by rw [hdesc, if_pos rfl]; rfl, fun g hg => by rw [hdesc, if_neg hg], rfl,
    fun c hc => by rw [hchan, if_neg hc], by rw [hchan, if_pos rfl]; rfl, List.length_append, ?_, fun c hc => ?_⟩
  · simpa using huse (s.desc h).channel
  · simpa [hc.symm] using huse c

/-- Settles O25. -/
theorem waitingGrantIsJudged : Obligations.WaitingGrantIsJudged := by
  unfold Obligations.WaitingGrantIsJudged
  intro s
  refine ⟨fun l h c hl ht hw => ?_, State.rejudgeGrant_of_none, fun l => State.rejudgeGrant_of_not_waiting,
    fun l a => State.rejudgeGrant_of_bulletin⟩
  have hstays : s.setLoad (some { l with waiting := true }) = s :=
    s.setLoad_current (by rw [hl]; cases l; exact congrArg (fun w => some _) hw)
  rw [State.rejudgeGrant_of_waiting hl hw, State.judgeGrant_eq hl ht, hstays]
  rfl

/-- Settles O27. -/
theorem openBulletinGrantsTheWholeLength : Obligations.OpenBulletinGrantsTheWholeLength := by
  unfold Obligations.OpenBulletinGrantsTheWholeLength
  intro s a n h hn
  obtain ⟨-, -, -, ho⟩ := id h
  have hopen : doOpenBulletin (byteOf a.val :: toBe 2 n) s
      = if n = 0 then .error .range
        else if s.loadUnit.current.isSome then .error .loadOpen
        else if (s.area a).state = .undefined then .error .state
        else if 0 < (s.area a).onAir then .error .busy
        else Except.ok (s.applyOpen a n, [.num 1 a.val, .num 2 (min n (s.area a).capacity), .num 2 (min n (s.area a).capacity),
          .flag (decide ((s.area a).capacity < n))]) := by
    simp only [toBe_two, doOpenBulletin, be_pair hn, areaOf_byteOf]
  dsimp only
  by_cases h0 : n = 0
  · rw [if_pos h0]
    exact commandStep_refused h (by rw [hopen, if_pos h0])
  by_cases h1 : s.loadUnit.current ≠ none
  · rw [if_neg h0, if_pos h1]
    exact commandStep_refused h (by rw [hopen, if_neg h0, if_pos (Option.isSome_iff_ne_none.2 h1)])
  rw [if_neg h0, if_neg h1]
  rw [if_neg h0, if_neg (mt Option.isSome_iff_ne_none.1 h1)] at hopen
  by_cases h2 : (s.area a).state = .undefined
  · rw [if_pos h2]
    exact commandStep_refused h (by rw [hopen, if_pos h2])
  by_cases h3 : 0 < (s.area a).onAir
  · rw [if_neg h2, if_pos h3]
    exact commandStep_refused h (by rw [hopen, if_neg h2, if_pos h3])
  · rw [if_neg h2, if_neg h3]
    exact commandStep_silent h (by rw [hopen, if_neg h2, if_neg h3]; rfl) ho

/-- Settles O31. -/
theorem abandonLoadEndsTheLoad : Obligations.AbandonLoadEndsTheLoad := by
  unfold Obligations.AbandonLoadEndsTheLoad
  intro s h
  obtain ⟨-, -, -, ho⟩ := id h
  refine ⟨fun hl => commandStep_refused h ?_, fun l hl => ⟨fun g c ht => commandStep_silent h ?_ ?_,
    fun a ht => commandStep_silent h ?_ ?_⟩⟩
  · simp only [doAbandonLoad, onEmpty, hl]
  · simp only [doAbandonLoad, onEmpty, hl, State.abandon, ht, OpenLoad.abandonFields]
    rfl
  · exact ho
  · simp only [doAbandonLoad, onEmpty, hl, State.abandon, ht, OpenLoad.abandonFields]
    rfl
  · exact ho

/-- Settles O26. -/
theorem declareMessageOpensALoad : Obligations.DeclareMessageOpensALoad := by
  unfold Obligations.DeclareMessageOpensALoad
  refine ⟨fun s body h hlen hbad => commandStep_refused h ?_, fun s d c h hc hfits => ?_⟩
  · match body, hlen with
    | [b, n1, n0, d2, d1, d0, k, l1, l0, p, e1, e0, m3, m2, m1, m0, f], _ =>
      rcases hbad with hb | hk | hp | hf
      · exact doDeclareMessage_range (channelOf_above hb) rfl
      · simp only [doDeclareMessage, declarationOf_eq_none (.inl (classOf_above (b := k) hk))]
      · simp only [doDeclareMessage, declarationOf_eq_none (.inr (.inl (flagOf_above (b := p) hp)))]
      · simp only [doDeclareMessage, declarationOf_eq_none (.inr (.inr (flagOf_above (b := f) hf)))]
  · obtain ⟨-, -, -, ho⟩ := id h
    have hread := doDeclareMessage_body (s := s) hc hfits
    have hunset : (d.expiry.isSome && !s.clock.isSet) = true ↔ d.expiry ≠ none ∧ s.clock.isSet = false := by
      simp [Option.isSome_iff_ne_none]
    have hload : s.loadUnit.current.isSome = true ↔ s.loadUnit.current ≠ none := Option.isSome_iff_ne_none
    simp only [← s.duplicate_iff c d.number, ← hunset]
    have hdeclare : s.declare d = if !d.inRange then .error .range
        else if s.loadUnit.current.isSome then .error .loadOpen
        else if d.expiry.isSome && !s.clock.isSet then .error .clockUnset
        else if s.duplicate c d.number then .error .duplicate
        else match s.lowestFree with
          | none => .error .tableFull
          | some h => .ok (s.applyDeclare d h c,
            [.handle h, .num 2 (min d.length maxMessage), .num 2 (s.applyDeclare d h c).credit]) := by
      simp only [State.declare, hc] <;> rfl
    have hjudge := hread.trans hdeclare
    have hrange {p : Prop} : ¬(d.number = 0 ∨ 99999 < d.dest ∨ d.length = 0 ∨ ∃ e, d.expiry = some e ∧ 86399999 < e.2)
        → ¬(!d.inRange) = true := fun hno => by simp [d.inRange_iff.2 hno]
    refine ⟨fun hbad => ?_, fun hbad hl => ?_, fun hbad hl hu => ?_, fun hbad hl hu hd => ?_, fun hbad hl hu hd hf => ?_,
      fun g hbad hl hu hd hfree hchain hlow => ?_⟩
    · have hno : (!d.inRange) = true := by simpa using mt d.inRange_iff.1 (not_not.2 hbad)
      exact commandStep_refused h (by rw [hjudge, if_pos hno])
    · exact commandStep_refused h (by rw [hjudge, if_neg (hrange (p := True) hbad), if_pos (hload.2 hl)])
    · exact commandStep_refused h (by
        rw [hjudge, if_neg (hrange (p := True) hbad), if_neg (by simp [hl]), if_pos hu])
    · exact commandStep_refused h (by
        rw [hjudge, if_neg (hrange (p := True) hbad), if_neg (by simp [hl]), if_neg hu, if_pos hd])
    · exact commandStep_refused h (by
        rw [hjudge, if_neg (hrange (p := True) hbad), if_neg (by simp [hl]), if_neg hu, if_neg hd,
          State.lowestFree_eq_none_iff.2 hf])
    · rw [if_neg (hrange (p := True) hbad), if_neg (by simp [hl]), if_neg hu, if_neg hd,
        State.lowestFree_eq_some hfree hlow] at hjudge
      refine commandStep_silent h (hjudge.trans ?_) ho
      dsimp only
      rw [State.applyDeclare_eq hchain]
      rfl

end Sys2Proof.Proofs
end

section
/-! TEXT (sections 2.3, 3.2, 3.3 and 4.5): the cleaned symbols, the cells in which they lie, and what a TEXT does to its
load. -/

namespace Sys2Proof.Machine

/-! ### The symbols kept (R16) -/

/-- The symbols that a TEXT stores: codes 4 to 6 removed, codes above 63 replaced by the query. -/
def cleanedText (bs : List Byte) : List Byte :=
  (bs.filter fun b => decide (b.toNat < 4 ∨ 6 < b.toNat)).map fun b => if b.toNat < 64 then b else 46

/-- The cells after some symbols are written at the indices from n on. -/
def writeAll (address : Nat → Nat) : Memory → Nat → List Byte → Memory
  | m, _, [] => m
  | m, n, y :: ys => writeAll address (m.write (address n) y) (n + 1) ys

theorem cleaned_eq (b : Byte) : cleaned b.toNat
    = if b.toNat < 4 ∨ 6 < b.toNat then some (if b.toNat < 64 then b else 46 : Byte).toNat else none := by
  unfold cleaned
  by_cases hkept : b.toNat < 4 ∨ 6 < b.toNat
  · rw [if_pos hkept]
    by_cases hlow : b.toNat < 64
    · rw [if_pos (by omega), if_pos hlow]
    · rw [if_neg (by omega), if_neg (by omega), if_neg hlow]
      rfl
  · rw [if_neg (by omega), if_pos (by omega), if_neg hkept]

/-- R54 step 1. Cleaning and storing is writing the symbols kept. -/
theorem storeText_eq (address : Nat → Nat) (bs : List Byte) (m : Memory) (n : Nat) :
    storeText address m n bs = (writeAll address m n (cleanedText bs), n + (cleanedText bs).length) := by
  induction bs generalizing m n with
  | nil => rfl
  | cons b bs ih =>
    unfold storeText
    rw [cleaned_eq]
    by_cases hkept : b.toNat < 4 ∨ 6 < b.toNat
    · have hcons : cleanedText (b :: bs) = (if b.toNat < 64 then b else 46) :: cleanedText bs := by
        simp only [cleanedText, List.filter_cons_of_pos (p := fun b : Byte => decide (b.toNat < 4 ∨ 6 < b.toNat))
          (decide_eq_true hkept), List.map_cons]
      rw [if_pos hkept, hcons]
      dsimp only
      rw [ih, BitVec.ofNat_toNat, BitVec.setWidth_eq, writeAll, List.length_cons]
      congr 1
      omega
    · have hskip : cleanedText (b :: bs) = cleanedText bs := by
        simp only [cleanedText, List.filter_cons_of_neg (p := fun b : Byte => decide (b.toNat < 4 ∨ 6 < b.toNat))
          (by simpa using hkept)]
      rw [if_neg hkept, hskip]
      exact ih m n

section
variable {address : Nat → Nat}

theorem writeAll_wf {m : Memory} (h : m.wf = true) (n : Nat) (ys : List Byte) : (writeAll address m n ys).wf = true := by
  induction ys generalizing m n with
  | nil => exact h
  | cons y ys ih => exact ih (Memory.wf_write h ..) (n + 1)

/-- A cell that none of the indices has keeps its symbol. -/
theorem read_writeAll_other {m : Memory} (h : m.wf = true) {n a : Nat} {ys : List Byte}
    (ha : ∀ i, i < ys.length → a ≠ address (n + i)) : (writeAll address m n ys).read a = m.read a := by
  induction ys generalizing m n with
  | nil => rfl
  | cons y ys ih =>
    have hfirst : a ≠ address n := ha 0 (Nat.succ_pos _)
    rw [writeAll, ih (Memory.wf_write h ..), Memory.read_write h, if_neg hfirst]
    intro i hi
    have hi' : i + 1 < (y :: ys).length := Nat.succ_lt_succ hi
    have := ha (i + 1) hi'
    rwa [Nat.add_assoc, Nat.add_comm 1]

/-- Where no two indices share a cell, each index reads its symbol. -/
theorem read_writeAll {m : Memory} (h : m.wf = true) {n : Nat} {ys : List Byte}
    (hinj : ∀ i j, i < j → j < ys.length → address (n + i) ≠ address (n + j)) {i : Nat} (hi : i < ys.length) :
    (writeAll address m n ys).read (address (n + i)) = ys.getD i 0 := by
  induction ys generalizing m n i with
  | nil => exact absurd hi (Nat.not_lt_zero _)
  | cons y ys ih =>
    have hshift (i : Nat) : n + (i + 1) = n + 1 + i := by omega
    cases i with
    | zero =>
      have hlater : ∀ j, j < ys.length → address (n + 0) ≠ address (n + 1 + j) := fun j hj =>
        hshift j ▸ hinj 0 (j + 1) (Nat.succ_pos _) (Nat.succ_lt_succ hj)
      rw [writeAll, read_writeAll_other (Memory.wf_write h ..) hlater, Memory.read_write h]
      simp
    | succ i =>
      rw [writeAll, hshift i]
      refine ih (Memory.wf_write h ..) (fun j k hjk hk => ?_) (Nat.lt_of_succ_lt_succ hi)
      rw [← hshift, ← hshift]
      exact hinj (j + 1) (k + 1) (Nat.succ_lt_succ hjk) (Nat.succ_lt_succ hk)

end

/-! ### The cells of a text (R32, R36) -/

section
variable {s : State}

theorem cellAddress_eq (b i : Nat) : cellAddress b i = 64 * b + i % 64 := by
  rw [cellAddress, Nat.mul_comm]
  rfl

theorem cellAddress_inj {b c i j : Nat} (h : cellAddress b i = cellAddress c j) : b = c ∧ i % 64 = j % 64 := by
  rw [cellAddress_eq, cellAddress_eq] at h
  omega

theorem areaAddress_inj {first i j : Nat} (h : areaAddress first i = areaAddress first j) : i = j := by
  have hcell : Config.blockCells = 64 := rfl
  simp only [areaAddress, hcell] at h
  obtain ⟨hblock, hrest⟩ := cellAddress_inj h
  omega

theorem chainAddress_eq {chain : List BlockNo} {i : Nat} {b : BlockNo} (h : chain[i / 64]? = some b) :
    chainAddress chain i = 64 * b.val + i % 64 := by
  have hcell : Config.blockCells = 64 := rfl
  rw [chainAddress, cellAddress_eq, hcell, List.getD_eq_getElem?_getD, h]
  rfl

/-- The blocks of the chains, each in one place. -/
theorem State.chains_nodup (h : s.blocksOk) : ((List.finRange 256).flatMap fun g => (s.desc g).chain).Nodup := by
  have hpool : (poolBlocks s.store.split).Nodup := (List.nodup_finRange 1024).sublist (List.drop_sublist ..)
  have hall := (h.1.nodup_iff.2 hpool).of_append_right
  rwa [toList_eq_map_vget, List.flatMap_map] at hall

theorem State.chain_nodup (h : s.blocksOk) (g : Handle) : (s.desc g).chain.Nodup :=
  (List.nodup_flatMap.1 (State.chains_nodup h)).1 g (List.mem_finRange g)

theorem State.chain_disjoint (hs : s.blocksOk) {g h : Handle} (hne : g ≠ h) {b : BlockNo}
    (hg : b ∈ (s.desc g).chain) (hh : b ∈ (s.desc h).chain) : False := by
  have hpair := (List.nodup_flatMap.1 (State.chains_nodup hs)).2
  rcases Nat.lt_or_gt_of_ne (Fin.val_ne_of_ne hne) with hlt | hlt
  · exact List.pairwise_iff_getElem.1 hpair g h (by simp) (by simp) hlt (by simpa using hg) (by simpa using hh)
  · exact List.pairwise_iff_getElem.1 hpair h g (by simp) (by simp) hlt (by simpa using hh) (by simpa using hg)

/-- A block of a chain is a block of the pool. -/
theorem State.split_le_of_mem_chain (hs : s.blocksOk) {g : Handle} {b : BlockNo} (hb : b ∈ (s.desc g).chain) :
    s.store.split ≤ b.val := by
  have hmem : b ∈ s.store.free ++ s.descs.toList.flatMap (·.chain) := by
    rw [toList_eq_map_vget, List.flatMap_map]
    exact List.mem_append_right _ (List.mem_flatMap.2 ⟨g, List.mem_finRange g, hb⟩)
  have hpool := List.mem_map_of_mem (f := Fin.val) (hs.1.mem_iff.1 hmem)
  rw [poolBlocks_val, List.mem_range'_1] at hpool
  exact hpool.1

/-- Index i of a message with blocks enough lies in a block of its chain. -/
theorem getElem?_chain {chain : List BlockNo} {i : Nat} (h : i < 64 * chain.length) :
    ∃ b, chain[i / 64]? = some b ∧ b ∈ chain := by
  have hi : i / 64 < chain.length := by omega
  exact ⟨chain[i / 64], List.getElem?_eq_getElem hi, List.getElem_mem hi⟩

/-- No two places of the messages share a cell. -/
theorem State.chainAddress_ne (hs : s.blocksOk) {g h : Handle} {i j : Nat} (hne : (g, i) ≠ (h, j))
    (hi : i < 64 * (s.desc g).chain.length) (hj : j < 64 * (s.desc h).chain.length) :
    chainAddress (s.desc g).chain i ≠ chainAddress (s.desc h).chain j := by
  obtain ⟨b, hb, hbmem⟩ := getElem?_chain hi
  obtain ⟨b', hb', hbmem'⟩ := getElem?_chain hj
  rw [chainAddress_eq hb, chainAddress_eq hb']
  intro heq
  have hblock : b = b' := Fin.ext (by omega)
  subst hblock
  by_cases hgh : g = h
  · subst hgh
    have hsame : i / 64 = j / 64 :=
      (State.chain_nodup hs g).getElem_inj_iff.1 (Option.some.inj ((List.getElem?_eq_getElem (by omega)).symm.trans
        (hb.trans (hb'.symm.trans (List.getElem?_eq_getElem (by omega))))))
    exact hne (by rw [show i = j by omega])
  · exact State.chain_disjoint hs hgh hbmem hbmem'

/-! ### The load after a TEXT (R54) -/

variable {l : OpenLoad} {bs : List Byte}

/-- The record of the open load after a TEXT, its counts said by the symbols removed and replaced. -/
theorem OpenLoad.after_eq (l : OpenLoad) (stored : Nat) (bs : List Byte) : l.after stored bs = { l with
    received := l.received + bs.length, outstanding := l.outstanding - bs.length, stored := stored
    stripped := l.stripped + (bs.filter fun b => decide (4 ≤ b.toNat ∧ b.toNat ≤ 6)).length
    substituted := l.substituted + (bs.filter fun b => decide (64 ≤ b.toNat)).length } := by
  rw [OpenLoad.after, List.countP_eq_length_filter, List.countP_eq_length_filter]
  rfl

/-- A TEXT of the right size and within the credit of the open load is taken (R53, R54). -/
theorem doText_eq (hlo : 1 ≤ bs.length) (hhi : bs.length ≤ 256) (hl : s.loadUnit.current = some l)
    (hcredit : bs.length ≤ l.outstanding) :
    doText bs s = .ok ((s.takeText l bs).afterText,
      [.num 2 (l.received + bs.length), .num 2 (l.outstanding - bs.length),
        .num 2 (storeText (s.targetAddress l.target) s.store.cells l.stored bs).2]) := by
  have hsize : ¬(bs.length = 0 ∨ 256 < bs.length) := by omega
  simp only [doText, if_neg hsize, hl, if_neg (Nat.not_lt.2 hcredit)]
  rfl

/-- The state after a TEXT is taken into a telex load. -/
theorem State.takeText_telex {h : Handle} {c : ChannelNo} (ht : l.target = .telex h c) :
    s.takeText l bs = (State.setDesc { s with store := { s.store with
        cells := (storeText (s.targetAddress l.target) s.store.cells l.stored bs).1 } } h
      { s.desc h with
        length := (storeText (s.targetAddress l.target) s.store.cells l.stored bs).2
        stripped := l.stripped + (bs.filter fun b => decide (4 ≤ b.toNat ∧ b.toNat ≤ 6)).length
        substituted := l.substituted + (bs.filter fun b => decide (64 ≤ b.toNat)).length }).setLoad
      (some (l.after (storeText (s.targetAddress l.target) s.store.cells l.stored bs).2 bs)) := by
  have ht' (n : Nat) : (l.after n bs).target = .telex h c := ht
  unfold State.takeText State.followLoad
  dsimp only
  rw [ht', OpenLoad.after_eq]
  rfl

theorem State.takeText_bulletin {a : AreaNo} (ht : l.target = .bulletin a) :
    s.takeText l bs = (State.setArea { s with store := { s.store with
        cells := (storeText (s.targetAddress l.target) s.store.cells l.stored bs).1 } } a
      { s.area a with length := (storeText (s.targetAddress l.target) s.store.cells l.stored bs).2 }).setLoad
      (some (l.after (storeText (s.targetAddress l.target) s.store.cells l.stored bs).2 bs)) := by
  have ht' (n : Nat) : (l.after n bs).target = .bulletin a := ht
  unfold State.takeText State.followLoad
  dsimp only
  rw [ht', OpenLoad.after_eq]
  rfl

/-- A change of a descriptor that leaves its channel and its chain leaves every use (R37). -/
theorem State.use_setDesc_same {h : Handle} {d : Descriptor} (hchannel : d.channel = (s.desc h).channel)
    (hchain : d.chain = (s.desc h).chain) (c : ChannelNo) : (s.setDesc h d).use c = s.use c := by
  have hadd := s.use_setDesc_add h d c
  rw [hchannel, hchain] at hadd
  omega

theorem State.afterText_of_more (hl : s.loadUnit.current = some l) (hmore : l.received ≠ l.clamped) :
    s.afterText = if l.outstanding = 0 then s.judgeGrant true else s := by
  simp only [State.afterText, hl, if_neg hmore]

end

end Sys2Proof.Machine

namespace Sys2Proof.Proofs

open Sys2Proof.Machine

/-- Settles O28. -/
theorem textCleansAndStores : Obligations.TextCleansAndStores := by
  unfold Obligations.TextCleansAndStores
  refine ⟨fun address m n bs => ?_, fun s h c i b hb => ?_, fun s a i => ?_, fun s g h c d i j hs hi => ⟨fun hne hj => ?_,
    fun a ha => ?_⟩⟩
  · intro kept ys r hm
    have hr : r = (writeAll address m n ys, n + ys.length) := storeText_eq address bs m n
    rw [hr]
    exact ⟨rfl, writeAll_wf hm n ys, fun a => read_writeAll_other hm, fun hinj i => read_writeAll hm hinj⟩
  · have haddress := chainAddress_eq hb
    exact ⟨haddress, congrArg (fun a => (s.store.cells.read a).toNat) haddress⟩
  · have haddress : areaAddress (s.area a).first i = 64 * ((s.area a).first + i / 64) + i % 64 := cellAddress_eq ..
    exact ⟨haddress, congrArg (fun a => (s.store.cells.read a).toNat) haddress, fun j hne heq => hne (areaAddress_inj heq)⟩
  · exact State.chainAddress_ne hs hne hi hj
  · obtain ⟨b, hb, hbmem⟩ := getElem?_chain hi
    have hpool := State.split_le_of_mem_chain hs hbmem
    intro heq
    have hcells : chainAddress (s.desc g).chain i = areaAddress (s.area a).first j := heq
    rw [chainAddress_eq hb, areaAddress, cellAddress_eq] at hcells
    have hcell : Config.blockCells = 64 := rfl
    rw [hcell] at hcells
    omega

/-- Settles O29. -/
theorem textIsTakenWithinCredit : Obligations.TextIsTakenWithinCredit := by
  unfold Obligations.TextIsTakenWithinCredit
  intro s bs hs hlo hhi
  obtain ⟨-, -, -, ho⟩ := id hs
  have hsize : ¬(bs.length = 0 ∨ 256 < bs.length) := by omega
  refine ⟨fun hl => commandStep_refused hs (by simp only [doText, if_neg hsize, hl]), fun l hl => ⟨fun hover => ?_,
    fun hcredit hmore => ?_⟩⟩
  · exact commandStep_refused hs (by simp only [doText, if_neg hsize, hl, if_pos hover])
  · intro r stripped substituted m u fs
    have hm : l.after r.2 bs = m := OpenLoad.after_eq ..
    have hdo : doText bs s = .ok ((s.takeText l bs).afterText, fs) := doText_eq hlo hhi hl hcredit
    refine ⟨fun a ht => ?_, fun h c ht => ?_⟩
    · have htaken : s.takeText l bs = u.setArea a { s.area a with length := r.2 } :=
        (State.takeText_bulletin ht).trans (by rw [hm]; rfl)
      have hrest : (s.takeText l bs).afterText = s.takeText l bs := by
        have hcurrent : (s.takeText l bs).loadUnit.current = some m := by rw [htaken]; rfl
        rw [State.afterText_of_more hcurrent hmore]
        split
        · simp only [State.judgeGrant, hcurrent]
          split
          · rfl
          · cases ht.symm.trans ‹m.target = _›
        · rfl
      exact commandStep_silent hs (by rw [hdo, hrest, htaken]) ho
    · intro d
      have htaken : s.takeText l bs = u.setDesc h d := (State.takeText_telex ht).trans (by rw [hm]; rfl)
      have hcurrent : (u.setDesc h d).loadUnit.current = some m := rfl
      have hafter := State.afterText_of_more hcurrent hmore
      rw [htaken] at hdo
      refine ⟨fun hlt => ?_, fun heq => ?_⟩
      · have hleft : ¬m.outstanding = 0 := by
          have : m.outstanding = l.outstanding - bs.length := rfl
          omega
        rw [if_neg hleft] at hafter
        exact commandStep_silent hs (by rw [hdo, hafter]) ho
      · have hgone : m.outstanding = 0 := by
          have : m.outstanding = l.outstanding - bs.length := rfl
          omega
        rw [if_pos hgone, State.judgeGrant_eq hcurrent ht] at hafter
        have huse : (u.setDesc h d).use = s.use := funext fun e => State.use_setDesc_same (s := s) (h := h) (d := d) rfl rfl e
        have husable : (u.setDesc h d).usable c = min ((s.chan c).cap - s.use c) (s.store.free.length
            - (allChannels.map fun e => if e = c then 0 else (s.chan e).reserve - s.use e).sum) := by
          simp only [State.usable, State.othersUnused, huse]
          rfl
        have hblocks : (u.setDesc h d).grantBlocks m h
            = (m.received + min s.loadUnit.grain (l.clamped - m.received) + 63) / 64 - d.chain.length := by
          have hdesc : (u.setDesc h d).desc h = d := by simp
          rw [State.grantBlocks, hdesc]
          rfl
        have hsplit : u.setDesc h d = (State.setDesc { s with store := { s.store with cells := r.1 } } h d).setLoad
          (some m) := rfl
        rw [husable] at hafter
        refine ⟨fun hle => ?_, fun hlt => ?_⟩
        · rw [hblocks, if_pos hle, if_pos rfl, hsplit, State.granted_setDesc, ← hsplit, hblocks] at hafter
          refine commandStep_accepted hs (hdo.trans ?_)
          rw [hafter, State.emit]
          simp only [State.setDesc, ho]
          rfl
        · rw [hblocks, if_neg (Nat.not_le.2 hlt)] at hafter
          exact commandStep_silent hs (hdo.trans (by rw [hafter]; rfl)) ho

end Sys2Proof.Proofs
end

section
/-! The TEXT that completes a load (section 4.6): what its completion makes of a message and of an area. -/

namespace Sys2Proof.Machine

section
variable {s : State} {l : OpenLoad}

/-- A cut request changes channels alone. -/
theorem State.cutTelex_frame (s : State) (c : ChannelNo) : ∃ chs, s.cutTelex c = { s with channels := chs } := by
  unfold State.cutTelex
  split <;> exact ⟨_, rfl⟩

theorem State.cutBulletin_frame (s : State) (c : ChannelNo) : ∃ chs, s.cutBulletin c = { s with channels := chs } := by
  unfold State.cutBulletin
  split <;> exact ⟨_, rfl⟩

theorem Channel.state_setQueue (ch : Channel) (k : MsgClass) (q : List Handle) : (ch.setQueue k q).state = ch.state := by
  cases k <;> rfl

theorem State.afterText_of_all (hl : s.loadUnit.current = some l) (hall : l.received = l.clamped) :
    s.afterText = s.completeLoad l := by
  simp only [State.afterText, hl, if_pos hall]

/-- The fields of a LOAD notice behind its target (R58). -/
def OpenLoad.tailFields (l : OpenLoad) : List Field :=
  [.num 2 l.clamped, .num 2 l.stored, .num 2 l.stripped, .num 2 l.substituted, .flag l.truncated]

theorem State.loadNotice_telex {h : Handle} {c : ChannelNo} (ht : l.target = .telex h c) (outcome number : Nat) :
    s.loadNotice l outcome number = s.emit .load (some c)
      ([.num 1 outcome, .optHandle (some h), .opt 1 none, .opt 2 (some number)] ++ l.tailFields) := by
  unfold State.loadNotice
  rw [ht]
  rfl

theorem State.loadNotice_bulletin {a : AreaNo} (ht : l.target = .bulletin a) (outcome number : Nat) :
    s.loadNotice l outcome number = s.emit .load none
      ([.num 1 outcome, .optHandle none, .opt 1 (some a.val), .opt 2 none] ++ l.tailFields) := by
  unfold State.loadNotice
  rw [ht]
  rfl

/-- R57. A completed bulletin load. -/
theorem State.completeLoad_bulletin {a : AreaNo} (ht : l.target = .bulletin a) :
    s.completeLoad l = ((s.setArea a { s.area a with state := if 0 < l.stored then .ready else .empty }).setLoad none).emit
      .load none ([.num 1 (if 0 < l.stored then 2 else 3), .opt 1 none, .opt 1 (some a.val), .opt 2 none]
        ++ l.tailFields) := by
  unfold State.completeLoad
  rw [ht]
  dsimp only
  split <;> exact State.loadNotice_bulletin ht ..

/-- R56. A completed telex load without text. -/
theorem State.completeLoad_empty {h : Handle} {c : ChannelNo} (ht : l.target = .telex h c) (hno : l.stored = 0) :
    s.completeLoad l = ((s.freeMessage h).setLoad none).emit .load (some c)
      ([.num 1 1, .opt 1 (some h.val), .opt 1 none, .opt 2 (some (s.desc h).number)] ++ l.tailFields) := by
  unfold State.completeLoad
  rw [ht]
  dsimp only
  rw [if_neg (by omega)]
  exact State.loadNotice_telex ht ..

theorem State.completeLoad_text {h : Handle} {c : ChannelNo} (ht : l.target = .telex h c) (htext : 0 < l.stored) :
    s.completeLoad l = s.completeTelex l h c := by
  unfold State.completeLoad
  rw [ht]
  exact if_pos htext

/-- R126, R127. What a message that becomes READY does to what its channel keys. -/
def State.cutFor (s : State) (k : MsgClass) (c : ChannelNo) : State :=
  if k = .relay ∧ (s.chan c).state = .onAir then (s.cutTelex c).cutBulletin c else s

theorem State.cutFor_frame (s : State) (k : MsgClass) (c : ChannelNo) : ∃ chs, s.cutFor k c = { s with channels := chs } := by
  unfold State.cutFor
  split
  · obtain ⟨chs, h⟩ := s.cutTelex_frame c
    obtain ⟨chs', h'⟩ := (s.cutTelex c).cutBulletin_frame c
    exact ⟨chs', by rw [h', h]⟩
  · exact ⟨s.channels, rfl⟩

theorem State.relayReady_eq (s : State) (k : MsgClass) (c : ChannelNo) :
    (if k = .relay then s.relayReady c else s) = s.cutFor k c := by
  unfold State.relayReady State.cutFor
  by_cases hk : k = .relay <;> simp [hk]

/-- R55, R75, R126. A message whose load is complete stands in its queue, cuts what it may, and may expire at once. -/
theorem State.completeTelex_of {s u v : State} {l : OpenLoad} {h : Handle} {c : ChannelNo}
    (hu : (((s.trimChain h).toTail h).setLoad none).loadNotice l 0 (s.desc h).number = u)
    (hv : u.cutFor (s.desc h).cls c = v) :
    s.completeTelex l h c = (if v.expired h then v.expire h else v).judgeKeyUp [c] := by
  rw [State.completeTelex, State.relayReady_eq, hu, hv]

theorem State.expired_iff {h : Handle} : s.expired h = true ↔
    ∃ e, (s.desc h).expiry = some e ∧ (s.desc h).state = .ready ∧ (s.desc h).firstKeyed = none ∧ e < s.now := by
  unfold State.expired
  cases (s.desc h).expiry <;> simp [and_assoc]

/-- A message that expires with no load open (R75). -/
theorem State.expire_eq {h : Handle} {e : Nat} (hl : s.loadUnit.current = none) (he : (s.desc h).expiry = some e) :
    s.expire h = { s.freeMessage h with outbox := s.outbox ++ [⟨.expired, some (s.desc h).channel, s.clock.ms,
      [.num 1 h.val, .num 2 (s.desc h).number, .num 3 (s.desc h).dest, .num 6 e]⟩] } := by
  have hjudge : (((s.freeMessage h).emit .expired (some (s.desc h).channel)
      (s.messageFields h ++ [.time ((s.desc h).expiry.getD 0)])).rejudgeGrant) = _ :=
    State.rejudgeGrant_of_none (show ((s.freeMessage h).emit ..).loadUnit.current = none from hl)
  rw [State.expire, State.freeWith, hjudge, he]
  rfl

end

end Sys2Proof.Machine

namespace Sys2Proof.Proofs

open Sys2Proof.Machine

/-- Settles O30. -/
theorem loadsComplete : Obligations.LoadsComplete := by
  unfold Obligations.LoadsComplete
  intro s bs l hs hlo hhi hl hcredit hall r stripped substituted tail fs
  obtain ⟨-, -, -, ho⟩ := id hs
  obtain ⟨m, hm⟩ : ∃ m, m = l.after r.2 bs := ⟨_, rfl⟩
  have hm' := hm.trans (OpenLoad.after_eq ..)
  have hstored : m.stored = r.2 := hm' ▸ rfl
  have htail : m.tailFields = tail := hm' ▸ rfl
  have htarget : m.target = l.target := hm' ▸ rfl
  have hfull : m.received = m.clamped := by
    rw [hm']
    exact hall
  have hdo : doText bs s = .ok ((s.takeText l bs).afterText, fs) := by
    have hread := doText_eq hlo hhi hl hcredit
    rwa [hall] at hread
  have hdone {u : State} (htaken : s.takeText l bs = u) (hu : u.loadUnit.current = some m) :
      doText bs s = .ok (u.completeLoad m, fs) := by
    rw [hdo, htaken, State.afterText_of_all hu hfull]
  refine ⟨fun a ht => ?_, fun h c ht => ?_⟩
  · have htaken := hdone ((State.takeText_bulletin ht).trans (by rw [← hm])) rfl
    refine commandStep_accepted hs (htaken.trans ?_)
    rw [State.completeLoad_bulletin (htarget.trans ht), hstored, htail]
    simp [State.setArea, State.setLoad, State.emit, State.area, ho]
    exact ⟨rfl, rfl⟩
  · rintro rfl d notice
    have htaken := hdone ((State.takeText_telex ht).trans (by rw [← hm])) rfl
    refine ⟨fun htext => ?_, fun hno => ?_⟩
    · intro n u v
      obtain ⟨w, hw⟩ : ∃ w, w = State.setLoad (State.setDesc { s with store := { s.store with cells := r.1 } } h
          { s.desc h with length := r.2, stripped := stripped, substituted := substituted }) (some m) := ⟨_, rfl⟩
      have hu : (((w.trimChain h).toTail h).setLoad none).loadNotice m 0 (w.desc h).number = u := by
        rw [State.loadNotice_telex (htarget.trans ht), htail, hw]
        have hn : ceilDiv r.2 Config.blockCells = n := ceilDiv_blockCells ..
        simp [State.trimChain, State.toTail, State.modDesc, State.modChan, State.returnBlocks, State.setDesc,
          State.setChan, State.setLoad, State.emit, State.desc, State.chan, ho, hn]
        rfl
      have hstate : (u.chan d.channel).state = (s.chan d.channel).state := by
        rw [State.chan_setChan, if_pos rfl, Channel.state_setQueue]
      have hcut : u.cutFor d.cls d.channel = v := by
        unfold State.cutFor
        rw [hstate]
      obtain ⟨chs, hframe⟩ := u.cutFor_frame d.cls d.channel
      have hv : v = { u with channels := chs } := hcut.symm.trans hframe
      have hdesc : v.desc h =
          { d with
            state := .ready, length := r.2, stripped := stripped, substituted := substituted, resume := 0
            chain := d.chain.take n } := by
        rw [hv]
        exact (State.desc_setDesc ..).trans (if_pos rfl)
      have hexpired : v.expired h = true ↔ ∃ e, d.expiry = some e ∧ d.firstKeyed = none ∧ e < s.now := by
        rw [State.expired_iff, hdesc]
        have hnow : v.now = s.now := by
          rw [hv]
          rfl
        simp [hnow]
      have hcls : (w.desc h).cls = d.cls := by
        rw [hw]
        simp [d]
      replace htaken : doText bs s = .ok ((if v.expired h then v.expire h else v).judgeKeyUp [d.channel], fs) := by
        rw [← State.completeTelex_of hu (hcls ▸ hcut), hw]
        exact htaken.trans (by rw [State.completeLoad_text (htarget.trans ht) (hstored ▸ htext)])
      refine ⟨fun hstays => commandStep_accepted hs (htaken.trans ?_), fun e he hnew hpast =>
        commandStep_accepted hs (htaken.trans ?_)⟩
      · rw [if_neg]
        rw [hexpired]
        rintro ⟨e, he, hnew, hpast⟩
        obtain hnone | hkeyed | ⟨e', he', hle⟩ := hstays
        · simp [hnone] at he
        · exact hkeyed hnew
        · cases he.symm.trans he'
          omega
      · rw [if_pos (hexpired.2 ⟨e, he, hnew, hpast⟩), State.expire_eq (hv ▸ rfl) ((congrArg _ hdesc).trans he)]
        rw [hdesc, hv]
        rfl
    · refine commandStep_accepted hs (htaken.trans ?_)
      rw [State.completeLoad_empty (htarget.trans ht) (hstored.trans hno), htail]
      simp [State.freeMessage, State.detach, State.returnBlocks, State.modChan, State.setDesc, State.setChan,
        State.setLoad, State.emit, State.desc, State.chan, ho]
      exact ⟨rfl, rfl⟩

end Sys2Proof.Proofs
end

section
/-! The reports of a message, a queue, a slot, a channel and its watch: they change nothing, but where a clear flag is
set or CLEAR-STATS is sent. -/

namespace Sys2Proof.Machine

section
variable {s : State}

/-! A body of one number is read as the number it was sent for. -/

theorem onChannel_byteOf (c : ChannelNo) (f : ChannelNo → Judged) : onChannel [byteOf c.val] f = f c := by
  simp only [onChannel, channelOf_byteOf]

theorem onSlot_byteOf (i : SlotNo) (f : SlotNo → Judged) : onSlot [byteOf i.val] f = f i := by
  simp only [onSlot, slotOf_byteOf]

theorem onWatch_byteOf (w : WatchNo) (f : WatchNo → Judged) : onWatch [byteOf w.val] f = f w := by
  simp only [onWatch, watchOf_byteOf]

theorem onHandle_byteOf (h : Handle) (f : Handle → Judged) : onHandle [byteOf h.val] f = f h := by
  simp only [onHandle, handleOf_byteOf]

/-- A list of fields as a field (R174): its count, then the fields of each element. -/
theorem listField_map {α : Type} (xs : List α) (f : α → List Field) :
    listField (xs.map f) = .num 2 xs.length :: xs.flatMap f := by
  simp [listField, List.flatMap_def]

theorem listField_map_singleton {α : Type} (xs : List α) (f : α → Field) :
    listField (xs.map fun x => [f x]) = .num 2 xs.length :: xs.map f := by
  rw [listField_map, ← List.map_eq_flatMap]

/-! ### Messages and queues -/

/-- R79. The load fields of a message for which no load is open. -/
theorem State.loadFields_of_none {h : Handle} (hno : ∀ l c, s.loadUnit.current = some l → l.target ≠ .telex h c) :
    s.loadFields h = [.opt 2 none, .opt 2 none, .opt 1 none] := by
  unfold State.loadFields
  split
  · next l hl =>
    split
    · next g c ht => exact if_neg fun (hgh : g = h) => hno l c hl (ht.trans (by rw [hgh]))
    · rfl
  · rfl

theorem State.loadFields_of_open {h : Handle} {l : OpenLoad} {c : ChannelNo} (hl : s.loadUnit.current = some l)
    (ht : l.target = .telex h c) :
    s.loadFields h = [.opt 2 (some l.received), .opt 2 (some l.outstanding), .opt 1 (some l.waiting.toNat)] := by
  simp only [State.loadFields, hl, ht, if_true]
  rfl

/-- R79, R174. A FREE descriptor reports its state and handle alone. -/
theorem Descriptor.fields_of_free {d : Descriptor} (h : Handle) (hfree : d.state = .free) :
    d.fields h = [.num 1 0, .opt 1 (some h.val), .opt 1 none, .opt 2 none, .opt 3 none, .opt 1 none, .opt 2 none,
      .opt 2 none, .num 1 0, .num 2 0, .opt 1 none, .opt 6 none, .opt 1 none, .opt 1 none, .opt 2 none, .opt 2 none,
      .opt 2 none, .opt 6 none, .opt 6 none, .opt 6 none, .opt 1 none] := by
  have hlive : decide (d.state ≠ .free) = false := by simpa using hfree
  rw [Descriptor.fields, hlive, hfree]
  rfl

/-- R79. A live descriptor reports every field of section 5.1. -/
theorem Descriptor.fields_of_live {d : Descriptor} (h : Handle) (hlive : d.state ≠ .free) :
    d.fields h = [.num 1 d.state.code, .opt 1 (some h.val), .opt 1 (some d.channel.val),
        .opt 2 (some d.number), .opt 3 (some d.dest), .opt 1 (some d.cls.code), .opt 2 (some d.length),
        .opt 2 (some d.resume), .num 1 1, .num 2 d.chain.length]
      ++ d.chain.map (fun b => .num 2 b.val)
      ++ [.opt 1 (some d.confirm.toNat), .opt 6 d.expiry, .opt 1 (some d.repeats), .opt 1 (some d.truncated.toNat),
        .opt 2 (some d.stripped), .opt 2 (some d.substituted), .opt 2 (some d.segments), .opt 6 d.firstKeyed,
        .opt 6 d.doneTime, .opt 6 d.ackDue, .opt 1 (some d.cancelRequested.toNat)] := by
  have hlive' : decide (d.state ≠ .free) = true := by simpa using hlive
  have hchain : optList (some (d.chain.map fun b => [.num 2 b.val]))
      = .num 1 1 :: .num 2 d.chain.length :: d.chain.map fun b => .num 2 b.val :=
    congrArg _ (listField_map_singleton ..)
  simp only [Descriptor.fields, hlive', if_true, hchain]
  rfl

/-- R80. -/
theorem doListQueue_of_listed {c : ChannelNo} {n : Nat} {hs : List Handle} (hn : n < 256)
    (hlisted : (s.chan c).listed n = some hs) :
    doListQueue [byteOf c.val, byteOf n] s
      = .ok (s, [.num 1 c.val, .num 1 n, .num 2 hs.length] ++ hs.map fun h => .num 1 h.val) := by
  have hbyte : (byteOf n).toNat = n := by
    simp only [byteOf, BitVec.toNat_ofNat]
    omega
  simp only [doListQueue, channelOf_byteOf, hbyte, hlisted, listField_map_singleton]
  rfl

theorem doListQueue_unlisted {c : ChannelNo} {b : Byte} (hb : 4 < b.toNat) :
    doListQueue [byteOf c.val, b] s = .error .range := by
  have hlisted : (s.chan c).listed b.toNat = none := by
    unfold Channel.listed
    split <;> first | omega | rfl
  simp only [doListQueue, channelOf_byteOf, hlisted]

/-! ### The interleaver -/

/-- READ-INTERLEAVER (R133), by the item in progress. -/
theorem doReadInterleaver_byteOf (c : ChannelNo) : doReadInterleaver [byteOf c.val] s
    = .ok (s, [.num 1 (s.chan c).item.code] ++ s.segmentFields (s.chan c).item ++ (s.chan c).item.markerFields
      ++ s.relayFields (s.chan c).item ++ (s.chan c).item.bulletinFields
      ++ [.optHandle (s.chan c).active, .opt 1 ((s.chan c).active.map fun h => (s.desc h).state.code),
        .has 1 (s.chan c).urgentRun, .has 1 (s.chan c).settings.urgentRun]
      ++ fitFields (s.chan c).lastFit) :=
  onChannel_byteOf c _

theorem optHandle_map_handle (f : Option FitRecord) :
    Field.optHandle (f.map (·.handle)) = .opt 1 (f.map fun r => r.handle.val) :=
  congrArg (Field.opt 1) (Option.map_map ..)

end

end Sys2Proof.Machine

namespace Sys2Proof.Proofs

open Sys2Proof.Machine

/-- Settles O32. -/
theorem messagesAndQueuesAreReported : Obligations.MessagesAndQueuesAreReported := by
  unfold Obligations.MessagesAndQueuesAreReported
  intro s h c b hs
  obtain ⟨-, -, -, ho⟩ := id hs
  have listed {n : Nat} {q : List Handle} (hn : n < 256) (hq : (s.chan c).listed n = some q) :=
    commandStep_silent (kind := 0x12) hs (doListQueue_of_listed hn hq) ho
  have reported {fs : List Field} (hfs : (s.desc h).fields h ++ s.loadFields h = fs) :
      exec (.readMessage [byteOf h.val]) s = .next (s.accepted 0x11 fs) :=
    commandStep_silent hs ((onHandle_byteOf h _).trans (hfs ▸ rfl)) ho
  refine ⟨listed (by omega) rfl, listed (by omega) rfl, listed (by omega) rfl, listed (by omega) rfl,
    listed (by omega) rfl, fun hb => commandStep_refused hs (doListQueue_unlisted hb), fun hfree hno => reported ?_,
    fun hlive => ⟨fun hno => reported ?_, fun l c hl ht => reported ?_⟩⟩
  · rw [Descriptor.fields_of_free h hfree, State.loadFields_of_none hno]
  · rw [Descriptor.fields_of_live h hlive, State.loadFields_of_none hno]
  · rw [Descriptor.fields_of_live h hlive, State.loadFields_of_open hl ht]

/-- Settles O39. -/
theorem slotEntriesAreReported : Obligations.SlotEntriesAreReported := by
  unfold Obligations.SlotEntriesAreReported
  intro s i hs
  obtain ⟨-, -, -, ho⟩ := id hs
  have reported {fs : List Field} (hfs : (s.slot i).fields i = fs) :
      exec (.readSlot [byteOf i.val]) s = .next (s.accepted 0x1A fs) :=
    commandStep_silent hs ((onSlot_byteOf i _).trans (hfs ▸ rfl)) ho
  refine ⟨fun hi => reported ?_, fun hi => reported ?_, fun hi => reported ?_⟩
  all_goals
    rw [Slot.fields, hi]
    rfl

/-- Settles O53. -/
theorem readReceiveReportsAndClears : Obligations.ReadReceiveReportsAndClears := by
  unfold Obligations.ReadReceiveReportsAndClears
  intro s c b hs
  obtain ⟨-, -, -, ho⟩ := id hs
  intro ch r fs
  have hfs : s.receiveFields c = fs := by
    have hremaining (h : Hold) : s.remaining h
        = if h.state = .pending then h.count else (h.endsAt - s.clock.elapsed + 999) / 1000 := by
      cases hh : h.state <;> simp [State.remaining, hh, ceilDiv]
    simp only [State.receiveFields, listField_map, hremaining]
    rfl
  refine ⟨commandStep_silent hs ?_ ho, commandStep_silent hs (t := s.modRx c fun _ => RxCounts.reset) ?_ ho,
    fun hb => commandStep_refused hs ?_⟩
  · simp only [doReadReceive, channelOf_byteOf, show flagOf 0 = some false from rfl, hfs]
    rfl
  · simp only [doReadReceive, channelOf_byteOf, show flagOf 1 = some true from rfl, hfs]
    rfl
  · simp only [doReadReceive, channelOf_byteOf, flagOf_above hb]

/-- Settles O45. -/
theorem channelReports : Obligations.ChannelReports := by
  unfold Obligations.ChannelReports
  intro s c hs
  obtain ⟨-, -, -, ho⟩ := id hs
  intro ch x t counts y f tail noSegment noMarker noRelay noMarkerNoRelay noBulletin
  have reported {fs : List Field} (hfs : doReadInterleaver [byteOf c.val] s = .ok (s, fs)) :
      y = .next (s.accepted 0x1C fs) := commandStep_silent hs hfs ho
  have item {i : Item} {fs : List Field} (hi : ch.item = i) (hfs : [.num 1 i.code] ++ s.segmentFields i
      ++ i.markerFields ++ s.relayFields i ++ i.bulletinFields ++ tail = fs) : y = .next (s.accepted 0x1C fs) := by
    refine reported ((doReadInterleaver_byteOf c).trans ?_)
    rw [← hfs, ← hi, List.append_assoc, fitFields, optHandle_map_handle]
    rfl
  refine ⟨commandStep_silent hs ((onChannel_byteOf c _).trans ?_) ho,
    commandStep_silent hs (onChannel_byteOf c _) ho, commandStep_silent hs (onChannel_byteOf c _) ho,
    commandStep_silent hs (onChannel_byteOf c _) ho, ⟨_, reported (doReadInterleaver_byteOf c)⟩,
    fun hi => item hi rfl, fun h cost n e cut hi => item hi rfl, fun closes p n hi => ?_, fun h hi => item hi rfl,
    fun hi => item hi rfl, fun h start e cut hi => item hi rfl, fun slot due a pos cut hi => item hi rfl⟩
  · rw [listField_map]
    rfl
  · cases closes <;> cases p <;> exact item hi rfl

end Sys2Proof.Proofs
end

section
/-! CANCEL, DISCARD and REQUEUE by the message's state, and the two times of a message (chapter 5). -/

namespace Sys2Proof.Machine

section
variable {s : State} {h : Handle} {c : ChannelNo}

/-- R128. A CANCEL of the message that is keyed, or is about to be, cuts its segment. -/
theorem State.cancelActive_of_text {e : Nat} {cut : Option Nat}
    (hitem : (∃ start, (s.chan c).item = .segment h start e cut) ∨ ∃ k n, (s.chan c).item = .header h k n e cut) :
    s.cancelActive c h = s.cutTelex c := by
  rcases hitem with ⟨start, hi⟩ | ⟨k, n, hi⟩ <;> simp only [State.cancelActive, hi, if_true]

/-- R128. A CANCEL of the message that a marker closes makes the marker one of purpose CANCEL. -/
theorem State.cancelActive_of_marker {p : Purpose} {n : Nat} (hi : (s.chan c).item = .marker (.message h) p n) :
    s.cancelActive c h = s.setChan c { s.chan c with item := .marker (.message h) .cancel n } := by
  simp only [State.cancelActive, hi, if_true]
  rfl

theorem State.cancelActive_frame (s : State) (c : ChannelNo) (h : Handle) :
    ∃ chs, s.cancelActive c h = { s with channels := chs } := by
  unfold State.cancelActive
  split
  · split <;> exact ⟨_, rfl⟩
  · split
    · exact s.cutTelex_frame c
    · exact ⟨_, rfl⟩
  · split
    · exact s.cutTelex_frame c
    · exact ⟨_, rfl⟩
  all_goals exact ⟨_, rfl⟩

/-- A cancel request does not touch the text. -/
theorem State.textSymbol_setDesc {d : Descriptor} (hchain : d.chain = (s.desc h).chain) :
    (s.setDesc h d).textSymbol h = s.textSymbol h := by
  funext i
  simp [State.textSymbol, hchain]

theorem State.cancelNow_eq (s : State) (h : Handle) :
    s.cancelNow h = (s.freeMessage h).rejudgeGrant.judgeKeyUp [(s.desc h).channel] := rfl

/-- R70. -/
theorem State.ackOverdue_iff : s.ackOverdue h = true ↔
    ∃ t, (s.desc h).ackDue = some t ∧ (s.desc h).state = .awaitAck ∧ t ≤ s.clock.elapsed := by
  unfold State.ackOverdue
  cases (s.desc h).ackDue <;> simp

/-- R75. The freeing of a message that has expired, and its notice. -/
theorem State.expire_of_expiry {e : Nat} (he : (s.desc h).expiry = some e) :
    s.expire h = ((s.freeMessage h).emit .expired (some (s.desc h).channel)
      (s.messageFields h ++ [.time e])).rejudgeGrant := by
  rw [State.expire, State.freeWith, he]
  rfl

end

end Sys2Proof.Machine

namespace Sys2Proof.Proofs

open Sys2Proof.Machine

/-- Settles O33. -/
theorem cancelByState : Obligations.CancelByState := by
  unfold Obligations.CancelByState
  intro s h hs
  obtain ⟨-, -, -, ho⟩ := id hs
  intro d ch x deferred u next
  have hsymbol : u.textSymbol h = s.textSymbol h := State.textSymbol_setDesc rfl
  have hchan : u.chan d.channel = ch := rfl
  have hdesc : u.desc h = { d with cancelRequested := true } := (State.desc_setDesc ..).trans (if_pos rfl)
  refine ⟨fun hfree => commandStep_refused hs ?_, fun hno => commandStep_refused hs ?_,
    fun hnow => commandStep_accepted hs ?_, fun ha hk hreq => commandStep_silent hs ?_ ho,
    fun ha hk hreq => ⟨commandStep_silent hs ?_ ?_, fun start e cut b hi hb hlt => ?_, fun k n e cut b hi hb hlt => ?_,
      fun e cut hi hle => ?_, fun p n hi => State.cancelActive_of_marker hi⟩⟩
  · simp only [doCancel, onHandle_byteOf, show (s.desc h).state = .free from hfree]
  · rcases hno with hno | ⟨ha, hk⟩
    · simp only [List.mem_cons, List.not_mem_nil, or_false] at hno
      rcases hno with hno | hno | hno <;> simp only [doCancel, onHandle_byteOf, show (s.desc h).state = _ from hno]
    · simp only [doCancel, onHandle_byteOf, show (s.desc h).state = .active from ha, if_pos (show (s.desc h).cls = _ from hk)]
  · simp only [List.mem_cons, List.not_mem_nil, or_false] at hnow
    rcases hnow with hnow | hnow | hnow <;>
      simp only [doCancel, onHandle_byteOf, show (s.desc h).state = _ from hnow] <;> rfl
  · have hlater : s.cancelLater h = s := if_pos hreq
    simp only [doCancel, onHandle_byteOf, show (s.desc h).state = .active from ha,
      if_neg (show ¬(s.desc h).cls = _ from hk), hlater]
    rfl
  · have hlater : s.cancelLater h = u.cancelActive d.channel h := if_neg (by simp [d] at hreq; simp [hreq])
    simp only [doCancel, onHandle_byteOf, show (s.desc h).state = .active from ha,
      if_neg (show ¬(s.desc h).cls = _ from hk), hlater]
    rfl
  · obtain ⟨chs, hframe⟩ := u.cancelActive_frame d.channel h
    rw [hframe]
    exact ho
  · rw [State.cancelActive_of_text (s := u) (.inl ⟨start, hi⟩), State.cutTelex_of_segment (s := u) hi, hsymbol, hdesc,
      cutSegment_of_boundary_lt cut hb hlt]
    rfl
  · rw [State.cancelActive_of_text (s := u) (.inr ⟨k, n, hi⟩), State.cutTelex_of_header (s := u) hi, hsymbol, hdesc,
      cutSegment_of_boundary_lt cut hb hlt]
    rfl
  · rw [State.cancelActive_of_text (s := u) hi]
    refine State.cutTelex_eq_self_of_forall_le (s := u) hi ?_
    rw [hsymbol, hdesc]
    exact hle

/-- Settles O34. -/
theorem discardAndRequeue : Obligations.DiscardAndRequeue := by
  unfold Obligations.DiscardAndRequeue
  intro s h hs d ch x y
  refine ⟨fun hfree => ⟨commandStep_refused hs ?_, commandStep_refused hs ?_⟩,
    fun hno => ⟨commandStep_refused hs ?_, commandStep_refused hs ?_⟩,
    fun hsent => ⟨commandStep_accepted hs ?_, commandStep_accepted hs ?_⟩⟩
  · simp only [doDiscard, onHandle_byteOf, show (s.desc h).state = .free from hfree]
  · simp only [doRequeue, onHandle_byteOf, show (s.desc h).state = .free from hfree]
  · simp only [List.mem_cons, List.not_mem_nil, or_false] at hno
    rcases hno with hno | hno | hno | hno | hno <;>
      simp only [doDiscard, onHandle_byteOf, show (s.desc h).state = _ from hno]
  · simp only [List.mem_cons, List.not_mem_nil, or_false] at hno
    rcases hno with hno | hno | hno | hno | hno <;>
      simp only [doRequeue, onHandle_byteOf, show (s.desc h).state = _ from hno]
  · have hfields : d.state.code = (s.desc h).state.code := rfl
    rcases hsent with hsent | hsent <;>
      simp only [doDiscard, onHandle_byteOf, hfields, show (s.desc h).state = _ from hsent] <;> rfl
  · have hready : s.requeueReady h = (s.setDesc h { d with state := .ready, resume := 0, ackDue := none }).setChan
        d.channel (ch.setQueue d.cls (h :: ch.queue d.cls)) := by
      simp [State.requeueReady, State.toHead, State.detach, State.modChan, State.modDesc, State.setChan, State.setDesc,
        State.chan, State.desc, d, ch]
    rcases hsent with hsent | hsent <;>
      simp only [doRequeue, onHandle_byteOf, show (s.desc h).state = _ from hsent, hready] <;> rfl

/-- Settles O35. -/
theorem messageTimesRunOut : Obligations.MessageTimesRunOut := by
  unfold Obligations.MessageTimesRunOut
  intro s h ho d fs
  have hunchanged : eventStep s = .next s := congrArg _ (State.flush_eq ho)
  refine ⟨fun t hstate hdue ht => ?_, fun hno => ?_, fun e hstate hnew he hpast => ?_, fun hno => ?_⟩
  · refine (congrArg eventStep (if_pos (State.ackOverdue_iff.2 ⟨t, hdue, hstate, ht⟩))).trans ?_
    simp [eventStep, State.timeOut, State.emit, State.modDesc, State.setDesc, ho]
    rfl
  · refine (congrArg eventStep (if_neg ?_)).trans hunchanged
    rw [State.ackOverdue_iff]
    rintro ⟨t, hdue, hstate, ht⟩
    obtain hno | hno | ⟨t', hdue', hlt⟩ := hno
    · exact hno hstate
    · exact Option.some_ne_none _ (hdue.symm.trans hno)
    · cases hdue.symm.trans hdue'
      omega
  · refine (congrArg eventStep (if_pos (State.expired_iff.2 ⟨e, he, hstate, hnew, hpast⟩))).trans ?_
    rw [State.expire_of_expiry he]
    simp only [eventStep, State.emit]
    rw [show (s.freeMessage h).outbox = [] from ho]
    rfl
  · refine (congrArg eventStep (if_neg ?_)).trans hunchanged
    rw [State.expired_iff]
    rintro ⟨e, he, hstate, hnew, hpast⟩
    obtain hno | hno | hno | ⟨e', he', hle⟩ := hno
    · exact hno hstate
    · exact hno hnew
    · exact Option.some_ne_none _ (he.symm.trans hno)
    · cases he.symm.trans he'
      omega

end Sys2Proof.Proofs
end

section
/-! SET-CHANNEL, OPEN-CHANNEL and RESTORE, and the entries of the schedule: their times and the commands that change
them. -/

namespace Sys2Proof.Machine

/-! ### Channels -/

/-- Section 8.2. -/
theorem Settings.inRange_iff (x : Settings) : x.inRange = true ↔ (20 ≤ x.period ∧ x.period ≤ 400) ∧ x.guard ≤ 60000
    ∧ (100 ≤ x.keyUpLimit ∧ x.keyUpLimit ≤ 5000) ∧ x.hangTime ≤ 60000 ∧ (16 ≤ x.quantum ∧ x.quantum ≤ 512)
    ∧ (1 ≤ x.minSegment ∧ x.minSegment ≤ 512) ∧ (1 ≤ x.urgentRun ∧ x.urgentRun ≤ 8) ∧ x.ackTimeout ≤ 3600
    ∧ (4 ≤ x.phasingRun ∧ x.phasingRun ≤ 16) ∧ 2 ≤ x.copies ∧ x.copies ≤ 4 := by
  simp [Settings.inRange, and_assoc]

theorem byteOf_toNat {n : Nat} (h : n < 2 ^ 8) : (byteOf n).toNat = n := by
  simpa [byteOf] using h

section
variable {s : State} {c : ChannelNo}

/-- R135. -/
theorem doSetChannel_bytes {p g u h q m n a k r : Nat} (hwords : ∀ x ∈ [p, g, u, h, q, m, a], x < 2 ^ 16)
    (hbytes : ∀ x ∈ [n, k, r], x < 2 ^ 8) :
    doSetChannel (byteOf c.val :: (toBe 2 p ++ toBe 2 g ++ toBe 2 u ++ toBe 2 h ++ toBe 2 q ++ toBe 2 m
        ++ byteOf n :: toBe 2 a ++ [byteOf k, byteOf r])) s
      = if (s.chan c).state ≠ .offline then .error .state
        else if !(⟨p, g, u, h, q, m, n, a, k, r⟩ : Settings).inRange then .error .range
        else .ok (s.setChan c { s.chan c with settings := ⟨p, g, u, h, q, m, n, a, k, r⟩ },
          [.num 1 c.val, .num 2 p, .num 2 g, .num 2 u, .num 2 h, .num 2 q, .num 2 m, .num 1 n, .num 2 a, .num 1 k,
            .num 1 r]) := by
  simp only [List.mem_cons, List.not_mem_nil, or_false, forall_eq_or_imp, forall_eq] at hwords hbytes
  obtain ⟨hp, hg, hu, hh, hq, hm, ha⟩ := hwords
  obtain ⟨hn, hk, hr⟩ := hbytes
  simp only [toBe_two, List.cons_append, List.nil_append, doSetChannel, be_two hp, be_two hg, be_two hu, be_two hh,
    be_two hq, be_two hm, be_two ha, byteOf_toNat hn, byteOf_toNat hk, byteOf_toNat hr, channelOf_byteOf]
  rfl

end

/-! ### Occurrence times -/

theorem ceilDiv_mul_le {n q m : Nat} (h : n ≤ m * q) : ceilDiv n q * q ≤ m * q := by
  obtain rfl | hq := Nat.eq_zero_or_pos q
  · simp
  · refine Nat.mul_le_mul_right q ?_
    unfold ceilDiv
    refine Nat.le_of_lt_succ ((Nat.div_lt_iff_lt_mul hq).2 ?_)
    rw [Nat.succ_mul]
    omega

/-- R84. -/
theorem Slot.earliest_eq_add_mul (e : Slot) (x : Nat) :
    ∃ j, e.earliest x = e.anchor % e.periodMs + j * e.periodMs := by
  unfold Slot.earliest
  dsimp only
  split
  · exact ⟨0, by simp⟩
  · exact ⟨_, rfl⟩

/-- The times of an entry hang on its anchor and its period alone. -/
theorem Slot.earliest_congr {e e' : Slot} {x : Nat} (ha : e'.anchor = e.anchor) (hp : e'.period = e.period) :
    e'.earliest x = e.earliest x := by
  have hq : e'.periodMs = e.periodMs := congrArg (· * 60000) hp
  rw [Slot.earliest, Slot.earliest, ha, hq]

theorem Slot.earliest_le {e : Slot} {x j : Nat} (h : x ≤ e.anchor % e.periodMs + j * e.periodMs) :
    e.earliest x ≤ e.anchor % e.periodMs + j * e.periodMs := by
  unfold Slot.earliest
  dsimp only
  split
  · exact Nat.le_add_right ..
  · exact Nat.add_le_add_left (ceilDiv_mul_le (by omega)) _

theorem earliestOf_eq_none_iff {ts : List Nat} : earliestOf ts = none ↔ ts = [] := by
  cases ts with
  | nil => simp [earliestOf]
  | cons t ts =>
    have hcons : earliestOf (t :: ts) = minOpt (some t) (earliestOf ts) := rfl
    rw [hcons]
    cases earliestOf ts <;> simp [minOpt]

theorem earliestOf_eq_some_iff {ts : List Nat} {m : Nat} : earliestOf ts = some m ↔ m ∈ ts ∧ ∀ t ∈ ts, m ≤ t := by
  induction ts generalizing m with
  | nil => simp [earliestOf]
  | cons t ts ih =>
    have hcons : earliestOf (t :: ts) = minOpt (some t) (earliestOf ts) := rfl
    rw [hcons]
    cases hrest : earliestOf ts with
    | none =>
      rw [earliestOf_eq_none_iff.1 hrest]
      simp only [minOpt, Option.some.injEq, List.mem_singleton, forall_eq]
      omega
    | some n =>
      obtain ⟨hmem, hle⟩ := ih.1 hrest
      simp only [minOpt, Option.some.injEq, List.mem_cons, forall_eq_or_imp]
      constructor
      · rintro rfl
        refine ⟨?_, min_le_left .., fun x hx => (min_le_right ..).trans (hle x hx)⟩
        rcases min_choice t n with h | h <;> simp [h, hmem]
      · rintro ⟨rfl | hm, ht, hall⟩
        · exact min_eq_left (hall n hmem)
        · rw [min_eq_right ((hle m hm).trans ht)]
          exact Nat.le_antisymm (hle m hm) (hall n hmem)

section
variable {s : State} {i : SlotNo} {c : ChannelNo}

theorem State.nextOccurrence_eq_some_iff {m : Nat} : s.nextOccurrence c = some m ↔
    (∃ i, (s.slot i).names c = true ∧ (s.slot i).nextDue = some m)
      ∧ ∀ i t, (s.slot i).names c = true → (s.slot i).nextDue = some t → m ≤ t := by
  have hmem (t : Nat) : t ∈ (s.slots.toList.filter (·.names c)).filterMap (·.nextDue)
      ↔ ∃ i, (s.slot i).names c = true ∧ (s.slot i).nextDue = some t := by
    rw [toList_eq_map_vget]
    simp [State.slot, and_assoc]
  rw [State.nextOccurrence, earliestOf_eq_some_iff, hmem]
  simp only [hmem]
  exact and_congr_right fun _ => ⟨fun h i t hn hd => h t ⟨i, hn, hd⟩, fun h t ⟨i, hn, hd⟩ => h i t hn hd⟩

theorem State.slotDue_of_absent (hdue : (s.slot i).nextDue = none) : s.slotDue i = false := by
  simp only [State.slotDue, hdue]

theorem State.slotDue_of_due {t : Nat} (hstate : (s.slot i).state = .enabled) (hdue : (s.slot i).nextDue = some t) :
    s.slotDue i = decide (t ≤ s.now) := by
  simp only [State.slotDue, hdue, hstate, decide_true, Bool.true_and]

theorem State.changeSlot_of_absent {e : Slot} (hdue : e.nextDue = none) :
    s.changeSlot i e = (s.setSlot i e).judgeKeyUp (touchedChannels (s.slot i) e) := by
  have hslot : (s.setSlot i e).slot i = e := (State.slot_setSlot ..).trans (if_pos rfl)
  simp [State.changeSlot, State.slotDue_of_absent (hslot ▸ hdue)]

/-- R85, R86. The next-due of an entry is not before station time, so its occurrence is taken at once only when it is of
the present time. -/
theorem State.changeSlot_of_due {e : Slot} {t : Nat} (hstate : e.state = .enabled) (hdue : e.nextDue = some t)
    (hle : s.now ≤ t) : s.changeSlot i e = (if t = s.now then (s.setSlot i e).takeOccurrence i
      else s.setSlot i e).judgeKeyUp (touchedChannels (s.slot i) e) := by
  have hslot : (s.setSlot i e).slot i = e := (State.slot_setSlot ..).trans (if_pos rfl)
  have hnow : (s.setSlot i e).now = s.now := rfl
  have hiff : t ≤ s.now ↔ t = s.now := ⟨fun h => h.antisymm hle, le_of_eq⟩
  simp [State.changeSlot, State.slotDue_of_due (hslot ▸ hstate) (hslot ▸ hdue), hnow, hiff]

theorem touchedChannels_of_same (old new : Slot) (h : new.channels = old.channels) :
    touchedChannels old new = allChannels.filter fun c => inSet old.channels c := by
  simp [touchedChannels, h]

/-- R85. The six demands on the fields of SET-SLOT. -/
theorem SlotFields.inRange_iff (f : SlotFields) : f.inRange = true ↔ f.channels ≠ 0 ∧ f.anchor ≤ 86399999 ∧ f.period ≠ 0
    ∧ 1440 % f.period = 0 ∧ f.area ≤ 31 ∧ f.window ≤ 1800000 := by
  simp [SlotFields.inRange, and_assoc]

theorem doSetSlot_bytes {set : Byte} {anchor period area window : Nat} (ha : anchor < 2 ^ 32) (hp : period < 2 ^ 16)
    (hr : area < 2 ^ 8) (hw : window < 2 ^ 32) :
    let f : SlotFields := ⟨set, anchor, period, area, window⟩
    let e := s.slotWritten i f
    doSetSlot (byteOf i.val :: set :: (toBe 4 anchor ++ toBe 2 period ++ byteOf area :: toBe 4 window)) s
      = if !f.inRange then .error .range
        else .ok (s.changeSlot i e, [.num 1 i.val, .num 1 e.state.code, .optTime e.nextDue]) := by
  simp only [toBe_two, toBe_four, List.cons_append, List.nil_append, doSetSlot, slotOf_byteOf, be_two hp, be_four ha,
    be_four hw, byteOf_toNat hr]

end

end Sys2Proof.Machine

namespace Sys2Proof.Proofs

open Sys2Proof.Machine

/-- Settles O44. -/
theorem setChannelReplacesTheSettings : Obligations.SetChannelReplacesTheSettings := by
  unfold Obligations.SetChannelReplacesTheSettings
  intro s c p g u h q m n a k r hs hwords hbytes x ok
  obtain ⟨-, -, -, ho⟩ := id hs
  have hjudge := doSetChannel_bytes (s := s) (c := c) hwords hbytes
  have hrange : (⟨p, g, u, h, q, m, n, a, k, r⟩ : Settings).inRange = true ↔ ok := Settings.inRange_iff _
  refine ⟨fun hstate => commandStep_refused hs ?_, fun hstate hno => commandStep_refused hs ?_,
    fun hstate hok => commandStep_silent hs ?_ ho⟩
  · rw [hjudge, if_pos hstate]
  · rw [hjudge, if_neg (not_not.2 hstate), if_pos (by simp [mt hrange.1 hno])]
  · rw [hjudge, if_neg (not_not.2 hstate), if_neg (by simp [hrange.2 hok])]

/-- Settles O46. -/
theorem channelsOpenAndRestore : Obligations.ChannelsOpenAndRestore := by
  unfold Obligations.ChannelsOpenAndRestore
  intro s c hs ch x y
  have hopen := onChannel_byteOf c fun c => if (s.chan c).state = .offline then
    .ok (s.openPort c, [.channel c, .num 1 ChanState.standby.code]) else .error .state
  have hrestore := onChannel_byteOf c fun c => if (s.chan c).state = .faulted ∧ (s.chan c).ready = true then
    .ok (s.restorePort c, [.channel c, .num 1 ChanState.standby.code]) else .error .state
  refine ⟨fun hstate => commandStep_refused hs (hopen.trans (if_neg hstate)),
    fun hstate => commandStep_accepted hs (hopen.trans (if_pos hstate)),
    fun hno => commandStep_refused hs (hrestore.trans (if_neg ?_)),
    fun hstate hready => commandStep_accepted hs (hrestore.trans (if_pos ⟨hstate, hready⟩))⟩
  rintro ⟨hstate, hready⟩
  rcases hno with hno | hno
  · exact hno hstate
  · simp [hready, ch] at hno

/-- Settles O36. -/
theorem earliestOccurrence : Obligations.EarliestOccurrence := by
  unfold Obligations.EarliestOccurrence
  refine ⟨fun e x hperiod => ⟨e.earliest_eq_add_mul x, Slot.le_earliest hperiod x, fun j => Slot.earliest_le⟩,
    fun s c m => ?_⟩
  simpa [Slot.names, and_assoc] using State.nextOccurrence_eq_some_iff (s := s) (c := c) (m := m)

/-- Settles O37. -/
theorem setSlotWritesAnEntry : Obligations.SetSlotWritesAnEntry := by
  unfold Obligations.SetSlotWritesAnEntry
  intro s i set anchor period area window hs ha hp hr hw x ok st e0 e u
  have hjudge := doSetSlot_bytes (s := s) (i := i) (set := set) ha hp hr hw
  dsimp only at hjudge
  have hrange := SlotFields.inRange_iff ⟨set, anchor, period, area, window⟩
  have hwritten : s.slotWritten i ⟨set, anchor, period, area, window⟩ = e := by
    by_cases hen : st = .enabled
    · exact congrArg (fun d => { e0 with nextDue := d }) (if_pos hen) |>.trans (if_pos hen).symm
    · exact congrArg (fun d => { e0 with nextDue := d }) (if_neg hen) |>.trans (if_neg hen).symm
  rw [hwritten] at hjudge
  refine ⟨fun hno => commandStep_refused hs ?_, fun hok => commandStep_accepted hs ?_⟩
  · rw [hjudge, if_pos (by simp [mt hrange.1 hno])]
  · have hchannels : e.channels = set := by
      rw [← hwritten]
      rfl
    have hstate : e.state = st := by
      rw [← hwritten]
      rfl
    have htouched : touchedChannels (s.slot i) e
        = allChannels.filter fun c => inSet (s.slot i).channels c || inSet set c := by
      rw [touchedChannels, hchannels]
    rw [hjudge, if_neg (by simp [hrange.2 hok]), hstate, ← htouched]
    refine congrArg (fun v => Except.ok (v, _)) ?_
    by_cases hen : st = .enabled
    · have hdue : e.nextDue = some (e0.earliest s.now) := congrArg Slot.nextDue (if_pos hen)
      rw [State.changeSlot_of_due (hstate.trans hen) hdue (Slot.le_earliest (Nat.pos_of_ne_zero hok.2.2.1) _), hdue]
      simp only [Option.some.injEq, u]
    · have hdue : e.nextDue = none := congrArg Slot.nextDue (if_neg hen)
      rw [State.changeSlot_of_absent hdue, hdue, if_neg (by simp)]

/-- Settles O38. -/
theorem slotsAreEnabledDisabledAndCleared : Obligations.SlotsAreEnabledDisabledAndCleared := by
  unfold Obligations.SlotsAreEnabledDisabledAndCleared
  intro s i hs e named due u x y
  obtain ⟨-, -, -, ho⟩ := id hs
  have hslot : s.slot i = e := rfl
  refine ⟨fun hempty => ⟨commandStep_refused hs ?_, commandStep_silent hs ?_ ho⟩,
    fun hheld hunset => commandStep_refused hs ?_, fun t hen hdue hset => commandStep_silent hs ?_ ho,
    fun hdis hset hperiod => commandStep_accepted hs ?_, fun hdis => commandStep_silent hs ?_ ho,
    fun hen => commandStep_accepted hs ?_,
    _, Slot.reset, commandStep_accepted hs (onSlot_byteOf i _), rfl, rfl, ?_⟩
  · simp [doEnableSlot, onSlot_byteOf, hslot, hempty]
  · simp [doDisableSlot, onSlot_byteOf, hslot, hempty]
    rfl
  · simp [doEnableSlot, onSlot_byteOf, hslot, hheld, hunset]
  · simp [doEnableSlot, onSlot_byteOf, hslot, hen, hset, hdue]
    rfl
  · have hrecomputed : s.recomputed { e with state := .enabled } = { e with state := .enabled, nextDue := some due } :=
      congrArg (fun t => { e with state := .enabled, nextDue := some t }) (Slot.earliest_congr (by rfl) (by rfl))
    have hchanged : s.changeSlot i { e with state := .enabled, nextDue := some due }
        = (if due = s.now then u.takeOccurrence i else u).judgeKeyUp named := by
      rw [State.changeSlot_of_due rfl rfl (Slot.le_earliest hperiod _), touchedChannels_of_same _ _ (by rfl)]
    rw [doEnableSlot, onSlot_byteOf, hslot]
    dsimp only
    rw [if_neg (by simp [hdis]), if_neg (by simp [hset]), if_neg (by simp [hdis]), hrecomputed, hchanged, Option.getD_some]
    rfl
  · simp [doDisableSlot, onSlot_byteOf, hslot, hdis]
    rfl
  · have hchanged := State.changeSlot_of_absent (s := s) (i := i)
      (e := { e with state := .disabled, nextDue := none }) rfl
    rw [touchedChannels_of_same _ _ (by rfl)] at hchanged
    simp [doDisableSlot, onSlot_byteOf, hslot, hen, hchanged]
    exact ⟨rfl, rfl⟩
  · rw [State.changeSlot_of_absent rfl]
    rfl

end Sys2Proof.Proofs
end

section
/-! What a ship's call asks for (section 9.3): the three forms a body may spell, the end of a body, the pattern that
matches it. -/

namespace Sys2Proof.Machine

/-! ### The three forms -/

theorem isDigitCode_iff {y : Nat} : isDigitCode y = true ↔ 33 ≤ y ∧ y ≤ 42 := by simp [isDigitCode]

/-- Digits as the codes that send them. -/
def digitCodes (ds : List Nat) : List Nat := ds.map (33 + ·)

@[simp] theorem digitCodes_length (ds : List Nat) : (digitCodes ds).length = ds.length := List.length_map _

theorem decimal_digitCodes (ds : List Nat) : decimal (digitCodes ds) = spelled ds := by
  simp [decimal, spelled, digitCodes, List.foldl_map]

/-- What ends the digits of a form: the end of the body, a SPACE or a CR. -/
theorem endsForm_iff {rest : List Nat} :
    endsForm rest = true ↔ rest = [] ∨ rest.head? = some 1 ∨ rest.head? = some 2 := by
  cases rest <;> simp [endsForm, symSpace, symCR]

theorem takeWhile_digitCodes {ds rest : List Nat} (hds : ∀ d ∈ ds, d < 10) (hrest : endsForm rest = true) :
    (digitCodes ds ++ rest).takeWhile isDigitCode = digitCodes ds := by
  have hdigit : ∀ y ∈ digitCodes ds, isDigitCode y = true := by
    simp only [digitCodes, List.mem_map, forall_exists_index, and_imp]
    rintro y d hd rfl
    have := hds d hd
    exact isDigitCode_iff.2 (by omega)
  have hstop : rest.takeWhile isDigitCode = [] := by
    cases rest with
    | nil => rfl
    | cons y rest =>
      have hy : y = 1 ∨ y = 2 := by simpa [endsForm, symSpace, symCR] using hrest
      exact List.takeWhile_cons_of_neg (by rw [isDigitCode_iff]; omega)
  rw [List.takeWhile_append_of_pos hdigit, hstop, List.append_nil]

/-- The digits of a form are read as they were sent. -/
theorem formDigits_digitCodes {ds rest : List Nat} (hds : ∀ d ∈ ds, d < 10) (hrest : endsForm rest = true) {lo hi : Nat}
    (hlo : lo ≤ ds.length) (hhi : ds.length ≤ hi) : formDigits lo hi (digitCodes ds ++ rest) = some (spelled ds) := by
  have hdrop : (digitCodes ds ++ rest).drop (digitCodes ds).length = rest := List.drop_left
  simp only [formDigits, takeWhile_digitCodes hds hrest, hdrop, hrest, decimal_digitCodes]
  simp [hlo, hhi]

/-- What reads as the digits of a form was sent as digits and an ending. -/
theorem exists_digitCodes {lo hi n : Nat} {ys : List Nat} (h : formDigits lo hi ys = some n) :
    ∃ ds rest, (∀ d ∈ ds, d < 10) ∧ endsForm rest = true ∧ ys = digitCodes ds ++ rest ∧ lo ≤ ds.length
      ∧ ds.length ≤ hi := by
  simp only [formDigits, Option.ite_none_right_eq_some, Bool.and_eq_true, decide_eq_true_eq] at h
  obtain ⟨⟨⟨hlo, hhi⟩, hends⟩, -⟩ := h
  have hdigit : ∀ y ∈ ys.takeWhile isDigitCode, 33 ≤ y ∧ y ≤ 42 := fun y hy =>
    isDigitCode_iff.1 (List.mem_takeWhile_imp hy)
  refine ⟨(ys.takeWhile isDigitCode).map (· - 33), _, ?_, hends, ?_, by simpa using hlo, by simpa using hhi⟩
  · simp only [List.mem_map, forall_exists_index, and_imp]
    rintro d y hy rfl
    have := hdigit y hy
    omega
  · have hback : digitCodes ((ys.takeWhile isDigitCode).map (· - 33)) = ys.takeWhile isDigitCode := by
      rw [digitCodes, List.map_map]
      refine (List.map_congr_left fun y hy => ?_).trans (List.map_id _)
      have := hdigit y hy
      simp only [Function.comp_apply, id_eq]
      omega
    rw [hback]
    exact (List.prefix_iff_eq_append.1 (List.takeWhile_prefix _)).symm

/-- What a form asks for. -/
def BodyForm.call (form : BodyForm) (n : Nat) : Call :=
  match form with
  | .hold => .hold n
  | .ack => .deliver .ack n
  | .repeat => .deliver .repeat n

/-- A body that spells a form asks for it. -/
theorem callForm_of_calls {body ds rest : List Nat} {form : BodyForm} (h : calls body form ds rest) :
    callForm body = some (form.call (spelled ds)) := by
  obtain ⟨hds, hrest, hbody⟩ := h
  rw [← endsForm_iff] at hrest
  have hread := fun lo hi => formDigits_digitCodes (lo := lo) (hi := hi) hds hrest
  match form, hbody with
  | .hold, hbody =>
    obtain ⟨rfl, hlo, hhi⟩ := hbody
    exact congrArg (Option.map Call.hold) (hread 1 3 hlo hhi)
  | .ack, hbody =>
    obtain ⟨rfl, hlen⟩ := hbody
    exact congrArg (Option.map (Call.deliver .ack)) (hread 5 5 hlen.ge hlen.le)
  | .repeat, hbody =>
    obtain ⟨rfl, hlen⟩ := hbody
    exact congrArg (Option.map (Call.deliver .repeat)) (hread 5 5 hlen.ge hlen.le)

/-- A body that asks for something spells a form. -/
theorem callForm_eq_none {body : List Nat} (h : ∀ form ds rest, ¬calls body form ds rest) : callForm body = none := by
  rw [Option.eq_none_iff_forall_ne_some]
  intro call hcall
  unfold callForm at hcall
  split at hcall
  · next x y ys =>
    split_ifs at hcall with hh hk hr
    · obtain ⟨n, hn, -⟩ := Option.map_eq_some_iff.1 hcall
      obtain ⟨ds, rest, hds, hrest, rfl, hlo, hhi⟩ := exists_digitCodes hn
      obtain ⟨rfl, rfl⟩ := hh
      exact h .hold ds rest ⟨hds, endsForm_iff.1 hrest, rfl, hlo, hhi⟩
    · obtain ⟨n, hn, -⟩ := Option.map_eq_some_iff.1 hcall
      obtain ⟨ds, rest, hds, hrest, rfl, hlo, hhi⟩ := exists_digitCodes hn
      obtain ⟨rfl, rfl⟩ := hk
      exact h .ack ds rest ⟨hds, endsForm_iff.1 hrest, rfl, hhi.antisymm hlo⟩
    · obtain ⟨n, hn, -⟩ := Option.map_eq_some_iff.1 hcall
      obtain ⟨ds, rest, hds, hrest, rfl, hlo, hhi⟩ := exists_digitCodes hn
      obtain ⟨rfl, rfl⟩ := hr
      exact h .repeat ds rest ⟨hds, endsForm_iff.1 hrest, rfl, hhi.antisymm hlo⟩
  · cases hcall

/-! ### The end of a body -/

/-- R155. -/
theorem Parser.symbol_of_bodyEnds {p call after : Parser} {y : Nat} {mutilated : Bool}
    (h : p.bodyEnds y mutilated call after) (k copies : Nat) : p.symbol k copies y mutilated = (after, .ended call) := by
  obtain ⟨hbody, ⟨rfl, rfl, rfl, rfl⟩ | ⟨rfl, rfl, rfl, rfl⟩ | ⟨hjoins, hlen, rfl, rfl⟩⟩ := h
  · simp only [Parser.symbol, hbody]
    rfl
  · simp only [Parser.symbol, hbody]
    rfl
  · have hidle : ¬(!mutilated && y == symIdle) = true := by
      rcases hjoins with hm | hy <;> simp_all [symIdle]
    have hphasing : ¬(!mutilated && y == symPhasing) = true := by
      rcases hjoins with hm | hy <;> simp_all [symPhasing]
    simp only [Parser.symbol, hbody, if_neg hidle, if_neg hphasing]
    simp [Parser.joinBody, maxCallBody, hlen, Parser.toSkip, Parser.reset, hbody]

theorem isShift_of_bodyEnds {p call after : Parser} {y : Nat} {mutilated : Bool}
    (h : p.bodyEnds y mutilated call after) : ¬isShift y mutilated = true := by
  rw [isShift_iff]
  obtain ⟨-, ⟨rfl, -⟩ | ⟨rfl, -⟩ | ⟨hjoins, -⟩⟩ := h
  · omega
  · omega
  · rcases hjoins with hm | hy
    · simp [hm]
    · simp only [List.mem_cons, List.not_mem_nil, or_false, not_or] at hy
      omega

section
variable {s : State} {c : ChannelNo} {y : Nat} {mutilated : Bool} {call after : Parser}

/-- R155. The symbol that ends a body has its call recognised. -/
theorem State.takeSymbol_of_bodyEnds (h : (s.chan c).parser.bodyEnds y mutilated call after) :
    s.takeSymbol c y mutilated
      = (s.setChan c { s.chan c with parser := after, rx := (s.chan c).rx.counted mutilated }).recognise c call := by
  have hv : s.verdict c y mutilated = (after, .ended call) := Parser.symbol_of_bodyEnds h ..
  have hparsed : s.parsed c y mutilated
      = s.setChan c { s.chan c with parser := after, rx := (s.chan c).rx.counted mutilated } := by
    rw [State.parsed, hv]
  rcases s.takeSymbol_cases c y mutilated (isShift_of_bodyEnds h) with ⟨hne, -⟩ | ⟨hne, -⟩ | ⟨hne, -⟩ | ⟨call', hc, ht⟩
  · simp [hv] at hne
  · simp [hv] at hne
  · simp [hv] at hne
  · rw [hv] at hc
    cases hc
    exact ht.trans (congrArg (State.recognise · c call) hparsed)

/-! An undamaged body that spells a form (R157). -/

theorem State.recognise_of_hold {ds rest : List Nat} (hd : call.damaged = false) (h : calls call.body .hold ds rest) :
    s.recognise c call = s.holdCall c call.ident (spelled ds) := by
  simp only [State.recognise, hd, Bool.false_eq_true, if_false, callForm_of_calls h, BodyForm.call]

theorem State.recognise_of_ack {ds rest : List Nat} (hd : call.damaged = false) (h : calls call.body .ack ds rest) :
    s.recognise c call = s.deliverCall c .ack call.ident (spelled ds) := by
  simp only [State.recognise, hd, Bool.false_eq_true, if_false, callForm_of_calls h, BodyForm.call]

theorem State.recognise_of_repeat {ds rest : List Nat} (hd : call.damaged = false)
    (h : calls call.body .repeat ds rest) :
    s.recognise c call = s.deliverCall c .repeat call.ident (spelled ds) := by
  simp only [State.recognise, hd, Bool.false_eq_true, if_false, callForm_of_calls h, BodyForm.call]

/-- R157. A damaged body, and one of none of the forms, is captured. -/
theorem State.recognise_of_not_calls (h : call.damaged = false → ∀ form ds rest, ¬calls call.body form ds rest) :
    s.recognise c call = s.capture c call := by
  have hnone : (if call.damaged then none else callForm call.body) = none := by
    cases hd : call.damaged
    · exact callForm_eq_none (h hd)
    · rfl
  simp only [State.recognise, hnone]

end

/-! ### Pattern watches -/

/-- R160. -/
theorem Pattern.fits_iff {p : Pattern} {body : List Nat} : p.fits body = true ↔ p.minLength ≤ body.length
    ∧ ∀ (i : Nat) (v : Nat), p.values[i]? = some (v, true) → body[i]? = some v := by
  unfold Pattern.fits
  rw [Bool.and_eq_true, decide_eq_true_eq, List.all_eq_true]
  refine and_congr_right fun _ => ⟨fun h i v hv => ?_, fun h i _ => ?_⟩
  · have hi : i < p.values.length := (List.getElem?_eq_some_iff.1 hv).1
    simpa [hv] using h i (List.mem_range.2 hi)
  · split
    · next v hv => exact decide_eq_true (h i v hv)
    · rfl

section
variable {s : State} {c : ChannelNo}

/-- R160. A watch is SET, names the channel and matches. -/
def State.watchFits (s : State) (c : ChannelNo) (body : List Nat) (w : WatchNo) : Prop :=
  ∃ p, s.watch w = some p ∧ inSet p.channels c = true ∧ p.minLength ≤ body.length
    ∧ ∀ (i : Nat) (v : Nat), p.values[i]? = some (v, true) → body[i]? = some v

/-- R160. The first match is the watch that fits before all others, if any fits. -/
theorem State.firstMatch_eq {body : List Nat} {kind : Option WatchNo}
    (hsome : ∀ w, kind = some w → s.watchFits c body w ∧ ∀ v, v < w → ¬s.watchFits c body v)
    (hnone : kind = none → ∀ w, ¬s.watchFits c body w) : s.firstMatch c body = kind := by
  obtain ⟨fits, hfirst, hfits⟩ : ∃ fits, s.firstMatch c body = (List.finRange 4).find? fits
      ∧ ∀ w, fits w = true ↔ s.watchFits c body w := by
    refine ⟨_, rfl, fun w => ?_⟩
    unfold State.watchFits
    cases s.watch w <;> simp [Pattern.fits_iff]
  rw [hfirst]
  cases kind with
  | none => exact List.find?_eq_none.2 fun w _ => (hfits w).not.2 (hnone rfl w)
  | some w =>
    obtain ⟨hw, hbefore⟩ := hsome w rfl
    refine List.find?_eq_some_iff_getElem.2 ⟨(hfits w).2 hw, w.val, by simp, by simp, fun j hj => ?_⟩
    have hlt : (List.finRange 4)[j]'(by simp; omega) < w := by simpa [Fin.lt_def] using hj
    simpa using (hfits _).not.2 (hbefore _ hlt)

end

end Sys2Proof.Machine

end

section
/-! Pattern watches, captures and hold records: the commands on them, and what a recognised HOLD does to the table. -/

namespace Sys2Proof.Machine

/-! ### SET-WATCH -/

theorem watchValues_flatMap (vs : List (Byte × Byte)) : watchValues (vs.flatMap fun v => [v.1, v.2]) = some vs := by
  induction vs with
  | nil => rfl
  | cons v vs ih =>
    show (watchValues (vs.flatMap fun v => [v.1, v.2])).map ((v.1, v.2) :: ·) = _
    rw [ih]
    rfl

theorem flagOf_isSome_iff {b : Byte} : (flagOf b).isSome = true ↔ b.toNat ≤ 1 := by
  constructor
  · intro h
    by_contra hgt
    rw [flagOf_above (by omega)] at h
    cases h
  · intro h
    have hb : b = 0 ∨ b = 1 := by
      rcases Nat.le_one_iff_eq_zero_or_eq_one.1 h with h0 | h1
      · exact .inl (BitVec.eq_of_toNat_eq (by simpa using h0))
      · exact .inr (BitVec.eq_of_toNat_eq (by simpa using h1))
    rcases hb with rfl | rfl <;> rfl

theorem valuesInRange_iff {vs : List (Byte × Byte)} :
    valuesInRange vs = true ↔ ∀ v ∈ vs, v.1.toNat ≤ 63 ∧ v.2.toNat ≤ 1 := by
  simp [valuesInRange, flagOf_isSome_iff]

section
variable {s : State}

/-! A SET-WATCH whose size is right (R159). -/

theorem doSetWatch_of_watch {b set m : Byte} {w : WatchNo} {vs : List (Byte × Byte)} (hlen : vs.length < 256)
    (hw : watchOf b = some w) : doSetWatch ([b, set, byteOf vs.length, m] ++ vs.flatMap fun v => [v.1, v.2]) s
      = if set = 0 ∨ vs.length = 0 ∨ maxWatchValues < vs.length ∨ valuesInRange vs = false ∨ captureSymbols < m.toNat then
          .error .range
        else
          .ok (s.setWatch w (some ⟨set, vs.map fun v => (v.1.toNat, decide (v.2 = 1)), m.toNat⟩),
            [.num 1 w.val, .num 1 1]) := by
  have hn : (byteOf vs.length).toNat = vs.length := byteOf_toNat hlen
  have hsize : (vs.flatMap fun v => [v.1, v.2]).length = 2 * vs.length := by
    simp [List.length_flatMap, Nat.mul_comm]
  simp only [doSetWatch, List.cons_append, List.nil_append, hn, hsize, ne_eq, not_true_eq_false, if_false,
    watchValues_flatMap, hw]

theorem doSetWatch_of_no_watch {b set m : Byte} {vs : List (Byte × Byte)} (hlen : vs.length < 256)
    (hw : watchOf b = none) :
    doSetWatch ([b, set, byteOf vs.length, m] ++ vs.flatMap fun v => [v.1, v.2]) s = .error .range := by
  have hn : (byteOf vs.length).toNat = vs.length := byteOf_toNat hlen
  have hsize : (vs.flatMap fun v => [v.1, v.2]).length = 2 * vs.length := by
    simp [List.length_flatMap, Nat.mul_comm]
  simp only [doSetWatch, List.cons_append, List.nil_append, hn, hsize, ne_eq, not_true_eq_false, if_false,
    watchValues_flatMap, hw]

end

/-- An optional list of fields that is there (R174). -/
theorem optList_map {α : Type} (xs : List α) (f : α → List Field) :
    optList (some (xs.map f)) = .num 1 1 :: .num 2 xs.length :: xs.flatMap f := congrArg (_ :: ·) (listField_map xs f)

/-! ### The hold table -/

theorem find?_ship_eq_none {holds : List Hold} {ship : Nat} :
    holds.find? (·.ship == ship) = none ↔ ∀ r ∈ holds, r.ship ≠ ship := by
  simp

theorem find?_ship_append {ps qs : List Hold} {ship : Nat} {r : Hold} (hship : r.ship = ship)
    (hps : ∀ q ∈ ps, q.ship ≠ ship) : (ps ++ r :: qs).find? (·.ship == ship) = some r := by
  rw [List.find?_append, find?_ship_eq_none.2 hps, Option.none_or, List.find?_cons_of_pos (by simpa using hship)]

/-- A ship's record is the only one of its table (R163). -/
theorem find?_ship_eq_some {holds : List Hold} {ship : Nat} {r : Hold} (hr : r ∈ holds) (hship : r.ship = ship)
    (hnodup : (holds.map (·.ship)).Nodup) : holds.find? (·.ship == ship) = some r := by
  obtain ⟨ps, qs, rfl⟩ := List.append_of_mem hr
  refine find?_ship_append hship fun q hq heq => ?_
  rw [List.map_append, List.nodup_append] at hnodup
  exact hnodup.2.2 _ (List.mem_map_of_mem hq) _ (by simp) (heq.trans hship.symm)

section
variable {s : State} {c : ChannelNo} {ship : Nat}

/-- The seconds left to a hold (R163). -/
theorem State.remaining_eq (r : Hold) : s.remaining r
    = if r.state = .pending then r.count else (r.endsAt - s.clock.elapsed + 999) / 1000 := by
  cases hh : r.state <;> simp [State.remaining, hh, ceilDiv]

/-! CLEAR-HOLD (R167). -/

theorem doClearHold_no_ship (hlt : ship < 2 ^ 24) (hno : ship = 0 ∨ 99999 < ship) :
    doClearHold (byteOf c.val :: toBe 3 ship) s = .error .range := by
  have hship : isShip ship = false := by
    rw [isShip, decide_eq_false_iff_not]
    omega
  simp [toBe_three, doClearHold, channelOf_byteOf, be_three hlt, hship]

theorem doClearHold_of_none (hlt : ship < 2 ^ 24) (hlo : 1 ≤ ship) (hhi : ship ≤ 99999)
    (hno : (s.chan c).holds.find? (·.ship == ship) = none) :
    doClearHold (byteOf c.val :: toBe 3 ship) s = .error .notFound := by
  have hship : isShip ship = true := decide_eq_true ⟨hlo, hhi⟩
  simp only [toBe_three, doClearHold, channelOf_byteOf, be_three hlt, hship, hno, Bool.not_true, Bool.false_eq_true,
    if_false]

theorem doClearHold_of_some {r : Hold} (hlt : ship < 2 ^ 24) (hlo : 1 ≤ ship) (hhi : ship ≤ 99999)
    (hr : (s.chan c).holds.find? (·.ship == ship) = some r) :
    doClearHold (byteOf c.val :: toBe 3 ship) s = .ok ((s.dropHold c ship).judgeKeyUp [c],
      [.channel c, .ship ship, .num 1 r.state.code, .num 2 (s.remaining r)]) := by
  have hship : isShip ship = true := decide_eq_true ⟨hlo, hhi⟩
  simp only [toBe_three, doClearHold, channelOf_byteOf, be_three hlt, hship, hr, Bool.not_true, Bool.false_eq_true,
    if_false]

theorem State.holdOverdue_iff : s.holdOverdue c ship = true ↔
    ∃ r ∈ (s.chan c).holds, r.ship = ship ∧ r.state = .running ∧ r.endsAt ≤ s.clock.elapsed := by
  simp [State.holdOverdue, and_assoc]

/-! A recognised HOLD (R164, R166), by its count and by the record the ship has. -/

theorem State.holdCall_zero_of_mem (h : ∃ r ∈ (s.chan c).holds, r.ship = ship) : s.holdCall c ship 0
    = (((s.countHold c).dropHold c ship).holdEnded c ship 0).judgeKeyUp [c] := by
  unfold State.holdCall
  dsimp only
  split
  · rfl
  · next hnone =>
    obtain ⟨r, hr, hship⟩ := h
    exact absurd hship (find?_ship_eq_none.1 hnone r hr)

theorem State.holdCall_zero_of_not_mem (h : ∀ r ∈ (s.chan c).holds, r.ship ≠ ship) :
    s.holdCall c ship 0 = s.countHold c := by
  simp only [State.holdCall, find?_ship_eq_none.2 h, if_true]

end

end Sys2Proof.Machine

namespace Sys2Proof.Proofs

open Sys2Proof.Machine

/-- Settles O51. -/
theorem watchesAndCaptures : Obligations.WatchesAndCaptures := by
  unfold Obligations.WatchesAndCaptures
  refine ⟨fun s b set m w vs c hs hlen => ?_, fun s c y mutilated call after kind ho hon hends hform => ?_⟩
  · obtain ⟨-, -, -, ho⟩ := id hs
    intro x ok bad y z ch
    have hrange : (set = 0 ∨ vs.length = 0 ∨ maxWatchValues < vs.length ∨ valuesInRange vs = false
        ∨ captureSymbols < m.toNat) ↔ set = 0 ∨ vs = [] ∨ 32 < vs.length
          ∨ (∃ v ∈ vs, 63 < v.1.toNat ∨ 1 < v.2.toNat) ∨ 48 < m.toNat := by
      rw [← Bool.not_eq_true, valuesInRange_iff, List.length_eq_zero_iff]
      simp only [not_forall, not_and_or, not_le, exists_prop]
      rfl
    refine ⟨fun hok => commandStep_silent hs ?_ ho, fun hbad => commandStep_refused hs ?_,
      commandStep_silent hs (onWatch_byteOf w _) ho, fun hw => commandStep_silent hs ((onWatch_byteOf w _).trans ?_) ho,
      fun p hw => commandStep_silent hs ((onWatch_byteOf w _).trans ?_) ho,
      commandStep_silent hs (onChannel_byteOf c _) ho, fun hl => commandStep_silent hs ((onChannel_byteOf c _).trans ?_) ho,
      fun k hl => commandStep_silent hs ((onChannel_byteOf c _).trans ?_) ho⟩
    · obtain ⟨rfl, hset, hvs, hcount, hvalues, hm⟩ := hok
      refine (doSetWatch_of_watch hlen (watchOf_byteOf w)).trans (if_neg ?_)
      rw [hrange]
      rintro (h | h | h | ⟨v, hv, h⟩ | h)
      · exact hset h
      · exact hvs h
      · omega
      · have := hvalues v hv
        omega
      · omega
    · cases hw : watchOf b with
      | none => exact doSetWatch_of_no_watch hlen hw
      | some v =>
        refine (doSetWatch_of_watch hlen hw).trans (if_pos (hrange.2 (hbad.resolve_left fun hb => ?_)))
        rw [watchOf_above hb] at hw
        cases hw
    · rw [hw]
      rfl
    · rw [hw]
      simp only [watchFields, Option.map_some, optList_map]
      rfl
    · rw [show (s.chan c).latch = none from hl]
      rfl
    · rw [show (s.chan c).latch = some k from hl]
      simp only [captureFields, Option.map_some, optList_map, List.append_assoc, ← List.map_eq_flatMap]
      rfl
  · intro ch x counted fits hsome hnone
    obtain ⟨u, hu⟩ : ∃ u, u = s.setChan c { ch with parser := after, rx := counted } := ⟨_, rfl⟩
    have hx : x = .next (u.capture c call).flush := by
      refine (exec_receivedSymbol hon).trans ?_
      rw [State.takeSymbol_of_bodyEnds hends, State.recognise_of_not_calls hform, hu]
    have hmatch : u.firstMatch c call.body = kind := State.firstMatch_eq (hu ▸ hsome) (hu ▸ hnone)
    have hlatch : (u.chan c).latch = ch.latch := by rw [hu, State.chan_setChan, if_pos rfl]
    refine ⟨fun hl => ?_, fun hl => ?_⟩
    · rw [hx, State.capture, if_neg (by simp [hlatch, hl]), hmatch, hu]
      simp [State.emit, State.modChan, ho]
      rfl
    · rw [hx, State.capture, if_pos (by simpa [hlatch, Option.isSome_iff_ne_none] using hl), hu]
      simp [State.modRx, State.modChan]
      exact State.flush_eq (by exact ho)

/-- Settles O52. -/
theorem holdsAreRemoved : Obligations.HoldsAreRemoved := by
  unfold Obligations.HoldsAreRemoved
  refine ⟨fun s c ship hlt => ?_, fun s c y mutilated call after ds rest ho hon hends hd hcalls hzero => ?_⟩
  · intro ch x y gone
    refine ⟨fun hs => ⟨fun hbad => commandStep_refused hs (doClearHold_no_ship hlt hbad), fun hlo hhi hno =>
      commandStep_refused hs (doClearHold_of_none hlt hlo hhi (find?_ship_eq_none.2 hno)),
      fun r hlo hhi hr hrs hnodup => commandStep_accepted hs ?_⟩, fun ho => ⟨fun r hr hrs hrun hle => ?_, fun hno => ?_⟩⟩
    · rw [doClearHold_of_some hlt hlo hhi (find?_ship_eq_some hr hrs hnodup), State.remaining_eq]
      rfl
    · refine (congrArg eventStep (if_pos (State.holdOverdue_iff.2 ⟨r, hr, hrs, hrun, hle⟩))).trans ?_
      simp only [eventStep, State.holdEnded, State.emit]
      rw [show (s.dropHold c ship).outbox = [] from ho]
      rfl
    · refine (congrArg eventStep (if_neg ?_)).trans (congrArg _ (State.flush_eq ho))
      rw [State.holdOverdue_iff]
      rintro ⟨r, hr, hrs, hrun, hle⟩
      rcases hno r hr hrs with hp | hlt
      · cases hp.symm.trans hrun
      · omega
  · intro ch x counted rx
    obtain ⟨u, hu⟩ : ∃ u, u = s.setChan c { ch with parser := after, rx := counted } := ⟨_, rfl⟩
    have hx : x = .next (u.holdCall c call.ident 0).flush := by
      refine (exec_receivedSymbol hon).trans ?_
      rw [State.takeSymbol_of_bodyEnds hends, State.recognise_of_hold hd hcalls, hzero, hu]
    have hholds : (u.chan c).holds = ch.holds := by rw [hu, State.chan_setChan, if_pos rfl]
    have hcounted : u.countHold c = s.setChan c { ch with parser := after, rx := rx } := by
      rw [hu]
      simp [State.countHold, State.modRx, State.modChan]
      rfl
    refine ⟨fun hmem => ?_, fun hno => ?_⟩
    · rw [hx, State.holdCall_zero_of_mem (hholds ▸ hmem), hcounted]
      simp [State.dropHold, State.holdEnded, State.emit, State.modChan, ho]
      rfl
    · rw [hx, State.holdCall_zero_of_not_mem (hholds ▸ hno), hcounted, State.flush_eq (by exact ho)]

end Sys2Proof.Proofs
end

section
/-! Occurrences that place requests, and requests that end (sections 6.3, 6.4 and 6.6). -/

namespace Sys2Proof.Machine

section
variable {s : State} {c : ChannelNo} {q : Request}

/-! ### Outcomes -/

theorem Stats.countOutcome_overrun (t : Stats) (o : BulletinOutcome) : (t.countOutcome o).overrun = t.overrun := by
  cases o <;> rfl

/-- R100. An outcome finds the overrun count at its end. -/
def State.overrunWraps (s : State) (c : ChannelNo) (o : BulletinOutcome) : Bool :=
  o.overruns && decide (15 ≤ (s.chan c).stats.overrun)

/-- The notices of an outcome (R99, R100). -/
def State.outcomeNotices (s : State) (c : ChannelNo) (q : Request) (o : BulletinOutcome) (lateness : Option Nat) :
    List Notice :=
  [⟨.outcome, some c, s.clock.ms, [.num 1 o.code, .num 1 q.slot.val, .num 1 q.area.val, .num 6 q.due, .num 6 q.deadline,
    .opt 6 lateness, .num 1 q.restarts]⟩] ++ if s.overrunWraps c o then [⟨.overrunWrap, some c, s.clock.ms, []⟩] else []

/-- The statistics after an outcome (R100, R147). -/
def State.outcomeStats (s : State) (c : ChannelNo) (o : BulletinOutcome) : Stats :=
  { (s.chan c).stats.countOutcome o with
    overrun := if s.overrunWraps c o then 0
      else if o.overruns then (s.chan c).stats.overrun + 1 else (s.chan c).stats.overrun }

theorem State.recordOutcome_eq (o : BulletinOutcome) (lateness : Option Nat) :
    s.recordOutcome c q o lateness false
      = State.setChan { s with outbox := s.outbox ++ s.outcomeNotices c q o lateness } c
        { s.chan c with stats := s.outcomeStats c o } := by
  obtain ⟨u, hu⟩ : ∃ u, u = State.setChan { s with outbox := s.outbox ++ [⟨.outcome, some c, s.clock.ms,
      [.num 1 o.code, .num 1 q.slot.val, .num 1 q.area.val, .num 6 q.due, .num 6 q.deadline, .opt 6 lateness,
        .num 1 q.restarts]⟩] } c { s.chan c with stats := (s.chan c).stats.countOutcome o } := ⟨_, rfl⟩
  have hchan : u.chan c = { s.chan c with stats := (s.chan c).stats.countOutcome o } := by
    rw [hu, State.chan_setChan, if_pos rfl]
  have hcount : (u.chan c).stats.overrun = (s.chan c).stats.overrun := by
    rw [hchan]
    exact Stats.countOutcome_overrun ..
  have hrecord : s.recordOutcome c q o lateness false = if o.overruns && !false then u.advanceOverrun c else u := by
    rw [hu]
    rfl
  rw [hrecord]
  cases hover : o.overruns with
  | false =>
    have hnone : s.overrunWraps c o = false := by simp [State.overrunWraps, hover]
    have hstats : s.outcomeStats c o = (s.chan c).stats.countOutcome o := by
      rw [State.outcomeStats, hnone, hover, ← Stats.countOutcome_overrun _ o]
      rfl
    rw [hstats, State.outcomeNotices, hnone]
    exact hu
  | true =>
    by_cases hwrap : 15 ≤ (s.chan c).stats.overrun
    · have hwraps : s.overrunWraps c o = true := by simp [State.overrunWraps, hover, hwrap]
      have hadvance : u.advanceOverrun c
          = (u.setChan c { u.chan c with stats := { (u.chan c).stats with overrun := 0 } }).emit .overrunWrap (some c) [] :=
        if_neg (by omega)
      rw [State.outcomeStats, State.outcomeNotices, hwraps]
      refine hadvance.trans ?_
      rw [hchan, hu]
      simp [State.emit]
      rfl
    · have hwraps : s.overrunWraps c o = false := by simp [State.overrunWraps, hwrap]
      have hadvance : u.advanceOverrun c
          = u.setChan c { u.chan c with stats := { (u.chan c).stats with overrun := (u.chan c).stats.overrun + 1 } } :=
        if_pos (by omega)
      rw [State.outcomeStats, State.outcomeNotices, hwraps, hover]
      refine hadvance.trans ?_
      rw [hcount, hchan, hu]
      simp

/-- R99. A request that ends. -/
theorem State.endRequest_eq (o : BulletinOutcome) (lateness : Option Nat) :
    s.endRequest c q o lateness false
      = State.setChan { s with outbox := s.outbox ++ s.outcomeNotices c q o lateness } c
        { s.chan c with
          requests := (s.chan c).requests.filter fun p => decide (¬(p.slot = q.slot ∧ p.due = q.due))
          stats := s.outcomeStats c o } := by
  have hfilter : (s.chan c).requests.filter (fun p => !p.isFor q.slot q.due)
      = (s.chan c).requests.filter fun p => decide (¬(p.slot = q.slot ∧ p.due = q.due)) := by
    refine List.filter_congr fun p _ => ?_
    simp [Request.isFor]
  have hdrop : (s.dropRequest c q).chan c = { s.chan c with
      requests := (s.chan c).requests.filter fun p => decide (¬(p.slot = q.slot ∧ p.due = q.due)) } := by
    rw [State.dropRequest, State.chan_modChan, if_pos rfl, hfilter]
  have hwraps : (s.dropRequest c q).overrunWraps c o = s.overrunWraps c o := by
    simp [State.overrunWraps, hdrop]
  rw [State.endRequest, State.recordOutcome_eq, State.outcomeStats, State.outcomeNotices, hwraps, hdrop]
  simp [State.dropRequest, State.modChan, State.setChan, State.outcomeNotices, State.chan]
  rfl

end

/-! ### Placing -/

theorem insertRequest_append {q : Request} {ps qs : List Request} (hps : ∀ p ∈ ps, q.before p = false)
    (hqs : ∀ p ∈ qs.head?, q.before p = true) : insertRequest q (ps ++ qs) = ps ++ q :: qs := by
  induction ps with
  | nil =>
    cases qs with
    | nil => rfl
    | cons p qs => exact if_pos (hqs p rfl)
  | cons p ps ih =>
    refine (if_neg (by simp [hps p])).trans (congrArg (p :: ·) ?_)
    exact ih fun r hr => hps r (List.mem_cons_of_mem _ hr)

theorem Request.before_iff {p q : Request} :
    p.before q = true ↔ p.due < q.due ∨ p.due = q.due ∧ p.slot < q.slot := by
  simp [Request.before]

theorem Request.isFor_iff {q : Request} {i : SlotNo} {due : Nat} : q.isFor i due = true ↔ q.slot = i ∧ q.due = due := by
  simp [Request.isFor]

section
variable {s : State} {c : ChannelNo} {q : Request}

/-- R93. -/
theorem State.deadlinePassed_iff : s.deadlinePassed c q = true ↔
    (s.chan c).state ∈ ([.standby, .keyUp, .faulted] : List ChanState) ∧ q.state = .waiting ∧ q.deadline ≤ s.now := by
  unfold State.deadlinePassed
  cases (s.chan c).state <;> simp [ChanState.unkeyed]

/-- The request of an occurrence is the only one of its slot and time. -/
theorem State.overdueRequest_eq (hq : q ∈ (s.chan c).requests)
    (honly : ∀ p ∈ (s.chan c).requests, p.slot = q.slot → p.due = q.due → p = q) :
    s.overdueRequest c q.slot q.due = if s.deadlinePassed c q then some q else none := by
  have hfound {p : Request} (hp : s.overdueRequest c q.slot q.due = some p) : p = q ∧ s.deadlinePassed c p = true := by
    have hpred := List.find?_some hp
    rw [Bool.and_eq_true, Request.isFor_iff] at hpred
    exact ⟨honly p (List.mem_of_find?_eq_some hp) hpred.1.1 hpred.1.2, hpred.2⟩
  split
  · next h =>
    have hsome : (s.overdueRequest c q.slot q.due).isSome :=
      List.find?_isSome.2 ⟨q, hq, by simp [Request.isFor, h]⟩
    obtain ⟨p, hp⟩ := Option.isSome_iff_exists.1 hsome
    rw [hp, (hfound hp).1]
  · next h =>
    refine Option.eq_none_iff_forall_ne_some.2 fun p hp => h ?_
    obtain ⟨rfl, hpassed⟩ := hfound hp
    exact hpassed

theorem exec_requestDeadline_of_some {i : SlotNo} {due : Nat} (h : s.overdueRequest c i due = some q) :
    exec (.requestDeadlineUnkeyed c i due) s = .next ((s.endBroken c q false).judgeKeyUp [c]).flush := by
  show execRequestDeadlineUnkeyed c i due s = _
  simp only [execRequestDeadlineUnkeyed, h, eventStep]

theorem exec_requestDeadline_of_none {i : SlotNo} {due : Nat} (h : s.overdueRequest c i due = none) :
    exec (.requestDeadlineUnkeyed c i due) s = .next s.flush := by
  show execRequestDeadlineUnkeyed c i due s = _
  simp only [execRequestDeadlineUnkeyed, h, eventStep]

end

section
variable {s : State} {i : SlotNo}

theorem State.slotDue_iff : s.slotDue i = true ↔
    ∃ due, (s.slot i).nextDue = some due ∧ (s.slot i).state = .enabled ∧ due ≤ s.now := by
  unfold State.slotDue
  cases (s.slot i).nextDue <;> simp

/-- Placing requests leaves the entries alone. -/
theorem State.slots_placeRequest (due : Nat) (c : ChannelNo) : (s.placeRequest i due c).slots = s.slots := by
  unfold State.placeRequest
  dsimp only
  split_ifs
  · rw [State.recordOutcome_eq]
    rfl
  · rfl
  · rw [State.recordOutcome_eq]
    rfl
  · rfl

theorem State.takeOccurrence_eq {due : Nat} (h : (s.slot i).nextDue = some due) : s.takeOccurrence i
    = ((channelsOf (s.slot i).channels).foldl (fun s c => s.placeRequest i due c) s).setSlot i
      { s.slot i with nextDue := some (due + (s.slot i).periodMs) } := by
  have hslots (cs : List ChannelNo) : (cs.foldl (fun s c => s.placeRequest i due c) s).slots = s.slots :=
    List.foldlRecOn (motive := fun t => t.slots = s.slots) cs _ rfl
      fun (t : State) ht c _ => (t.slots_placeRequest due c).trans ht
  simp only [State.takeOccurrence, h]
  have hslot : ((channelsOf (s.slot i).channels).foldl (fun s c => s.placeRequest i due c) s).slot i = s.slot i :=
    congrArg (vget · i) (hslots _)
  rw [hslot]

end

end Sys2Proof.Machine

namespace Sys2Proof.Proofs

open Sys2Proof.Machine

/-- Settles O40. -/
theorem occurrencesPlaceRequests : Obligations.OccurrencesPlaceRequests := by
  unfold Obligations.OccurrencesPlaceRequests
  refine ⟨fun s i ho => ?_, fun s i due c => ?_⟩
  · intro e
    refine ⟨fun due hstate hdue hle => ?_, fun hno => ?_⟩
    · refine (congrArg eventStep (if_pos (State.slotDue_iff.2 ⟨due, hdue, hstate, hle⟩))).trans ?_
      rw [State.takeOccurrence_eq hdue]
      rfl
    · refine (congrArg eventStep (if_neg ?_)).trans (congrArg _ (State.flush_eq ho))
      rw [State.slotDue_iff]
      rintro ⟨due, hdue, hstate, hle⟩
      obtain hno | hno | ⟨due', hdue', hlt⟩ := hno
      · exact hno hstate
      · exact Option.some_ne_none _ (hdue.symm.trans hno)
      · cases hdue.symm.trans hdue'
        omega
  · intro e ch q wraps missed held
    have hmissed : s.recordOutcome c q .missed none false = missed := by
      rw [State.recordOutcome_eq, State.outcomeNotices, State.outcomeStats]
      by_cases hw : 15 ≤ (s.chan c).stats.overrun
      · have hwraps : s.overrunWraps c .missed = true := by simp [State.overrunWraps, BulletinOutcome.overruns, hw]
        simp only [missed, wraps, ch, hwraps, if_pos hw, List.append_assoc]
        rfl
      · have hwraps : s.overrunWraps c .missed = false := by simp [State.overrunWraps, hw]
        simp only [missed, wraps, ch, hwraps, if_neg hw, List.append_assoc]
        rfl
    have hheld : ch.requests.any (·.isFor i due) = true ↔ held := by simp [Request.isFor, held]
    refine ⟨fun hoff => (if_pos hoff).trans hmissed, fun hon hh => (if_neg hon).trans (if_pos (hheld.2 hh)),
      fun hon hh hfull => (if_neg hon).trans ((if_neg (mt hheld.1 hh)).trans ((if_pos hfull).trans hmissed)),
      fun ps qs hon hh hreq hlen hps hqs => ?_⟩
    refine (if_neg hon).trans ((if_neg (mt hheld.1 hh)).trans ((if_neg (by simpa [pendingPlaces] using hlen)).trans ?_))
    have hinsert : insertRequest q ch.requests = ps ++ q :: qs := by
      rw [hreq]
      refine insertRequest_append (fun p hp => ?_) fun p hp => Request.before_iff.2 (hqs p hp)
      rw [← Bool.not_eq_true, Request.before_iff]
      rintro (hlt | ⟨heq, hlt⟩) <;> rcases hps p hp with hlt' | ⟨heq', hlt'⟩
      · exact Nat.lt_asymm hlt hlt'
      · exact Nat.ne_of_lt hlt heq'.symm
      · exact Nat.ne_of_lt hlt' heq.symm
      · exact Fin.lt_asymm hlt hlt'
    rw [← hinsert]
    rfl

/-- Settles O41. -/
theorem unkeyedDeadlinesEndRequests : Obligations.UnkeyedDeadlinesEndRequests := by
  unfold Obligations.UnkeyedDeadlinesEndRequests
  intro ended broken
  have hended (s : State) (c : ChannelNo) (q : Request) (o : BulletinOutcome) (lateness : Option Nat) :
      s.endRequest c q o lateness false = ended s c q o lateness := by
    rw [State.endRequest_eq]
    rw [State.outcomeNotices, ← List.append_assoc]
    cases o <;> rfl
  have hbroken (s : State) (c : ChannelNo) (q : Request) : s.endBroken c q false = broken s c q := by
    refine (hended ..).trans ?_
    cases hf : q.firstStart <;> simp [broken, Request.brokenOutcome, Request.lateness, hf]
  refine ⟨hended, hbroken, fun s c => ?_, fun s c q ho hq honly hwaits => ?_⟩
  · intro next
    have hnext : s.project (s.chan c).settings.period = next := rfl
    have hkeyed : (s.chan c).state.keyed = true ↔ (s.chan c).state = .onAir ∨ (s.chan c).state = .closing := by
      cases (s.chan c).state <;> simp [ChanState.keyed]
    simp only [State.judgeBoundary, hkeyed, hnext, State.endAllBroken, hbroken, Bool.decide_and]
  · intro x
    refine ⟨fun hpast hstate => ?_, fun hno => ?_⟩
    · have hpassed : s.deadlinePassed c q = true := State.deadlinePassed_iff.2 ⟨hstate, hwaits, hpast⟩
      rw [← hbroken]
      exact exec_requestDeadline_of_some ((State.overdueRequest_eq hq honly).trans (if_pos hpassed))
    · have hnot : ¬s.deadlinePassed c q = true := by
        rw [State.deadlinePassed_iff]
        rintro ⟨hstate, -, hpast⟩
        rcases hno with hlt | hkeyed
        · omega
        · simp only [List.mem_cons, List.not_mem_nil, or_false] at hstate hkeyed
          rcases hstate with h | h | h <;> simp [h] at hkeyed
      exact (exec_requestDeadline_of_none ((State.overdueRequest_eq hq honly).trans (if_neg hnot))).trans
        (congrArg _ (State.flush_eq ho))

end Sys2Proof.Proofs
end

section
/-! The part after a reset (section 10.7) meets every law that the steps keep. -/

namespace Sys2Proof.Machine

theorem vget_replicate {α : Type} (n : Nat) (x : α) (i : Fin n) : vget (Vector.replicate n x) i = x := by
  simp [vget]

/-- A part that holds nothing: every block free, every message FREE, every channel and area at its reset value, no load
open. -/
structure State.Blank (s : State) : Prop where
  split : s.store.split = Config.resetSplit
  free : s.store.free = poolBlocks Config.resetSplit
  descs : s.descs = Vector.replicate 256 Descriptor.reset
  chan : ∀ c, ∃ ready, s.chan c = Channel.reset ready
  area : ∀ a, s.area a = Area.reset
  load : s.loadUnit.current = none

section
variable {s : State}

theorem State.Blank.desc (hs : s.Blank) (h : Handle) : s.desc h = Descriptor.reset := by
  rw [State.desc, hs.descs, vget_replicate]

theorem State.Blank.blocksOk (hs : s.Blank) : s.blocksOk := by
  have hchains : s.descs.toList.flatMap (·.chain) = [] := by
    rw [hs.descs, Vector.toList_replicate]
    exact List.flatMap_eq_nil_iff.2 fun d hd => (congrArg Descriptor.chain (List.eq_of_mem_replicate hd)).trans rfl
  refine ⟨?_, ?_⟩
  · rw [hchains, List.append_nil, hs.free, hs.split]
  · rw [hs.split]
    simp [Config.resetSplit]

theorem State.Blank.placesOk (hs : s.Blank) : s.placesOk := by
  have hempty (c : ChannelNo) : (∀ k, (s.chan c).queue k = []) ∧ (s.chan c).active = none ∧ (s.chan c).sent = [] := by
    obtain ⟨ready, hc⟩ := hs.chan c
    rw [hc]
    exact ⟨fun k => by cases k <;> rfl, rfl, rfl⟩
  have hfree (h : Handle) : (s.desc h).state = .free := by
    rw [hs.desc]
    rfl
  refine ⟨fun c k h => ?_, fun c h => ?_, fun c h => ?_, fun c h => ?_, fun c => ?_, fun h _ => ?_, fun h _ => ?_,
    fun g h _ hlive => absurd (hfree g) hlive⟩
  · simp [(hempty c).1, hfree]
  · simp [(hempty c).2.1, hfree]
  · simp [(hempty c).2.2, hfree]
  · simp [hs.load, hfree]
  · simp [(hempty c).1, (hempty c).2.2]
  · simp [hfree]
  · rw [hs.desc]
    rfl

theorem State.Blank.itemsOk (hs : s.Blank) : s.itemsOk := by
  intro c
  obtain ⟨ready, hc⟩ := hs.chan c
  simp [hc, Channel.reset, ChanState.keyed, Item.slotMessage, Item.onAirRequest]

theorem State.Blank.textOk (hs : s.Blank) : s.textOk := by
  intro h
  simp [hs.desc, Descriptor.reset]

theorem State.Blank.areasOk (hs : s.Blank) : s.areasOk := by
  intro a
  have hkeying : s.keying a = [] := by
    refine List.filter_eq_nil_iff.2 fun c _ => ?_
    obtain ⟨ready, hc⟩ := hs.chan c
    simp [hc, Channel.reset, Item.onAirRequest]
  simp [hs.area, Area.reset, hkeying, hs.load]

theorem State.Blank.loadOk (hs : s.Blank) : s.loadOk := by
  intro l hl
  rw [hs.load] at hl
  cases hl

theorem State.Blank.requestsOk (hs : s.Blank) : s.requestsOk := by
  intro c
  obtain ⟨ready, hc⟩ := hs.chan c
  simp [hc, Channel.reset]

theorem State.Blank.trafficOk (hs : s.Blank) : s.trafficOk :=
  ⟨hs.placesOk, hs.itemsOk, hs.textOk, hs.areasOk, hs.loadOk, hs.requestsOk⟩

end

theorem State.chan_reset (c : ChannelNo) : State.reset.chan c = Channel.reset false := vget_replicate ..

theorem State.reset_blank : State.reset.Blank where
  split := by simp only [State.reset, Store.reset]
  free := by simp only [State.reset, Store.reset]
  descs := by simp only [State.reset]
  chan := fun c => ⟨false, State.chan_reset c⟩
  area := fun _ => vget_replicate ..
  load := by simp only [State.reset, LoadUnit.reset]

/-- A reset touches the pool, the messages, the areas and the load as power-on does. -/
theorem State.powerOn_blank (s : State) : s.powerOn.Blank where
  split := State.reset_blank.split
  free := State.reset_blank.free
  descs := State.reset_blank.descs
  chan := fun c => ⟨_, s.chan_powerOn c⟩
  area := State.reset_blank.area
  load := State.reset_blank.load

theorem State.restarted_blank (s : State) : s.restarted.Blank where
  split := State.reset_blank.split
  free := State.reset_blank.free
  descs := State.reset_blank.descs
  chan := fun c => ⟨_, s.chan_restarted c⟩
  area := State.reset_blank.area
  load := State.reset_blank.load

end Sys2Proof.Machine

namespace Sys2Proof.Proofs

open Sys2Proof.Machine

/-- Settles O60. -/
theorem resetMeetsTheLaws : Obligations.ResetMeetsTheLaws := by
  unfold Obligations.ResetMeetsTheLaws
  refine ⟨rfl, ⟨?_, ?_⟩, fun c => ?_, State.allowancesOk_of_reset rfl fun c => ⟨_, State.chan_reset c⟩,
    ⟨Link.reset_ok 0 0, rfl⟩, State.reset_blank.requestsOk, fun c => ?_, State.reset_blank.blocksOk,
    State.reset_blank.trafficOk⟩
  · simp [State.reset, Clock.reset]
  · simp [State.reset, Clock.reset]
  · rw [State.chan_reset]
    refine ⟨rfl, ?_, ?_, ?_⟩ <;> simp [Channel.reset, Stats.reset, Parser.reset]
  · rw [State.chan_reset]
    simp [Channel.reset, RxCounts.reset]

end Sys2Proof.Proofs
end

section
/-! The fit test (section 7.3): S_n, the candidate ends, those that qualify, their cost and the plan. -/

namespace Sys2Proof.Machine

/-! ### S_n -/

theorem minOpt_eq_some_iff {a b : Option Nat} {m : Nat} :
    minOpt a b = some m ↔ (a = some m ∨ b = some m) ∧ (∀ x, a = some x → m ≤ x) ∧ ∀ x, b = some x → m ≤ x := by
  cases a <;> cases b <;> simp only [minOpt, Option.some.injEq, reduceCtorEq] <;> simp <;> omega

theorem earliestOf_mem {ts : List Nat} {m : Nat} (h : earliestOf ts = some m) : m ∈ ts :=
  (earliestOf_eq_some_iff.1 h).1

theorem le_earliestOf_iff {ts : List Nat} {m : Nat} : (∀ x, earliestOf ts = some x → m ≤ x) ↔ ∀ t ∈ ts, m ≤ t := by
  cases h : earliestOf ts with
  | none => simp [earliestOf_eq_none_iff.1 h]
  | some x =>
    obtain ⟨hmem, hle⟩ := earliestOf_eq_some_iff.1 h
    simp only [Option.some.injEq, forall_eq']
    exact ⟨fun hm t ht => hm.trans (hle t ht), fun hall => hall x hmem⟩

section
variable {s : State} {c : ChannelNo}

/-- R115. A bulletin of the channel is due at a time: by a WAITING request, or by the next occurrence. -/
def State.bulletinDue (s : State) (c : ChannelNo) (t : Nat) : Prop :=
  (∃ q ∈ (s.chan c).requests, q.state = .waiting ∧ q.due = t) ∨ s.nextOccurrence c = some t

theorem State.nextBulletin_eq_some_iff {m : Nat} :
    s.nextBulletin c = some m ↔ s.bulletinDue c m ∧ ∀ t, s.bulletinDue c t → m ≤ t := by
  have hmem (t : Nat) : t ∈ ((s.chan c).requests.filter fun q => decide (q.state = .waiting)).map (·.due)
      ↔ ∃ q ∈ (s.chan c).requests, q.state = .waiting ∧ q.due = t := by simp [and_assoc]
  rw [State.nextBulletin, minOpt_eq_some_iff, le_earliestOf_iff]
  simp only [hmem, State.bulletinDue, or_imp, forall_and]
  constructor
  · rintro ⟨hm, hreq, hocc⟩
    exact ⟨hm.imp_left fun h => (hmem m).1 (earliestOf_mem h), hreq, hocc⟩
  · rintro ⟨hm, hreq, hocc⟩
    refine ⟨hm.imp_left fun h => earliestOf_eq_some_iff.2 ⟨(hmem m).2 h, fun t ht => hreq t ((hmem t).1 ht)⟩, hreq, hocc⟩

end

/-! ### Candidate ends -/

theorem stretch_length (symbol : Nat → Nat) (x n : Nat) : (stretch symbol x n).length = n := by simp [stretch]

theorem stretch_getD {symbol : Nat → Nat} {x n i : Nat} (h : i < n) : (stretch symbol x n).getD i 0 = symbol (x + i) := by
  simp [stretch, List.getD_eq_getElem?_getD, h]

theorem stretch_take {symbol : Nat → Nat} {x n m : Nat} (h : m ≤ n) : (stretch symbol x n).take m = stretch symbol x m := by
  refine List.ext_getElem (by simp [stretch, h]) fun i _ _ => ?_
  simp [stretch]

theorem stretch_any {symbol : Nat → Nat} {x n : Nat} {p : Nat → Bool} :
    (stretch symbol x n).any p = false ↔ ∀ b, x < b → b ≤ x + n → p (symbol (b - 1)) = false := by
  simp only [stretch, List.any_eq_false, List.mem_map, List.mem_range'_1, forall_exists_index, and_imp, Bool.not_eq_true]
  constructor
  · intro h b hlo hhi
    exact h _ (b - 1) (by omega) (by omega) rfl
  · rintro h y i hlo hhi rfl
    have := h (i + 1) (by omega) (by omega)
    simpa using this

/-- A text for which a plan is sought: its symbols, the resume point r, the length L and the quantum Q. -/
structure Remainder where
  symbol : Nat → Nat
  r : Nat
  L : Nat
  Q : Nat

/-- The min(Q, rem) symbols from r on (R116). -/
def Remainder.window (t : Remainder) : List Nat := stretch t.symbol t.r (min t.Q (t.L - t.r))

/-- A text ends a word at e (R14). -/
def Remainder.boundary (t : Remainder) (e : Nat) : Prop := endsWord (t.symbol (e - 1)) = true

/-- R116. -/
def Remainder.candidate (t : Remainder) (e : Nat) : Prop :=
  t.r < e ∧ e ≤ t.r + min t.Q (t.L - t.r) ∧ (t.boundary e ∨ e = t.L
    ∨ e = t.r + t.Q ∧ t.Q < t.L - t.r ∧ ∀ b, t.r < b → b ≤ t.r + t.Q → ¬t.boundary b)

/-- A candidate end that is long enough (R116). -/
def Remainder.long (t : Remainder) (M e : Nat) : Prop := min M t.Q ≤ e - t.r ∨ e = t.L

/-- R116. -/
def Remainder.qualifies (t : Remainder) (M e : Nat) : Prop :=
  t.candidate e ∧ (t.long M e ∨ ∀ b, t.candidate b → ¬t.long M b)

/-- R117. The cost of an end in line symbols, behind a header of cost h and from a line case. -/
def Remainder.cost (t : Remainder) (h : Nat) (start : LineCase) (e : Nat) : Nat :=
  h + (e - t.r) + shiftCount start ((List.range' t.r (e - t.r)).map t.symbol) + if e = t.L then 0 else 3

section
variable {t : Remainder} {M e : Nat}

theorem Remainder.mem_candidateEnds : e ∈ candidateEnds t.window t.r t.L t.Q ↔ t.candidate e := by
  have hwindow : t.window.length = min t.Q (t.L - t.r) := stretch_length ..
  have hany : t.Q < t.L - t.r → (t.window.any endsWord = false ↔ ∀ b, t.r < b → b ≤ t.r + t.Q → ¬t.boundary b) := by
    intro hq
    rw [Remainder.window, min_eq_left hq.le, stretch_any]
    simp only [Remainder.boundary, Bool.not_eq_true]
  have hat {i : Nat} (hi : i < min t.Q (t.L - t.r)) : endsWord (t.window.getD i 0) = true ↔ t.boundary (t.r + i + 1) := by
    rw [Remainder.window, stretch_getD hi]
    rfl
  simp only [candidateEnds, List.mem_map, List.mem_filter, List.mem_range, hwindow, Bool.or_eq_true, Bool.and_eq_true,
    decide_eq_true_eq, Bool.not_eq_true', or_assoc, and_assoc]
  constructor
  · rintro ⟨i, hi, hcase, rfl⟩
    refine ⟨by omega, by omega, ?_⟩
    rcases hcase with hword | hlast | ⟨hquantum, hmore, hnone⟩
    · exact .inl ((hat hi).1 hword)
    · exact .inr (.inl hlast)
    · exact .inr (.inr ⟨by omega, by omega, (hany (by omega)).1 hnone⟩)
  · rintro ⟨hlo, hhi, hcase⟩
    refine ⟨e - t.r - 1, by omega, ?_, by omega⟩
    rcases hcase with hword | hlast | ⟨hquantum, hmore, hnone⟩
    · refine .inl ((hat (by omega)).2 ?_)
      rwa [show t.r + (e - t.r - 1) + 1 = e by omega]
    · exact .inr (.inl (by omega))
    · exact .inr (.inr ⟨by omega, by omega, (hany hmore).2 hnone⟩)

theorem candidateEnds_pairwise (window : List Nat) (r L Q : Nat) : (candidateEnds window r L Q).Pairwise (· < ·) := by
  refine List.Pairwise.map _ (fun a b hab => ?_) (List.Pairwise.filter _ List.pairwise_lt_range)
  show r + a + 1 < r + b + 1
  omega

theorem qualifyingEnds_pairwise (window : List Nat) (r L Q M : Nat) :
    (qualifyingEnds window r L Q M).Pairwise (· < ·) := by
  unfold qualifyingEnds
  dsimp only
  split
  · exact candidateEnds_pairwise ..
  · exact (candidateEnds_pairwise ..).filter _

theorem Remainder.mem_qualifyingEnds : e ∈ qualifyingEnds t.window t.r t.L t.Q M ↔ t.qualifies M e := by
  have hlong (b : Nat) : (decide (min M t.Q ≤ b - t.r) || decide (b = t.L)) = true ↔ t.long M b := by
    simp [Remainder.long]
  unfold qualifyingEnds
  dsimp only
  split
  · next hempty =>
    have hnone : ∀ b, t.candidate b → ¬t.long M b := by
      intro b hb hl
      rw [List.isEmpty_iff, List.filter_eq_nil_iff] at hempty
      exact hempty b (Remainder.mem_candidateEnds.2 hb) ((hlong b).2 hl)
    rw [Remainder.mem_candidateEnds]
    exact ⟨fun h => ⟨h, .inr hnone⟩, fun h => h.1⟩
  · next hempty =>
    obtain ⟨b, hb⟩ := List.exists_mem_of_ne_nil _ (mt List.isEmpty_iff.2 hempty)
    rw [List.mem_filter, hlong, Remainder.mem_candidateEnds] at hb
    rw [List.mem_filter, hlong, Remainder.mem_candidateEnds]
    exact ⟨fun ⟨h, hl⟩ => ⟨h, .inl hl⟩, fun ⟨h, hl⟩ => ⟨h, hl.resolve_right fun hno => hno b hb.1 hb.2⟩⟩

/-- The last of an ascending list is its greatest. -/
theorem getLast?_eq_some_iff_greatest {xs : List Nat} (h : xs.Pairwise (· < ·)) {m : Nat} :
    xs.getLast? = some m ↔ m ∈ xs ∧ ∀ x ∈ xs, x ≤ m := by
  induction xs using List.reverseRecOn with
  | nil => simp
  | append_singleton xs y _ =>
    have hbelow : ∀ x ∈ xs, x < y := fun x hx => (List.pairwise_append.1 h).2.2 x hx y (by simp)
    rw [List.getLast?_append, List.getLast?_singleton, Option.some_or, Option.some.injEq]
    simp only [List.mem_append, List.mem_singleton, or_imp, forall_and, forall_eq]
    constructor
    · rintro rfl
      exact ⟨.inr rfl, fun x hx => (hbelow x hx).le, le_rfl⟩
    · rintro ⟨hm | rfl, -, hy⟩
      · exact absurd (hbelow m hm) (by omega)
      · rfl

theorem Remainder.endCost_eq (he : t.candidate e) (h : Nat) (start : LineCase) :
    endCost t.window t.r t.L h start e = t.cost h start e := by
  rw [endCost, Remainder.window, stretch_take (by have := he.2.1; omega)]
  rfl

/-- R118. Without a bulletin ahead the plan is the largest qualifying end. -/
theorem Remainder.planEnd_none (h : Nat) (start : LineCase) : planEnd t.window t.r t.L t.Q M h start none = some e
    ↔ t.qualifies M e ∧ ∀ b, t.qualifies M b → b ≤ e := by
  rw [planEnd, getLast?_eq_some_iff_greatest ((qualifyingEnds_pairwise ..).filter _)]
  simp only [List.filter_true, Remainder.mem_qualifyingEnds]

/-- R118. Ahead of a bulletin the plan is the largest qualifying end within the budget. -/
theorem Remainder.planEnd_some (h : Nat) (start : LineCase) (budget : Int) :
    planEnd t.window t.r t.L t.Q M h start (some budget) = some e
      ↔ t.qualifies M e ∧ (t.cost h start e : Int) ≤ budget
        ∧ ∀ b, t.qualifies M b → (t.cost h start b : Int) ≤ budget → b ≤ e := by
  have hmem (b : Nat) : b ∈ (qualifyingEnds t.window t.r t.L t.Q M).filter
      (fun e => decide ((endCost t.window t.r t.L h start e : Int) ≤ budget))
        ↔ t.qualifies M b ∧ (t.cost h start b : Int) ≤ budget := by
    rw [List.mem_filter, Remainder.mem_qualifyingEnds, decide_eq_true_eq]
    exact and_congr_right fun hq => by rw [Remainder.endCost_eq hq.1]
  rw [planEnd, getLast?_eq_some_iff_greatest ((qualifyingEnds_pairwise ..).filter _), hmem]
  simp only [hmem, and_imp, and_assoc]

end

end Sys2Proof.Machine

end

section
/-! The fit test of a message, the choice of case 4, and the key-up causes (sections 7.2, 7.3 and 8.3). -/

namespace Sys2Proof.Machine

section
variable {s : State} {c : ChannelNo} {h : Handle} {t : Nat} {header : Bool} {lc : LineCase}

/-- The rest of a message's text, with the quantum of its channel. -/
def State.remainder (s : State) (c : ChannelNo) (h : Handle) : Remainder :=
  ⟨s.textSymbol h, (s.desc h).resume, (s.desc h).length, (s.chan c).settings.quantum⟩

/-- R117. The cost of an end of a message's segment, with the header if it has one. -/
def State.planCost (s : State) (c : ChannelNo) (h : Handle) (header : Bool) (lc : LineCase) (e : Nat) : Nat :=
  (s.remainder c h).cost (if header then headerCost lc else 0) (if header then .figures else lc) e

theorem State.fitTest_of_none (hn : s.nextBulletin c = none) : s.fitTest c h t header lc
    = ⟨t, none, none, none, h, planEnd (s.remainder c h).window (s.desc h).resume (s.desc h).length
      (s.chan c).settings.quantum (s.chan c).settings.minSegment (if header then headerCost lc else 0)
      (if header then .figures else lc) none⟩ := by
  simp only [State.fitTest, hn]
  rfl

theorem State.fitTest_of_some {due : Nat} (hn : s.nextBulletin c = some due) : s.fitTest c h t header lc
    = ⟨t, some due, some (margin due (s.chan c).settings.guard t),
      some (margin due (s.chan c).settings.guard t / ((s.chan c).settings.period : Int)), h,
      if margin due (s.chan c).settings.guard t < 0 then none else planEnd (s.remainder c h).window (s.desc h).resume
        (s.desc h).length (s.chan c).settings.quantum (s.chan c).settings.minSegment (if header then headerCost lc else 0)
        (if header then .figures else lc) (some (margin due (s.chan c).settings.guard t / ((s.chan c).settings.period : Int)))⟩ := by
  simp only [State.fitTest, hn]
  rfl

/-- A cost within the budget ends within the margin. -/
theorem cost_mul_le_of_le_ediv {k p : Nat} {m : Int} (hm : 0 ≤ m) (h : (k : Int) ≤ m / (p : Int)) : (k * p : Int) ≤ m := by
  obtain rfl | hp := Nat.eq_zero_or_pos p
  · simpa using hm
  · exact (Int.mul_le_mul_of_nonneg_right h (by omega)).trans (Int.ediv_mul_le m (by omega))

theorem State.planned_iff_of_none {e : Nat} (hn : s.nextBulletin c = none) :
    (s.fitTest c h t header lc).planned = some e ↔ (s.remainder c h).qualifies (s.chan c).settings.minSegment e
      ∧ ∀ b, (s.remainder c h).qualifies (s.chan c).settings.minSegment b → b ≤ e := by
  rw [State.fitTest_of_none hn]
  exact Remainder.planEnd_none (t := s.remainder c h) (if header then headerCost lc else 0) (if header then .figures else lc)

theorem State.planned_iff_of_some {e due : Nat} (hn : s.nextBulletin c = some due) :
    (s.fitTest c h t header lc).planned = some e ↔ 0 ≤ margin due (s.chan c).settings.guard t
      ∧ (s.remainder c h).qualifies (s.chan c).settings.minSegment e
      ∧ (s.planCost c h header lc e : Int) ≤ margin due (s.chan c).settings.guard t / ((s.chan c).settings.period : Int)
      ∧ ∀ b, (s.remainder c h).qualifies (s.chan c).settings.minSegment b → (s.planCost c h header lc b : Int)
        ≤ margin due (s.chan c).settings.guard t / ((s.chan c).settings.period : Int) → b ≤ e := by
  rw [State.fitTest_of_some hn]
  by_cases hm : margin due (s.chan c).settings.guard t < 0
  · simp only [if_pos hm, reduceCtorEq, false_iff]
    exact fun hfits => absurd hfits.1 (by omega)
  · simp only [if_neg hm]
    exact (Remainder.planEnd_some (t := s.remainder c h) _ _ _).trans (and_iff_right (Int.not_lt.1 hm)).symm

/-- R119. A plan leaves the guard time before the bulletin. -/
theorem State.planned_ends_in_time {e due : Nat} (hp : (s.fitTest c h t header lc).planned = some e)
    (hn : s.nextBulletin c = some due) :
    t + (s.chan c).settings.guard + s.planCost c h header lc e * (s.chan c).settings.period ≤ due := by
  obtain ⟨hm, -, hcost, -⟩ := (State.planned_iff_of_some hn).1 hp
  have hfits := cost_mul_le_of_le_ediv hm hcost
  unfold margin at hfits
  have := Int.natCast_mul (s.planCost c h header lc e) (s.chan c).settings.period
  omega

/-- R116. A plan ends beyond the resume point and within the text. -/
theorem State.planned_qualifies {e : Nat} (hp : (s.fitTest c h t header lc).planned = some e) :
    (s.remainder c h).qualifies (s.chan c).settings.minSegment e := by
  cases hn : s.nextBulletin c with
  | none => exact ((State.planned_iff_of_none hn).1 hp).1
  | some due => exact ((State.planned_iff_of_some hn).1 hp).2.1

/-! ### The choice of case 4 -/

/-- R163. -/
theorem Channel.isHeld_iff {ch : Channel} {ship : Nat} : ch.isHeld ship = true ↔ ∃ r ∈ ch.holds, r.ship = ship := by
  simp [Channel.isHeld]

/-- R111. The first handle of a queue whose ship is not held. -/
theorem State.oldestEligible_eq_some_iff {q : List Handle} : s.oldestEligible c q = some h
    ↔ ∃ ps qs, q = ps ++ h :: qs ∧ (∀ g ∈ ps, ∃ r ∈ (s.chan c).holds, r.ship = (s.desc g).dest)
      ∧ ¬∃ r ∈ (s.chan c).holds, r.ship = (s.desc h).dest := by
  have hfree (g : Handle) : (!(s.chan c).isHeld (s.desc g).dest) = true
      ↔ ¬∃ r ∈ (s.chan c).holds, r.ship = (s.desc g).dest := by
    rw [Bool.not_eq_true', ← Channel.isHeld_iff, Bool.not_eq_true]
  have hheld (g : Handle) : (!!(s.chan c).isHeld (s.desc g).dest) = true
      ↔ ∃ r ∈ (s.chan c).holds, r.ship = (s.desc g).dest := by
    rw [Bool.not_not, Channel.isHeld_iff]
  simp only [State.oldestEligible, List.find?_eq_some_iff_append, hfree, hheld]
  constructor
  · rintro ⟨hno, ps, qs, rfl, hps⟩
    exact ⟨ps, qs, rfl, hps, hno⟩
  · rintro ⟨ps, qs, rfl, hps, hno⟩
    exact ⟨hno, ps, qs, rfl, hps⟩

theorem State.oldestEligible_eq_none_iff {q : List Handle} : s.oldestEligible c q = none
    ↔ ∀ g ∈ q, ∃ r ∈ (s.chan c).holds, r.ship = (s.desc g).dest := by
  simp [State.oldestEligible, Channel.isHeld]

theorem State.chooseNew_eq_some_iff : s.chooseNew c = some h ↔
    (s.chan c).urgentRun < (s.chan c).settings.urgentRun ∧ s.oldestEligible c (s.chan c).urgentQ = some h
    ∨ (¬(s.chan c).urgentRun < (s.chan c).settings.urgentRun ∨ s.oldestEligible c (s.chan c).urgentQ = none)
      ∧ s.oldestEligible c (s.chan c).ordinaryQ = some h
    ∨ ¬(s.chan c).urgentRun < (s.chan c).settings.urgentRun ∧ s.oldestEligible c (s.chan c).ordinaryQ = none
      ∧ s.oldestEligible c (s.chan c).urgentQ = some h := by
  unfold State.chooseNew
  dsimp only
  by_cases hrun : (s.chan c).urgentRun < (s.chan c).settings.urgentRun <;>
    cases hu : s.oldestEligible c (s.chan c).urgentQ <;> cases ho : s.oldestEligible c (s.chan c).ordinaryQ <;>
    simp [hrun]

/-! ### Key-up causes -/

theorem Descriptor.resuming_iff {d : Descriptor} : d.resuming = true ↔ d.state = .parked ∨ d.state = .suspended := by
  simp [Descriptor.resuming]

theorem Descriptor.resuming_eq (d : Descriptor) : d.resuming = decide (d.state = .parked ∨ d.state = .suspended) := by
  rw [Bool.eq_iff_iff, Descriptor.resuming_iff, decide_eq_true_eq]

theorem State.parkedMessage_eq_some_iff :
    s.parkedMessage c = some h ↔ (s.chan c).active = some h ∧ (s.desc h).state = .parked := by
  simp [State.parkedMessage, Option.filter_eq_some_iff]

/-- R120. -/
theorem State.trialCandidate_eq_some_iff : s.trialCandidate c = some h ↔
    (s.parkedMessage c = some h ∧ ¬∃ r ∈ (s.chan c).holds, r.ship = (s.desc h).dest)
    ∨ (∀ g, s.parkedMessage c = some g → ∃ r ∈ (s.chan c).holds, r.ship = (s.desc g).dest) ∧ s.chooseNew c = some h := by
  simp only [← Channel.isHeld_iff]
  unfold State.trialCandidate
  cases hp : s.parkedMessage c with
  | none => simp
  | some g =>
    by_cases hheld : (s.chan c).isHeld (s.desc g).dest = true
    · simp only [hheld, if_true, Option.some.injEq, forall_eq', true_and]
      exact ⟨.inr, Or.rec (fun ⟨hg, hno⟩ => absurd (hg ▸ hheld) hno) id⟩
    · simp only [hheld, if_false, Option.some.injEq, forall_eq', false_and, or_false, Bool.false_eq_true]
      exact ⟨fun hg => ⟨hg, hg ▸ hheld⟩, fun hg => hg.1⟩

theorem State.trialFits_iff : s.trialFits c = true ↔ ∃ h e, s.trialCandidate c = some h
    ∧ (s.fitTest c h (s.project (s.chan c).settings.keyUpLimit) (s.desc h).resuming .unknown).planned = some e := by
  unfold State.trialFits
  cases s.trialCandidate c <;> simp [Option.isSome_iff_exists]

/-- R138 cause 3. -/
theorem State.thresholdReached_iff : s.thresholdReached c = true ↔ ∃ due, s.nextOccurrence c = some due
    ∧ due ≤ s.now + (s.chan c).settings.guard + (s.chan c).settings.keyUpLimit := by
  unfold State.thresholdReached
  cases s.nextOccurrence c <;> simp

theorem State.keyUpCause_iff : s.keyUpCause c = true ↔ (s.chan c).relayQ ≠ []
    ∨ (∃ q ∈ (s.chan c).requests, q.state = .waiting) ∨ s.thresholdReached c = true ∨ s.trialFits c = true := by
  simp [State.keyUpCause, or_assoc]

/-! ### Judging the causes -/

/-- A notice is stamped with a clock that stands still in the step. -/
theorem State.emit_of_clock {t : State} (hclock : t.clock = s.clock) (e : Event) (ch : Option ChannelNo)
    (fs : List Field) : t.emit e ch fs = { t with outbox := t.outbox ++ [⟨e, ch, s.clock.ms, fs⟩] } := by
  rw [State.emit, hclock]

theorem State.judgeWithin_cons {n : Nat} {cs : List ChannelNo} : State.judgeWithin (n + 1) (c :: cs) s
    = if (s.chan c).state = .standby ∧ s.keyUpCause c = true then
        State.judgeWithin n (cs ++ if (s.chan c).ready then s.decisionTouches c else []) (s.keyUp c)
      else State.judgeWithin n cs s := rfl

theorem State.judgeWithin_nil (n : Nat) : State.judgeWithin n [] s = s := by cases n <;> rfl

theorem State.judgeKeyUp_cons {cs : List ChannelNo} : s.judgeKeyUp (c :: cs)
    = if (s.chan c).state = .standby ∧ s.keyUpCause c = true then
        State.judgeWithin 1023 (cs ++ if (s.chan c).ready then s.decisionTouches c else []) (s.keyUp c)
      else State.judgeWithin 1023 cs s := State.judgeWithin_cons

/-- R134. A channel that is not STANDBY, and one without a cause, stays. -/
theorem State.judgeKeyUp_stays (hno : (s.chan c).state ≠ .standby ∨ s.keyUpCause c = false) : s.judgeKeyUp [c] = s := by
  rw [State.judgeKeyUp_cons, if_neg, State.judgeWithin_nil]
  rintro ⟨hstate, hcause⟩
  rcases hno with hno | hno
  · exact hno hstate
  · simp [hcause] at hno

/-- R138. -/
theorem State.keyUp_of_not_ready (hr : (s.chan c).ready = false) :
    s.keyUp c = s.setChan c { s.chan c with state := .keyUp, keyRise := s.clock.elapsed } := by
  rw [State.keyUp, hr]
  rfl

theorem State.judgeKeyUp_raises (hstate : (s.chan c).state = .standby) (hcause : s.keyUpCause c = true)
    (hr : (s.chan c).ready = false) :
    s.judgeKeyUp [c] = s.setChan c { s.chan c with state := .keyUp, keyRise := s.clock.elapsed } := by
  rw [State.judgeKeyUp_cons, if_pos ⟨hstate, hcause⟩, hr, State.keyUp_of_not_ready hr]
  exact State.judgeWithin_nil _

/-- R139. A key request that finds ready present takes the channel to ON-AIR at once. -/
theorem State.keyUp_of_ready (hr : (s.chan c).ready = true) : s.keyUp c
    = ((s.setChan c { s.chan c with
        state := .onAir, keyRise := s.clock.elapsed, lineCase := .unknown, item := .noItem, idleSince := none
        symbolEnd := s.clock.elapsed + (s.chan c).settings.period }).decisionPoint c none).emit .keyed (some c)
          [.num 6 0] := by
  have hkeyed : (s.modChan c fun ch => { ch with state := .keyUp, keyRise := s.clock.elapsed }).keyed c
      = s.setChan c { s.chan c with
        state := .onAir, keyRise := s.clock.elapsed, lineCase := .unknown, item := .noItem, idleSince := none
        symbolEnd := s.clock.elapsed + (s.chan c).settings.period } := by
    simp [State.keyed, State.modChan]
  have hrise : ((s.modChan c fun ch => { ch with state := .keyUp, keyRise := s.clock.elapsed }).chan c).keyRise
      = s.clock.elapsed := by
    rw [State.chan_modChan, if_pos rfl]
  rw [State.keyUp, hr, if_pos rfl, State.enterOnAir, hkeyed, hrise]
  have hzero : (s.modChan c fun ch => { ch with state := .keyUp, keyRise := s.clock.elapsed }).clock.elapsed
      - s.clock.elapsed = 0 := Nat.sub_self _
  rw [hzero]
  rfl

end

end Sys2Proof.Machine

namespace Sys2Proof.Proofs

open Sys2Proof.Machine

/-- Settles O43. -/
theorem keyUpCausesAreJudged : Obligations.KeyUpCausesAreJudged := by
  unfold Obligations.KeyUpCausesAreJudged
  refine ⟨fun s c m => State.nextBulletin_eq_some_iff, fun s c h t header lc => ?_, fun s c => ?_, fun s c => ?_⟩
  · intro d x r f boundary candidate long qualifies cost
    have hboundary (e : Nat) : (s.remainder c h).boundary e ↔ boundary e := by
      simp [Remainder.boundary, State.remainder, endsWord, symSpace, symCR, symLF, boundary, or_assoc]
    have hcandidate (e : Nat) : (s.remainder c h).candidate e ↔ candidate e := by
      simp only [Remainder.candidate, hboundary]
      rfl
    have hqualifies (e : Nat) : (s.remainder c h).qualifies x.minSegment e ↔ qualifies e := by
      simp only [Remainder.qualifies, hcandidate]
      rfl
    have hcost (e : Nat) : (s.remainder c h).cost (if header then headerCost lc else 0)
        (if header then .figures else lc) e = cost e := rfl
    have hnone {e : Nat} (hn : s.nextBulletin c = none) : f.planned = some e ↔ qualifies e ∧ ∀ b, qualifies b → b ≤ e := by
      simp only [← hqualifies]
      exact State.planned_iff_of_none hn
    have hsome {e due : Nat} (hn : s.nextBulletin c = some due) :
        f.planned = some e ↔ 0 ≤ margin due x.guard t ∧ qualifies e ∧ (cost e : Int) ≤ margin due x.guard t / (x.period : Int)
          ∧ ∀ b, qualifies b → (cost b : Int) ≤ margin due x.guard t / (x.period : Int) → b ≤ e := by
      simp only [← hqualifies]
      exact State.planned_iff_of_some hn
    have hrecord : f.time = t ∧ f.handle = h ∧ f.nextDue = s.nextBulletin c := by
      cases hn : s.nextBulletin c with
      | none =>
        simp only [f, State.fitTest_of_none hn]
        trivial
      | some due =>
        simp only [f, State.fitTest_of_some hn]
        trivial
    obtain ⟨htime, hhandle, hdue⟩ := hrecord
    refine ⟨htime, hhandle, hdue, fun hn => ⟨?_, ?_, fun e => hnone hn⟩, fun due hn => ?_⟩
    · simp only [f, State.fitTest_of_none hn]
    · simp only [f, State.fitTest_of_none hn]
    · intro margin
      refine ⟨?_, ?_, fun e => hsome hn, fun e he => State.planned_ends_in_time he hn⟩
      · simp only [f, State.fitTest_of_some hn]
        rfl
      · simp only [f, State.fitTest_of_some hn]
        rfl
  · intro ch held oldest h
    rw [State.chooseNew_eq_some_iff]
    simp only [State.oldestEligible_eq_some_iff, State.oldestEligible_eq_none_iff]
    rfl
  · intro ch held parked candidate start
    have hstart : s.project ch.settings.keyUpLimit = start := rfl
    refine ⟨?_, ?_, State.judgeKeyUp_stays, State.judgeKeyUp_raises, fun hstate hcause hr => ?_, ?_⟩
    · rw [State.trialFits_iff]
      simp only [State.trialCandidate_eq_some_iff, State.parkedMessage_eq_some_iff, Descriptor.resuming_eq]
      rfl
    · rw [State.keyUpCause_iff, State.thresholdReached_iff]
    · intro t
      rw [State.judgeKeyUp_cons, if_pos ⟨hstate, hcause⟩, State.keyUp_of_ready hr, if_pos (show (s.chan c).ready = true from hr)]
      have hclock : t.clock = s.clock := (State.decisionPoint_quiet _ c none).clock
      exact congrArg (State.judgeWithin 1023 _) (State.emit_of_clock hclock ..)
    · unfold State.keyRequest
      cases hst : (s.chan c).state <;> simp

end Sys2Proof.Proofs
end

section
/-! Ready and the threshold of a slot, decision points and selection (sections 7.1, 7.2, 7.4 and 8.3). -/

namespace Sys2Proof.Machine

section
variable {s : State} {c : ChannelNo} {h : Handle}

/-! ### Ready and the threshold -/

theorem State.readyInTime_iff : s.readyInTime c = true
    ↔ (s.chan c).state = .keyUp ∧ s.clock.elapsed ≤ (s.chan c).keyRise + (s.chan c).settings.keyUpLimit := by
  simp [State.readyInTime]

/-- R139. The entry to ON-AIR, its first decision point and KEYED. -/
theorem State.enterOnAir_eq (s : State) (c : ChannelNo) : s.enterOnAir c
    = ((s.setChan c { s.chan c with
        state := .onAir, lineCase := .unknown, symbolEnd := s.clock.elapsed + (s.chan c).settings.period
        idleSince := none, item := .noItem }).decisionPoint c none).emit .keyed (some c)
          [.num 6 (s.clock.elapsed - (s.chan c).keyRise)] := rfl

/-! ### Taking no occurrence -/

theorem State.takeOccurrences_nil (s : State) : s.takeOccurrences [] = s.drawn := rfl

/-! ### A decision point -/

theorem State.unfinished_eq_some (ha : (s.chan c).active = some h) (hst : (s.desc h).state = .active) :
    s.unfinished c = some h := by
  simp [State.unfinished, ha, hst]

theorem State.unfinished_eq_none (hno : ∀ h, (s.chan c).active = some h → (s.desc h).state ≠ .active) :
    s.unfinished c = none := by
  simpa [State.unfinished, Option.filter_eq_none_iff] using hno

/-- R105. What a decision point does behind the occurrences it takes. -/
theorem State.atDecision_of_unfinished (cut : Option Closes)
    (hu : (s.takeOccurrences (s.dueSlotsNaming c)).unfinished c = some h) :
    s.atDecision c cut = (s.takeOccurrences (s.dueSlotsNaming c)).settle c h := by
  simp only [State.atDecision, hu]

theorem State.atDecision_of_cut {w : Closes} (hu : (s.takeOccurrences (s.dueSlotsNaming c)).unfinished c = none) :
    s.atDecision c (some w) = (s.takeOccurrences (s.dueSlotsNaming c)).beginMarker c w .bulletinCut := by
  simp only [State.atDecision, hu]

theorem State.atDecision_of_finished (hu : (s.takeOccurrences (s.dueSlotsNaming c)).unfinished c = none) :
    s.atDecision c none = if ((s.takeOccurrences (s.dueSlotsNaming c)).chan c).state = .closing then
        (s.takeOccurrences (s.dueSlotsNaming c)).reachOffline c
      else (s.takeOccurrences (s.dueSlotsNaming c)).select c := by
  simp only [State.atDecision, hu]

/-- R123. No order before the last settles the message. -/
def State.settlesByFit (s : State) (c : ChannelNo) (h : Handle) : Prop :=
  (s.desc h).cancelRequested = false ∧ (s.chan c).state ≠ .closing ∧ (s.chan c).isHeld (s.desc h).dest = false
    ∧ (s.chan c).relayQ = []
    ∧ (s.chan c).requests.any (fun q => decide (q.state = .waiting ∧ q.due ≤ s.now ∧ s.now < q.deadline)) = false

theorem State.settle_of_planned {e : Nat} (hs : s.settlesByFit c h)
    (hp : (s.fitTest c h s.now false (s.chan c).lineCase).planned = some e) :
    s.settle c h = s.setChan c { s.chan c with
      item := .segment h (s.desc h).resume e none, idleSince := none
      lastFit := some (s.fitTest c h s.now false (s.chan c).lineCase) } := by
  obtain ⟨h1, h2, h3, h4, h5⟩ := hs
  unfold State.settle
  dsimp only
  rw [if_neg (by simp [h1]), if_neg h2, if_neg (by simp [h3]), if_neg (by simp [h4]),
    if_neg (ne_true_of_eq_false h5)]
  simp only [hp, State.recordFit, State.beginItem, State.modChan, State.chan_setChan, State.setChan_setChan, if_true]

theorem State.settle_of_none (hs : s.settlesByFit c h)
    (hp : (s.fitTest c h s.now false (s.chan c).lineCase).planned = none) :
    s.settle c h = s.setChan c { s.chan c with
      item := .marker (.message h) (.park .budget) 0, idleSince := none
      lastFit := some (s.fitTest c h s.now false (s.chan c).lineCase) } := by
  obtain ⟨h1, h2, h3, h4, h5⟩ := hs
  unfold State.settle
  dsimp only
  rw [if_neg (by simp [h1]), if_neg h2, if_neg (by simp [h3]), if_neg (by simp [h4]),
    if_neg (ne_true_of_eq_false h5)]
  simp only [hp, State.recordFit, State.beginMarker, State.beginItem, State.modChan, State.chan_setChan,
    State.setChan_setChan, if_true]

/-! ### Selection -/

theorem State.select_of_relay {hs : List Handle} (hq : (s.chan c).relayQ = h :: hs) : s.select c = s.startRelay c h := by
  simp only [State.select, hq]

theorem State.select_of_no_relay (hq : (s.chan c).relayQ = []) : s.select c = s.startDue c (s.chan c).requests := by
  simp only [State.select, hq]

/-- Case 2 passes over the requests that are not due. -/
theorem State.startDue_append {ps : List Request} (hps : ∀ p ∈ ps, ¬(p.state = .waiting ∧ p.due ≤ s.now))
    (qs : List Request) : s.startDue c (ps ++ qs) = s.startDue c qs := by
  induction ps with
  | nil => rfl
  | cons p ps ih =>
    exact (if_neg (hps p (by simp))).trans (ih fun q hq => hps q (by simp [hq]))

theorem State.startDue_of_none {qs : List Request} (hqs : ∀ q ∈ qs, ¬(q.state = .waiting ∧ q.due ≤ s.now)) :
    s.startDue c qs = s.selectTelex c := by
  rw [← List.append_nil qs, State.startDue_append hqs]
  rfl

theorem State.selectTelex_of_none (hp : s.parkedMessage c = none) : s.selectTelex c = s.selectNew c := by
  simp only [State.selectTelex, hp]

theorem State.selectTelex_of_parked (hp : s.parkedMessage c = some h) : s.selectTelex c
    = if (s.chan c).isHeld (s.desc h).dest then ((s.suspend h).suspendedNotice h .hold).selectNew c
      else s.tryTelex c h false := by
  simp only [State.selectTelex, hp]

theorem State.tryTelex_of_planned {fresh : Bool} {e : Nat}
    (hp : (s.fitTest c h s.now (s.desc h).resuming (s.chan c).lineCase).planned = some e) : s.tryTelex c h fresh
      = (s.recordFit c (s.fitTest c h s.now (s.desc h).resuming (s.chan c).lineCase)).startTelex c h e fresh := by
  simp only [State.tryTelex, hp]

theorem State.tryTelex_of_none {fresh : Bool}
    (hp : (s.fitTest c h s.now (s.desc h).resuming (s.chan c).lineCase).planned = none) : s.tryTelex c h fresh
      = (s.recordFit c (s.fitTest c h s.now (s.desc h).resuming (s.chan c).lineCase)).idleOrUnkey c := by
  simp only [State.tryTelex, hp]

/-- R140. The idle run as the time since it began. -/
theorem State.idleRun_eq (s : State) (c : ChannelNo) :
    s.idleRun c = ((s.chan c).idleSince.map (s.clock.elapsed - ·)).getD 0 := by
  unfold State.idleRun
  cases (s.chan c).idleSince <;> rfl

/-- A message and a channel are set in either order. -/
theorem State.setDesc_setChan (x : Channel) (d : Descriptor) :
    (s.setChan c x).setDesc h d = (s.setDesc h d).setChan c x := rfl

theorem State.setArea_setChan (x : Channel) (a : AreaNo) (y : Area) :
    (s.setChan c x).setArea a y = (s.setArea a y).setChan c x := rfl

/-- R64. A message that returns to the head of its class queue. -/
theorem State.toHead_eq (s : State) (h : Handle) (f : Descriptor → Descriptor) :
    s.toHead h f = (s.setDesc h (f (s.desc h))).setChan (s.desc h).channel
      (((s.chan (s.desc h).channel).detach h).setQueue (s.desc h).cls
        (h :: ((s.chan (s.desc h).channel).detach h).queue (s.desc h).cls)) := by
  simp [State.toHead, State.detach, State.modChan, State.modDesc, State.setDesc_setChan]

theorem Channel.setQueue_of_ne_relay {ch : Channel} {k : MsgClass} {q : List Handle} (hk : k ≠ .relay) :
    (ch.setQueue k q).relayQ = ch.relayQ ∧ (ch.setQueue k q).requests = ch.requests
      ∧ (ch.setQueue k q).active = ch.active := by
  cases k with
  | relay => exact absurd rfl hk
  | urgent => exact ⟨rfl, rfl, rfl⟩
  | ordinary => exact ⟨rfl, rfl, rfl⟩

/-- R114. The channel as a candidate is taken for it: one from a queue leaves the queue for the active slot. -/
def State.taker (s : State) (c : ChannelNo) (h : Handle) (fresh : Bool) : Channel :=
  if fresh then
    { (s.chan c).detach h with active := some h, urgentRun := (s.chan c).nextRun (s.desc h).cls }
  else s.chan c

/-- R114. A resuming candidate begins with its header, and RESUMED. -/
theorem State.startTelex_of_resuming {f : FitRecord} {e : Nat} {fresh : Bool} (hres : (s.desc h).resuming = true) :
    (s.recordFit c f).startTelex c h e fresh
      = State.setChan { s.setDesc h { s.desc h with state := .active } with
          outbox := s.outbox ++ [⟨.resumed, some c, s.clock.ms, [.num 1 h.val, .num 2 (s.desc h).number,
            .num 2 (s.desc h).resume, .num 1 (headerCost (s.chan c).lineCase), .num 2 e]⟩] } c
        { s.taker c h fresh with
          item := .header h (headerCost (s.chan c).lineCase) 0 e none, idleSince := none, lastFit := some f } := by
  cases fresh <;>
    simp [State.startTelex, State.recordFit, State.beginItem, State.emit, State.modChan, State.modDesc, hres,
      State.taker] <;> rfl

/-- R114. A candidate that is new begins with its text. -/
theorem State.startTelex_of_new {f : FitRecord} {e : Nat} {fresh : Bool} (hres : ¬(s.desc h).resuming = true) :
    (s.recordFit c f).startTelex c h e fresh
      = (s.setDesc h { s.desc h with state := .active }).setChan c
        { s.taker c h fresh with item := .segment h (s.desc h).resume e none, idleSince := none, lastFit := some f } := by
  cases fresh <;>
    simp [State.startTelex, State.recordFit, State.beginItem, State.modChan, State.modDesc, hres, State.taker,
      State.setDesc_setChan]
  all_goals rfl

/-- R140. An idle run shorter than the hang time goes on. -/
theorem State.idleOrUnkey_of_short (hrun : s.idleRun c < (s.chan c).settings.hangTime) : s.idleOrUnkey c = s.beginIdle c :=
  if_neg fun hlong => by omega

theorem State.chooseNew_of_empty (hu : (s.chan c).urgentQ = []) (ho : (s.chan c).ordinaryQ = []) :
    s.chooseNew c = none := by
  simp [State.chooseNew, State.oldestEligible, hu, ho]

theorem State.parkedMessage_of_none (ha : (s.chan c).active = none) : s.parkedMessage c = none := by
  simp [State.parkedMessage, ha]

theorem State.selectNew_of_none (ha : (s.chan c).active = none) (hn : s.chooseNew c = none) :
    s.selectNew c = s.idleOrUnkey c := by
  simp [State.selectNew, ha, hn]

theorem State.selectNew_of_some (ha : (s.chan c).active = none) (hh : s.chooseNew c = some h) :
    s.selectNew c = s.tryTelex c h true := by
  simp [State.selectNew, ha, hh]

theorem State.judgeBoundary_of_no_requests (hr : (s.chan c).requests = []) : s.judgeBoundary c = s := by
  unfold State.judgeBoundary
  rw [hr]
  exact ite_self _

theorem State.judgeKeyUp_nil (s : State) : s.judgeKeyUp [] = s := State.judgeWithin_nil _

/-- In a list in order no two requests are of one occurrence (R91). -/
theorem Request.isFor_of_pairwise {ps qs : List Request} {q : Request}
    (h : (ps ++ q :: qs).Pairwise fun p q => p.before q = true) :
    ∀ p ∈ ps ++ qs, ¬(p.slot = q.slot ∧ p.due = q.due) := by
  have hirrefl {p : Request} (hp : p.slot = q.slot ∧ p.due = q.due) : ¬p.before q = true ∧ ¬q.before p = true := by
    simp only [Request.before_iff, hp.1, hp.2, lt_irrefl, and_false, or_false, not_false_eq_true, and_self]
  rw [List.pairwise_append, List.pairwise_cons] at h
  obtain ⟨-, ⟨hqs, -⟩, hps⟩ := h
  intro p hp heq
  rcases List.mem_append.1 hp with hp | hp
  · exact (hirrefl heq).1 (hps p hp q (by simp))
  · exact (hirrefl heq).2 (hqs p hp)

theorem filter_other {ps qs : List Request} {q : Request} (hother : ∀ p ∈ ps ++ qs, ¬(p.slot = q.slot ∧ p.due = q.due)) :
    (ps ++ q :: qs).filter (fun p => decide (¬(p.slot = q.slot ∧ p.due = q.due))) = ps ++ qs := by
  rw [List.filter_append, List.filter_cons_of_neg (by simp), ← List.filter_append]
  exact List.filter_eq_self.2 fun p hp => decide_eq_true (hother p hp)

theorem map_request {ps qs : List Request} {q : Request} (hother : ∀ p ∈ ps ++ qs, ¬(p.slot = q.slot ∧ p.due = q.due))
    (f : Request → Request) :
    (ps ++ q :: qs).map (fun p => if p.isFor q.slot q.due then f p else p) = ps ++ f q :: qs := by
  have hkept {xs : List Request} (hxs : ∀ p ∈ xs, ¬(p.slot = q.slot ∧ p.due = q.due)) :
      xs.map (fun p => if p.isFor q.slot q.due then f p else p) = xs :=
    (List.map_congr_left fun p hp => if_neg (mt Request.isFor_iff.1 (hxs p hp))).trans (List.map_id _)
  rw [List.map_append, List.map_cons, hkept fun p hp => hother p (List.mem_append_left _ hp),
    hkept fun p hp => hother p (List.mem_append_right _ hp), if_pos (Request.isFor_iff.2 ⟨rfl, rfl⟩)]

end

end Sys2Proof.Machine

namespace Sys2Proof.Proofs

open Sys2Proof.Machine

/-- Settles O49. -/
theorem readyAndThresholdKeyChannels : Obligations.ReadyAndThresholdKeyChannels := by
  unfold Obligations.ReadyAndThresholdKeyChannels
  refine ⟨fun s c ho => ?_, fun s₀ c cut => ?_, fun s c hordered => ?_⟩
  · intro ch x y inTime
    have hready : (s.setReady c true).chan c = { ch with ready := true } := by
      rw [State.setReady, State.chan_modChan, if_pos rfl]
    have htime : (s.setReady c true).readyInTime c = true ↔ inTime := by
      rw [State.readyInTime_iff, hready]
      rfl
    have hkeys (hin : inTime) : x = .next (State.flush (State.judgeKeyUp ((State.decisionPoint (s.setChan c { ch with
        ready := true, state := .onAir, lineCase := .unknown, item := .noItem, idleSince := none
        symbolEnd := s.clock.elapsed + ch.settings.period }) c none).emit .keyed (some c)
          [.num 6 (s.clock.elapsed - ch.keyRise)]) ((s.setReady c true).decisionTouches c))) := by
      refine (congrArg eventStep (if_pos (htime.2 hin))).trans ?_
      have hset (x : Channel) : (s.setReady c true).setChan c x = s.setChan c x := State.setChan_setChan ..
      rw [State.enterOnAir_eq, hready, hset]
      rfl
    refine ⟨fun hin => ?_, fun hin hrelay hurgent hordinary hactive hrequests hdue hhang => ?_, fun hno => ?_,
      fun due hstate hdue hle hr => ?_, fun hno => ?_⟩
    · intro t
      refine (hkeys hin).trans (congrArg (fun u => Host.Outcome.next (State.flush (State.judgeKeyUp u _))) ?_)
      exact State.emit_of_clock (State.decisionPoint_quiet _ c none).clock ..
    · obtain ⟨u, hu⟩ : ∃ u, u = s.setChan c { ch with
          ready := true, state := .onAir, lineCase := .unknown, item := .noItem, idleSince := none
          symbolEnd := s.clock.elapsed + ch.settings.period } := ⟨_, rfl⟩
      have hnaming : u.dueSlotsNaming c = [] := by
        rw [hu]
        exact hdue
      have hchan : u.drawn.chan c = { ch with
          ready := true, state := .onAir, lineCase := .unknown, item := .noItem, idleSince := none
          symbolEnd := s.clock.elapsed + ch.settings.period } := by
        rw [hu]
        exact (State.chan_setChan ..).trans (if_pos rfl)
      have hparked : u.drawn.parkedMessage c = none := State.parkedMessage_of_none (hchan ▸ hactive)
      have hnew : u.drawn.chooseNew c = none := State.chooseNew_of_empty (hchan ▸ hurgent) (hchan ▸ hordinary)
      have hrun : u.drawn.idleRun c = 0 := by
        rw [State.idleRun_eq, hchan]
        rfl
      have hselect : u.drawn.select c = u.drawn.beginIdle c := by
        rw [State.select_of_no_relay (hchan ▸ hrelay), show (u.drawn.chan c).requests = [] from hchan ▸ hrequests,
          State.startDue_of_none (by simp), State.selectTelex_of_none hparked,
          State.selectNew_of_none (hchan ▸ hactive) hnew, State.idleOrUnkey_of_short (by rw [hrun, hchan]; exact hhang)]
      have hdecision : u.decisionPoint c none = u.drawn.beginIdle c := by
        have hunfinished : (u.takeOccurrences (u.dueSlotsNaming c)).unfinished c = none := by
          rw [hnaming, State.takeOccurrences_nil]
          exact State.unfinished_eq_none fun h ha => by
            rw [hchan, show ch.active = none from hactive] at ha
            cases ha
        rw [State.decisionPoint, State.atDecision_of_finished hunfinished, hnaming, State.takeOccurrences_nil,
          if_neg (by simp [hchan]), hselect, State.judgeBoundary_of_no_requests]
        rw [State.beginIdle, State.chan_modChan, if_pos rfl, hchan]
        exact hrequests
      have htouches : (s.setReady c true).decisionTouches c = [] := by
        rw [State.decisionTouches, show (s.setReady c true).dueSlotsNaming c = [] from hdue]
        exact List.filter_eq_nil_iff.2 fun d _ => by simp
      rw [hkeys hin, ← hu, hdecision, htouches, State.judgeKeyUp_nil, State.beginIdle, State.modChan, hchan, hu]
      simp [State.emit, State.setChan, State.drawn, ho]
    · refine (congrArg eventStep (if_neg (mt htime.1 hno))).trans (congrArg _ (State.flush_eq ?_))
      exact ho
    · have hcause : s.thresholdReached c = true := State.thresholdReached_iff.2 ⟨due, hdue, hle⟩
      refine (congrArg eventStep (if_pos ⟨hstate, hcause⟩)).trans ?_
      rw [State.judgeKeyUp_raises hstate (State.keyUpCause_iff.2 (.inr (.inr (.inl hcause)))) hr]
      exact congrArg _ (State.flush_eq (by exact ho))
    · refine (congrArg eventStep (if_neg ?_)).trans (congrArg _ (State.flush_eq ho))
      rw [State.thresholdReached_iff]
      rintro ⟨hstate, due, hdue, hle⟩
      rcases hno with hno | hno | ⟨due', hdue', hlt⟩
      · exact hno hstate
      · exact Option.some_ne_none _ (hdue.symm.trans hno)
      · cases hdue.symm.trans hdue'
        exact absurd hle (Nat.not_le_of_lt hlt)
  · intro s ch does
    have hdoes {t : State} (ht : s₀.atDecision c cut = t) : does t := congrArg (State.judgeBoundary · c) ht
    refine ⟨fun h ha hst => ?_, fun hno => ⟨fun w hw => hdoes ?_, fun hcut hcl => hdoes ?_, fun hcut hcl => hdoes ?_⟩⟩
    · intro d marker held bulletinDue
      have hsettles := State.atDecision_of_unfinished cut (State.unfinished_eq_some (s := s) ha hst)
      have hheld : ch.isHeld d.dest = true ↔ held := Channel.isHeld_iff
      have hbulletin : ch.requests.any (fun q => decide (q.state = .waiting ∧ q.due ≤ s.now ∧ s.now < q.deadline)) = true
          ↔ bulletinDue := by
        simp [bulletinDue]
      have hrelay : (!ch.relayQ.isEmpty) = true ↔ ch.relayQ ≠ [] := by simp
      have hcancel : ¬d.cancelRequested = true ↔ d.cancelRequested = false := by
        simp
      refine ⟨fun h1 => hdoes (hsettles.trans (if_pos h1)),
        fun h1 h2 => hdoes (hsettles.trans ((if_neg (hcancel.2 h1)).trans (if_pos h2))),
        fun h1 h2 h3 => hdoes (hsettles.trans ((if_neg (hcancel.2 h1)).trans ((if_neg h2).trans (if_pos (hheld.2 h3))))),
        fun h1 h2 h3 h4 => hdoes (hsettles.trans ((if_neg (hcancel.2 h1)).trans ((if_neg h2).trans
          ((if_neg (mt hheld.1 h3)).trans (if_pos (hrelay.2 h4)))))),
        fun h1 h2 h3 h4 h5 => hdoes (hsettles.trans ((if_neg (hcancel.2 h1)).trans ((if_neg h2).trans
          ((if_neg (mt hheld.1 h3)).trans ((if_neg (mt hrelay.1 (not_not.2 h4))).trans (if_pos (hbulletin.2 h5))))))),
        fun h1 h2 h3 h4 h5 => ?_⟩
      intro f
      have hfits : s.settlesByFit c h := ⟨h1, h2, by rw [← Bool.not_eq_true]; exact mt hheld.1 h3, h4, by
        rw [← Bool.not_eq_true]
        exact mt hbulletin.1 h5⟩
      exact ⟨fun e he => hdoes (hsettles.trans (State.settle_of_planned hfits he)),
        fun hn => hdoes (hsettles.trans (State.settle_of_none hfits hn))⟩
    · rw [hw]
      exact State.atDecision_of_cut (State.unfinished_eq_none (s := s) hno)
    · rw [hcut]
      exact (State.atDecision_of_finished (State.unfinished_eq_none (s := s) hno)).trans (if_pos hcl)
    · rw [hcut]
      exact (State.atDecision_of_finished (State.unfinished_eq_none (s := s) hno)).trans (if_neg hcl)
  · intro ch held due idle resumed begun tried
    have hidle (t : State) (hset : (t.chan c).settings = ch.settings) (hsince : (t.chan c).idleSince = ch.idleSince)
        (hclock : t.clock = s.clock) : t.idleOrUnkey c = idle t := by
      have hrun : t.idleRun c = (ch.idleSince.map (s.clock.elapsed - ·)).getD 0 := by
        rw [State.idleRun_eq, hsince, hclock]
      have hunkey : t.unkey c = State.setChan { t with outbox := t.outbox ++ [⟨.unkeyed, some c, s.clock.ms,
          [.num 6 ((ch.idleSince.map (s.clock.elapsed - ·)).getD 0)]⟩] } c
            { t.chan c with state := .standby, item := .noItem, idleSince := none } := by
        rw [State.unkey, hrun, ← hclock]
        rfl
      have hbegin : t.beginIdle c = t.setChan c { t.chan c with
          item := .idle, idleSince := some (ch.idleSince.getD s.clock.elapsed) } := by
        rw [State.beginIdle, State.modChan, hsince, hclock]
      rw [State.idleOrUnkey, hunkey, hbegin, hrun, hset]
    have htried {h : Handle} {v : Channel} (fresh : Bool) (hsel : s.select c = s.tryTelex c h fresh)
        (hv : v = s.taker c h fresh) :
        tried h v := by
      refine ⟨fun e he => hsel.trans ((State.tryTelex_of_planned (Descriptor.resuming_eq _ ▸ he)).trans ?_), fun hn =>
        hsel.trans ((State.tryTelex_of_none (Descriptor.resuming_eq _ ▸ hn)).trans ?_)⟩
      · rw [← Descriptor.resuming_eq, hv]
        by_cases hres : (s.desc h).state = .parked ∨ (s.desc h).state = .suspended
        · exact (State.startTelex_of_resuming (Descriptor.resuming_iff.2 hres)).trans (if_pos hres).symm
        · exact (State.startTelex_of_new (mt Descriptor.resuming_iff.1 hres)).trans (if_neg hres).symm
      · rw [← Descriptor.resuming_eq]
        refine hidle (s.recordFit c _) ?_ ?_ rfl
        · rw [State.recordFit, State.chan_modChan, if_pos rfl]
        · rw [State.recordFit, State.chan_modChan, if_pos rfl]
    have hquiet (hr : ch.relayQ = []) (hno : ∀ q ∈ ch.requests, ¬due q) : s.select c = s.selectTelex c :=
      (State.select_of_no_relay hr).trans (State.startDue_of_none hno)
    refine ⟨fun h hs hr => State.select_of_relay hr, fun ps q qs hr hreq hps hq => ?_, fun hr hno =>
      ⟨fun h ha hst hchannel hcls => ?_, fun ha => ⟨fun h hh => ?_, fun hn => ?_⟩⟩⟩
    · have hother := Request.isFor_of_pairwise (hreq ▸ hordered)
      have hselect : s.select c = s.startDue c (q :: qs) := by
        rw [State.select_of_no_relay hr, show (s.chan c).requests = ps ++ q :: qs from hreq, State.startDue_append hps]
      have hends (o : BulletinOutcome) (lateness : Option Nat) :
          (s.endRequest c q o lateness false).select c = (s.endRequest c q o lateness false).startDue c qs := by
        have hended : (s.endRequest c q o lateness false).chan c
            = { ch with requests := ps ++ qs, stats := s.outcomeStats c o } := by
          rw [State.endRequest_eq, State.chan_setChan, if_pos rfl, show (s.chan c).requests = ps ++ q :: qs from hreq,
            filter_other hother]
        have hnow : (s.endRequest c q o lateness false).now = s.now := by
          rw [State.endRequest_eq]
          rfl
        rw [State.select_of_no_relay (hended ▸ hr), hended, State.startDue_append]
        rw [hnow]
        exact hps
      refine ⟨fun hlate => hselect.trans ?_, fun hearly hready => hselect.trans ?_, fun hearly hready => hselect.trans ?_⟩
      · exact ((if_pos hq).trans (if_pos hlate)).trans (hends ..).symm
      · exact ((if_pos hq).trans ((if_neg (Nat.not_le_of_lt hearly)).trans (if_neg hready))).trans (hends ..).symm
      · refine ((if_pos hq).trans ((if_neg (Nat.not_le_of_lt hearly)).trans (if_pos hready))).trans ?_
        have hmap := map_request hother fun q => { q with state := .onAir, firstStart := some (q.firstStart.getD s.now) }
        rw [← hmap, ← hreq]
        simp [State.startBulletin, State.modRequest, State.enterArea, State.beginItem, State.modChan, State.setArea_setChan]
        rfl
    · have hparked : s.parkedMessage c = some h := State.parkedMessage_eq_some_iff.2 ⟨ha, hst⟩
      have hselect := (hquiet hr hno).trans (State.selectTelex_of_parked hparked)
      refine ⟨fun hh => hselect.trans ((if_pos (Channel.isHeld_iff.2 hh)).trans ?_), fun hh =>
        htried false (hselect.trans (if_neg (mt Channel.isHeld_iff.1 hh))) rfl⟩
      obtain ⟨u, hu⟩ : ∃ u, u = (s.suspend h).suspendedNotice h .hold := ⟨_, rfl⟩
      have hnotice : u = { s.suspend h with outbox := s.outbox ++ [⟨.suspended, some c, s.clock.ms, [.num 1 h.val,
          .num 2 (s.desc h).number, .num 1 0, .num 2 (s.desc h).resume, .num 3 (s.desc h).dest]⟩] } := by
        have hdesc : (s.suspend h).desc h = { s.desc h with state := .suspended } := by
          rw [State.suspend, State.toHead_eq]
          exact (State.desc_setDesc ..).trans (if_pos rfl)
        rw [hu, State.suspendedNotice, hdesc, hchannel]
        rfl
      have hback : (u.chan c).relayQ = [] ∧ (u.chan c).requests = ch.requests ∧ (u.chan c).active = none := by
        have hchan : u.chan c = (ch.detach h).setQueue (s.desc h).cls (h :: (ch.detach h).queue (s.desc h).cls) := by
          rw [hu, State.suspend, State.toHead_eq, hchannel]
          exact (State.chan_setChan ..).trans (if_pos rfl)
        obtain ⟨hrelay, hreq, hactive⟩ := Channel.setQueue_of_ne_relay (ch := ch.detach h)
          (q := h :: (ch.detach h).queue (s.desc h).cls) hcls
        rw [hchan, hrelay, hreq, hactive]
        exact ⟨by simp [Channel.detach, hr], rfl, if_pos ha⟩
      obtain ⟨hrelay, hreq, hactive⟩ := hback
      rw [← hnotice, ← hu, State.select_of_no_relay hrelay, hreq, State.startDue_of_none,
        State.selectTelex_of_none (State.parkedMessage_of_none hactive)]
      have hnow : u.now = s.now := by
        rw [hu]
        exact congrArg (fun k : Clock => k.day * Config.dayMs + k.ms) (s.suspend_quiet h).clock
      rw [hnow]
      exact hno
    · exact htried true ((hquiet hr hno).trans ((State.selectTelex_of_none (State.parkedMessage_of_none ha)).trans
        (State.selectNew_of_some ha hh))) rfl
    · exact (hquiet hr hno).trans ((State.selectTelex_of_none (State.parkedMessage_of_none ha)).trans
        ((State.selectNew_of_none ha hn).trans (hidle s rfl rfl rfl)))

end Sys2Proof.Proofs
end

section
/-! The completion of a line symbol, item by item, and what its last symbol brings about (sections 2.4, 7.4 to 7.6, 8.8). -/

namespace Sys2Proof.Machine

section
variable {s : State} {c : ChannelNo} {h : Handle}

/-! ### Counting and shifts -/

theorem State.symbolDue_iff : s.symbolDue c = true ↔ ((s.chan c).state = .onAir ∨ (s.chan c).state = .closing)
    ∧ (s.chan c).item ≠ .noItem ∧ (s.chan c).symbolEnd ≤ s.clock.elapsed := by
  unfold State.symbolDue
  cases (s.chan c).state <;> simp [ChanState.keyed]

/-- R18, R147. A line symbol that completes in a step without notices: it is counted, and the next period begins. -/
def State.lineCounted (s : State) (c : ChannelNo) (f : Channel → Channel) : State :=
  State.setChan { s with
      outbox := if (s.chan c).stats.lineSymbols < 4294967295 then [] else [⟨.counterWrap, some c, s.clock.ms, []⟩] } c
    (f { s.chan c with
      symbolEnd := (s.chan c).symbolEnd + (s.chan c).settings.period
      stats := { (s.chan c).stats with lineSymbols :=
        if (s.chan c).stats.lineSymbols < 4294967295 then (s.chan c).stats.lineSymbols + 1 else 0 } })

theorem State.countLine_nextPeriod (ho : s.outbox = []) : (s.countLine c).nextPeriod c = s.lineCounted c id := by
  unfold State.countLine State.lineCounted
  rw [show max32 = 4294967295 from rfl]
  split
  · simp [State.modStats, State.nextPeriod, State.modChan, State.setChan, State.chan, ← ho]
  · simp [State.modStats, State.nextPeriod, State.modChan, State.setChan, State.chan, State.emit, ho]

theorem State.modChan_lineCounted (f g : Channel → Channel) :
    (s.lineCounted c f).modChan c g = s.lineCounted c (g ∘ f) := by
  simp [State.modChan, State.lineCounted]

theorem State.chan_lineCounted (f : Channel → Channel) : (s.lineCounted c f).chan c
    = f { s.chan c with
      symbolEnd := (s.chan c).symbolEnd + (s.chan c).settings.period
      stats := { (s.chan c).stats with lineSymbols :=
        if (s.chan c).stats.lineSymbols < 4294967295 then (s.chan c).stats.lineSymbols + 1 else 0 } } := by
  simp [State.lineCounted]

/-- R20. The shift that a symbol needs takes the line case to the symbol's own. -/
theorem shiftFor_of_letters {lc : LineCase} {y : Nat} (h : 7 ≤ y ∧ y ≤ 32 ∧ lc ≠ .letters) :
    shiftFor lc y = some symLtrs := by
  simp [shiftFor, caseOf, h.1, h.2.1, h.2.2]

theorem shiftFor_of_figures {lc : LineCase} {y : Nat} (h : 33 ≤ y ∧ y ≤ 63 ∧ lc ≠ .figures) :
    shiftFor lc y = some symFigs := by
  have hno : ¬(7 ≤ y ∧ y ≤ 32) := by omega
  simp [shiftFor, caseOf, hno, h.1, h.2.1, h.2.2]

theorem shiftFor_of_shift {lc k : LineCase} {y : Nat}
    (hk : (if 7 ≤ y ∧ y ≤ 32 ∧ lc ≠ .letters then some LineCase.letters
      else if 33 ≤ y ∧ y ≤ 63 ∧ lc ≠ .figures then some LineCase.figures else none) = some k) :
    ∃ sh, shiftFor lc y = some sh ∧ ∀ d, caseAfterShift d sh = k := by
  split_ifs at hk with h1 h2
  · exact ⟨_, shiftFor_of_letters h1, fun _ => Option.some.inj hk⟩
  · exact ⟨_, shiftFor_of_figures h2, fun _ => Option.some.inj hk⟩

theorem shiftFor_of_no_shift {lc : LineCase} {y : Nat}
    (hno : (if 7 ≤ y ∧ y ≤ 32 ∧ lc ≠ .letters then some LineCase.letters
      else if 33 ≤ y ∧ y ≤ 63 ∧ lc ≠ .figures then some LineCase.figures else none) = none) : shiftFor lc y = none := by
  split_ifs at hno with h1 h2
  unfold shiftFor caseOf
  by_cases hl : 7 ≤ y ∧ y ≤ 32
  · have hc : lc = .letters := Decidable.byContradiction fun hc => h1 ⟨hl.1, hl.2, hc⟩
    simp [hl, hc]
  · by_cases hf : 33 ≤ y ∧ y ≤ 63
    · have hc : lc = .figures := Decidable.byContradiction fun hc => h2 ⟨hf.1, hf.2, hc⟩
      simp [hl, hf, hc]
    · simp [hl, hf]

theorem State.symbolCompletes_of_shift {y sh : Nat} (hy : s.nextSymbol c = some y)
    (hsh : shiftFor (s.chan c).lineCase y = some sh) : s.symbolCompletes c = ((s.countLine c).nextPeriod c).shiftDone c sh := by
  simp only [State.symbolCompletes, hy, hsh]

theorem State.symbolCompletes_of_symbol {y : Nat} (hy : s.nextSymbol c = some y)
    (hsh : shiftFor (s.chan c).lineCase y = none) : s.symbolCompletes c = ((s.countLine c).nextPeriod c).itemSymbolDone c := by
  simp only [State.symbolCompletes, hy, hsh]

/-! ### The symbol of an item -/

section items
variable {i : SlotNo} {due : Nat} {a : AreaNo} {w : Closes} {p : Purpose} {cost start n pos e : Nat}

theorem State.itemSymbolDone_of_idle (hi : (s.chan c).item = .idle) : s.itemSymbolDone c
    = (s.modChan c fun v => { v with stats := { v.stats with idles := satSucc max32 v.stats.idles } }).itemEnds c none := by
  simp only [State.itemSymbolDone, hi]
  rfl

theorem State.itemSymbolDone_of_header {cut : Option Nat} (hi : (s.chan c).item = .header h cost n e cut) :
    (n < 12 → s.itemSymbolDone c = s.itemGoesOn c (.header h cost (n + 1) e cut))
    ∧ (n = 12 → s.itemSymbolDone c = s.itemGoesOn c (.segment h (s.desc h).resume e cut)) := by
  have hlength : (headerSymbols (s.desc h).number).length = 13 := rfl
  simp only [State.itemSymbolDone, hi, hlength]
  exact ⟨fun hn => if_pos (by omega), fun hn => if_neg (by omega)⟩

theorem State.itemSymbolDone_of_marker (hi : (s.chan c).item = .marker w p n) :
    (n < 2 → s.itemSymbolDone c = s.itemGoesOn c (.marker w p (n + 1)))
    ∧ (n = 2 → s.itemSymbolDone c = ((s.modChan c fun v =>
      { v with stats := { v.stats with markers := satSucc max32 v.stats.markers } }).markerEnds c w p).itemEnds c none) := by
  have hlength : markerSymbols.length = 3 := rfl
  simp only [State.itemSymbolDone, hi, hlength]
  exact ⟨fun hn => if_pos (by omega), fun hn => if_neg (by omega)⟩

end items

/-- R62, R121, R147. The counts of a text symbol that completes in a step without notices. -/
def State.textKeyed (s : State) (c : ChannelNo) (h : Handle) (start : Nat) : State :=
  (s.lineCounted c fun v => { v with stats := { v.stats with
    segments := if (s.desc h).resume = start then satSucc max32 v.stats.segments else v.stats.segments } }).setDesc h
    { s.desc h with
      resume := (s.desc h).resume + 1
      segments := if (s.desc h).resume = start then satSucc max16 (s.desc h).segments else (s.desc h).segments
      firstKeyed := some ((s.desc h).firstKeyed.getD s.now) }

theorem State.textSymbolDone_lineCounted (start : Nat) :
    (s.lineCounted c id).textSymbolDone c h start = s.textKeyed c h start := by
  have hdesc (f : Channel → Channel) (g : Handle) : (s.lineCounted c f).desc g = s.desc g := rfl
  unfold State.textSymbolDone State.textKeyed
  by_cases hr : (s.desc h).resume = start
  · subst hr
    simp only [hdesc, decide_true, if_true]
    exact congrArg₂ (fun t d => State.setDesc t h d) (State.modChan_lineCounted (s := s) (c := c) id fun v =>
      { v with stats := { v.stats with segments := satSucc max32 v.stats.segments } }) rfl
  · simp only [hdesc, hr, decide_false, if_false]
    rfl

theorem State.desc_textKeyed (start : Nat) : (s.textKeyed c h start).desc h = { s.desc h with
      resume := (s.desc h).resume + 1
      segments := if (s.desc h).resume = start then satSucc max16 (s.desc h).segments else (s.desc h).segments
      firstKeyed := some ((s.desc h).firstKeyed.getD s.now) } :=
  (State.desc_setDesc ..).trans (if_pos rfl)

/-- R121, R122. A symbol of a segment: the message ends, the segment ends, or it goes on. -/
theorem State.segmentSymbolDone_lineCounted (start e : Nat) (cut : Option Nat) :
    ((s.desc h).resume + 1 = (s.desc h).length → (s.lineCounted c id).segmentSymbolDone c h start e cut
      = (((s.textKeyed c h start).segmentEnds c (s.desc h).dest).messageEnds c h).itemEnds c none)
    ∧ ((s.desc h).resume + 1 ≠ (s.desc h).length → e ≤ (s.desc h).resume + 1 →
      (s.lineCounted c id).segmentSymbolDone c h start e cut
        = ((s.textKeyed c h start).segmentEnds c (s.desc h).dest).itemEnds c none)
    ∧ ((s.desc h).resume + 1 ≠ (s.desc h).length → (s.desc h).resume + 1 < e →
      (s.lineCounted c id).segmentSymbolDone c h start e cut
        = (s.textKeyed c h start).itemGoesOn c (.segment h start e cut)) := by
  unfold State.segmentSymbolDone
  simp only [State.textSymbolDone_lineCounted, State.desc_textKeyed]
  exact ⟨fun hend => if_pos hend, fun hno he => (if_neg hno).trans (if_pos he),
    fun hno he => (if_neg hno).trans (if_neg (Nat.not_le_of_lt he))⟩

/-- R108. A symbol of a relay: the message ends, or it goes on. -/
theorem State.relaySymbolDone_lineCounted :
    ((s.desc h).resume + 1 = (s.desc h).length → (s.lineCounted c id).relaySymbolDone c h
      = ((s.textKeyed c h 0).messageEnds c h).itemEnds c none)
    ∧ ((s.desc h).resume + 1 ≠ (s.desc h).length →
      (s.lineCounted c id).relaySymbolDone c h = (s.textKeyed c h 0).itemGoesOn c (.relay h)) := by
  unfold State.relaySymbolDone
  simp only [State.textSymbolDone_lineCounted, State.desc_textKeyed]
  exact ⟨fun hend => if_pos hend, fun hno => if_neg hno⟩

/-- R96. The outcome of a bulletin keyed to its end, its cases in another order. -/
theorem Request.completeOutcome_eq (q : Request) (period : Nat) : q.completeOutcome period
    = if 0 < q.restarts then .restarted else if q.lateness.getD 0 < period then .onTime else .late := by
  unfold Request.completeOutcome
  by_cases hr : q.restarts = 0
  · simp [hr]
  · simp [hr, Nat.pos_of_ne_zero hr]

theorem find?_isFor (i : SlotNo) (due : Nat) (l : List Request) :
    l.find? (·.isFor i due) = l.find? fun q => decide (q.slot = i ∧ q.due = due) := by
  congr 1
  funext q
  rw [Bool.eq_iff_iff, Request.isFor_iff, decide_eq_true_iff]

theorem State.bulletinEnds_of_request {i : SlotNo} {due : Nat} {a : AreaNo} {q : Request}
    (hq : (s.chan c).requests.find? (·.isFor i due) = some q) : s.bulletinEnds c i due a
    = (s.leaveArea a).endRequest c q (q.completeOutcome (s.chan c).settings.period) q.lateness false := by
  simp only [State.bulletinEnds, hq]

theorem State.bulletinEnds_lineCounted {i : SlotNo} {due : Nat} {a : AreaNo} {q : Request}
    (hq : (s.chan c).requests.find? (·.isFor i due) = some q) : (s.lineCounted c id).bulletinEnds c i due a
    = ((s.lineCounted c id).leaveArea a).endRequest c q
      (if 0 < q.restarts then .restarted
        else if q.lateness.getD 0 < (s.chan c).settings.period then .onTime else .late) q.lateness false := by
  have hchan : ((s.lineCounted c id).chan c).requests = (s.chan c).requests
      ∧ ((s.lineCounted c id).chan c).settings = (s.chan c).settings := by
    rw [State.chan_lineCounted]
    exact ⟨rfl, rfl⟩
  rw [State.bulletinEnds_of_request (hchan.1 ▸ hq), Request.completeOutcome_eq, hchan.2]

/-- R131, R96, R127. A symbol of a bulletin: it ends, it is cut, or it goes on. -/
theorem State.bulletinSymbolDone_eq (i : SlotNo) (due : Nat) (a : AreaNo) (pos : Nat) (cut : Option Nat) :
    ((s.area a).length ≤ pos + 1 → s.bulletinSymbolDone c i due a pos cut = (s.bulletinEnds c i due a).itemEnds c none)
    ∧ (pos + 1 < (s.area a).length → cut = some (pos + 1) →
      s.bulletinSymbolDone c i due a pos cut = s.itemEnds c (some (.request i due a)))
    ∧ (pos + 1 < (s.area a).length → cut ≠ some (pos + 1) →
      s.bulletinSymbolDone c i due a pos cut = s.itemGoesOn c (.bulletin i due a (pos + 1) cut)) := by
  unfold State.bulletinSymbolDone
  exact ⟨fun hlast => if_pos hlast, fun hmore hcut => (if_neg (Nat.not_le_of_lt hmore)).trans (if_pos hcut),
    fun hmore hcut => (if_neg (Nat.not_le_of_lt hmore)).trans (if_neg hcut)⟩

/-! ### The end of a marker -/

theorem State.desc_toHead (f : Descriptor → Descriptor) : (s.toHead h f).desc h = f (s.desc h) := by
  rw [State.toHead_eq]
  exact (State.desc_setDesc ..).trans (if_pos rfl)

theorem State.markerEnds_of_message_hold : s.markerEnds c (.message h) .hold = (s.suspend h).suspendedNotice h .hold := rfl

theorem State.markerEnds_of_message_close : s.markerEnds c (.message h) .close = (s.suspend h).suspendedNotice h .close := rfl

theorem State.suspendedNotice_suspend (k : SuspendCause) : (s.suspend h).suspendedNotice h k = { s.suspend h with
    outbox := s.outbox ++ [⟨.suspended, some (s.desc h).channel, s.clock.ms, [.num 1 h.val, .num 2 (s.desc h).number,
      .num 1 k.code, .num 2 (s.desc h).resume, .num 3 (s.desc h).dest]⟩] } := by
  unfold State.suspendedNotice State.suspend
  rw [State.desc_toHead]
  rfl

/-! ### The end of a message -/

/-- R67, R147. The done time and the count of a message that ends. -/
def State.doneCounted (s : State) (c : ChannelNo) (h : Handle) : State :=
  (s.setDesc h { s.desc h with doneTime := some s.now }).setChan c
    { s.chan c with stats := (s.chan c).stats.countDone (s.desc h).length }

theorem State.desc_doneCounted : (s.doneCounted c h).desc h = { s.desc h with doneTime := some s.now } :=
  (State.desc_setDesc ..).trans (if_pos rfl)

theorem State.messageEnds_eq (s : State) (c : ChannelNo) (h : Handle) : s.messageEnds c h
    = if (s.desc h).cancelRequested then (s.doneCounted c h).freeCancelled h
      else if (s.desc h).cls = .relay ∨ (s.desc h).confirm = false then
        (s.doneCounted c h).freeWith h .done [.num 1 (s.desc h).cls.code, .num 2 (s.desc h).length,
          .num 2 (s.desc h).segments, .time ((s.desc h).firstKeyed.getD 0), .time s.now]
      else ((s.doneCounted c h).toSent h).emit .sent (some c) (((s.doneCounted c h).toSent h).messageFields h
        ++ [.num 2 (s.desc h).length, .num 1 (s.desc h).repeats, .time s.now,
          .optTime (((s.doneCounted c h).toSent h).desc h).ackDue]) := by
  have hcounted : (s.modDesc h fun d => { d with doneTime := some s.now }).modStats c (·.countDone (s.desc h).length)
      = s.doneCounted c h := rfl
  rw [State.messageEnds]
  dsimp only
  rw [hcounted, State.desc_doneCounted]
  rfl

theorem State.freeWith_doneCounted (e : Event) (fs : List Field) : (s.doneCounted c h).freeWith h e fs
    = State.rejudgeGrant { (s.doneCounted c h).freeMessage h with
      outbox := s.outbox ++ [⟨e, some (s.desc h).channel, s.clock.ms,
        [.num 1 h.val, .num 2 (s.desc h).number, .num 3 (s.desc h).dest] ++ fs⟩] } := by
  unfold State.freeWith State.messageFields
  rw [State.desc_doneCounted]
  rfl

/-- R66, R69. The message at the tail of the sent list, as one change of its descriptor and its channel. -/
theorem State.toSent_eq (s : State) (h : Handle) : s.toSent h
    = (s.setDesc h { s.desc h with
        state := .awaitAck
        ackDue := if (s.chan (s.desc h).channel).settings.ackTimeout = 0 then none
          else some (s.clock.elapsed + (s.chan (s.desc h).channel).settings.ackTimeout * 1000) }).setChan (s.desc h).channel
      { (s.chan (s.desc h).channel).detach h with
        sent := ((s.chan (s.desc h).channel).detach h).sent ++ [h] } := by
  simp [State.toSent, State.detach, State.modChan, State.modDesc, State.setDesc_setChan]

theorem State.toSent_doneCounted (hc : (s.desc h).channel = c) : (s.doneCounted c h).toSent h
    = ((s.doneCounted c h).setDesc h { s.desc h with
        doneTime := some s.now
        state := .awaitAck
        ackDue := if (s.chan (s.desc h).channel).settings.ackTimeout = 0 then none
          else some (s.clock.elapsed + (s.chan (s.desc h).channel).settings.ackTimeout * 1000) }).setChan c
      { ((s.doneCounted c h).chan c).detach h with sent := (((s.doneCounted c h).chan c).detach h).sent ++ [h] } := by
  have hsettings : ((s.doneCounted c h).chan c).settings = (s.chan (s.desc h).channel).settings := by
    rw [hc]
    simp [State.doneCounted]
  rw [State.toSent_eq, State.desc_doneCounted]
  dsimp only
  rw [hc] at *
  rw [hsettings]
  rfl

theorem State.sent_doneCounted (hc : (s.desc h).channel = c) :
    ((s.doneCounted c h).toSent h).emit .sent (some c) (((s.doneCounted c h).toSent h).messageFields h
        ++ [.num 2 (s.desc h).length, .num 1 (s.desc h).repeats, .time s.now,
          .optTime (((s.doneCounted c h).toSent h).desc h).ackDue])
    = { (s.doneCounted c h).toSent h with
      outbox := s.outbox ++ [⟨.sent, some c, s.clock.ms, [.num 1 h.val, .num 2 (s.desc h).number, .num 3 (s.desc h).dest,
        .num 2 (s.desc h).length, .num 1 (s.desc h).repeats, .num 6 s.now, .opt 6 (
          if (s.chan (s.desc h).channel).settings.ackTimeout = 0 then none
          else some (s.clock.elapsed + (s.chan (s.desc h).channel).settings.ackTimeout * 1000))]⟩] } := by
  have hdesc : ((s.doneCounted c h).toSent h).desc h = { s.desc h with
      doneTime := some s.now
      state := .awaitAck
      ackDue := if (s.chan (s.desc h).channel).settings.ackTimeout = 0 then none
        else some (s.clock.elapsed + (s.chan (s.desc h).channel).settings.ackTimeout * 1000) } := by
    rw [State.toSent_doneCounted hc]
    exact (State.desc_setDesc ..).trans (if_pos rfl)
  unfold State.messageFields
  rw [hdesc, State.toSent_doneCounted hc]
  rfl

end

end Sys2Proof.Machine

namespace Sys2Proof.Proofs

open Sys2Proof.Machine

/-- Settles O50. -/
theorem lineSymbolsComplete : Obligations.LineSymbolsComplete := by
  unfold Obligations.LineSymbolsComplete
  refine ⟨fun s c ho => ?_, fun s c h => ?_⟩
  · intro ch x up base gives goesOn ends digits symbol shift keyed released
    have hsymbol : s.nextSymbol c = symbol := by
      unfold State.nextSymbol
      simp only [symbol, ch]
      cases (s.chan c).item <;> rfl
    have hidle : x = eventStep (if s.symbolDue c then
        (s.symbolCompletes c).judgeKeyUp (s.symbolTouches (s.symbolCompletes c) c) else s) := rfl
    refine ⟨fun hno => ?_, fun hstate hend y hy => ?_⟩
    · rw [hidle, if_neg]
      · exact congrArg _ (State.flush_eq ho)
      · rw [State.symbolDue_iff]
        rintro ⟨hkeyed, hitem, hle⟩
        rcases hno with hno | hno | hno
        · exact hno (by simpa [ch] using hkeyed)
        · exact absurd hle (Nat.not_le_of_lt hno)
        · exact hitem hno
    · have hdue : s.symbolDue c = true := by
        refine State.symbolDue_iff.2 ⟨by simpa [ch] using hstate, fun hi => ?_, hend⟩
        rw [← hsymbol, State.nextSymbol, hi] at hy
        cases hy
      have hgives {t : State} (ht : s.symbolCompletes c = t) : gives t := by
        rw [← ht]
        exact hidle.trans (congrArg eventStep (if_pos hdue))
      rw [← hsymbol] at hy
      refine ⟨fun k hk => hgives ?_, fun hnone => ?_⟩
      · obtain ⟨sh, hsh, hcase⟩ := shiftFor_of_shift hk
        rw [State.symbolCompletes_of_shift hy hsh, State.countLine_nextPeriod ho]
        refine congrArg (State.judgeBoundary · c) ((State.modChan_lineCounted (s := s) (c := c) id _).trans ?_)
        simp only [Function.comp_def, id, hcase]
        rfl
      · have hsh : shiftFor (s.chan c).lineCase y = none := shiftFor_of_no_shift hnone
        have hcompletes : s.symbolCompletes c = (s.lineCounted c id).itemSymbolDone c := by
          rw [State.symbolCompletes_of_symbol hy hsh, State.countLine_nextPeriod ho]
        have hitem : ((s.lineCounted c id).chan c).item = ch.item := by
          rw [State.chan_lineCounted]
          rfl
        have hgives {t : State} (ht : (s.lineCounted c id).itemSymbolDone c = t) : gives t := hgives (hcompletes.trans ht)
        refine ⟨fun hi => hgives ?_, fun h k n e cut hi => ?_, fun w p n hi => ?_, fun h start e cut hi => ?_,
          fun h hi => ?_, fun i due a pos cut hi => ?_⟩
        · rw [State.itemSymbolDone_of_idle (hitem.trans hi)]
          exact congrArg (State.itemEnds · c none) (State.modChan_lineCounted id _)
        · have hheader := State.itemSymbolDone_of_header (hitem.trans hi)
          exact ⟨fun hn => hgives (hheader.1 hn), fun hn => hgives (hheader.2 hn)⟩
        · have hmarker := State.itemSymbolDone_of_marker (hitem.trans hi)
          rw [State.modChan_lineCounted] at hmarker
          refine ⟨fun hn => hgives (hmarker.1 hn), fun hn => ?_⟩
          intro t
          refine ⟨fun i due a hw => hgives ?_, fun h hw => ?_⟩
          · rw [hmarker.2 hn, hw]
            rfl
          intro d
          refine ⟨fun reason hp => hgives ?_, fun hp => ?_, fun hp => hgives ?_⟩
          · rw [hmarker.2 hn, hw, hp]
            rfl
          · rcases hp with hp | hp
            · refine hgives ?_
              rw [hmarker.2 hn, hw, hp, State.markerEnds_of_message_hold, State.suspendedNotice_suspend]
              rfl
            · refine hgives ?_
              rw [hmarker.2 hn, hw, hp, State.markerEnds_of_message_close, State.suspendedNotice_suspend]
              rfl
          · rw [hmarker.2 hn, hw, hp]
            rfl
        · have hsegment := State.segmentSymbolDone_lineCounted (s := s) (c := c) (h := h) start e cut
          have hdone : (s.lineCounted c id).itemSymbolDone c = (s.lineCounted c id).segmentSymbolDone c h start e cut := by
            simp only [State.itemSymbolDone, hitem, hi]
          rw [← hdone] at hsegment
          refine ⟨fun hend => hgives (hsegment.1 hend), fun hno he => hgives (hsegment.2.1 hno he), fun hno he => ?_⟩
          rw [hi]
          exact hgives (hsegment.2.2 hno he)
        · have hrelay := State.relaySymbolDone_lineCounted (s := s) (c := c) (h := h)
          have hdone : (s.lineCounted c id).itemSymbolDone c = (s.lineCounted c id).relaySymbolDone c h := by
            simp only [State.itemSymbolDone, hitem, hi]
          rw [← hdone] at hrelay
          refine ⟨fun hend => hgives (hrelay.1 hend), fun hno => ?_⟩
          rw [hi]
          exact hgives (hrelay.2 hno)
        · have hdone : (s.lineCounted c id).itemSymbolDone c
              = (s.lineCounted c id).bulletinSymbolDone c i due a pos cut := by
            simp only [State.itemSymbolDone, hitem, hi]
          have hbulletin := State.bulletinSymbolDone_eq (s := s.lineCounted c id) (c := c) i due a pos cut
          rw [← hdone] at hbulletin
          refine ⟨fun hlast q hq => ?_, fun hmore hcut => hgives (hbulletin.2.1 hmore hcut),
            fun hmore hcut => hgives (hbulletin.2.2 hmore hcut)⟩
          intro late
          exact hgives ((hbulletin.1 hlast).trans (congrArg (State.itemEnds · c none)
            (State.bulletinEnds_lineCounted ((find?_isFor i due _).trans hq))))
  · intro d t up u freed due
    refine ⟨fun hcancel => ?_, fun hcancel hdone => ?_, fun hcancel hcls hconfirm hchannel => ?_⟩
    · rw [State.messageEnds_eq, if_pos hcancel, State.freeCancelled, State.freeWith_doneCounted, State.desc_doneCounted]
      rfl
    · rw [State.messageEnds_eq, if_neg (ne_true_of_eq_false hcancel), if_pos hdone, State.freeWith_doneCounted]
      rfl
    · have hno : ¬(d.cls = .relay ∨ d.confirm = false) := by simp [hcls, hconfirm]
      rw [State.messageEnds_eq, if_neg (ne_true_of_eq_false hcancel), if_neg hno,
        State.sent_doneCounted hchannel, State.toSent_doneCounted hchannel]
      rfl

end Sys2Proof.Proofs
end

section
/-! A transmitter faults, with what its channel returns (sections 8.3 and 8.5). -/

namespace Sys2Proof.Machine

section
variable {s : State} {c : ChannelNo} {h : Handle} {slot : SlotNo} {due : Nat} {a : AreaNo}

/-- R97. What a return does to the request, and to the area it leaves. -/
theorem State.returnRequest_eq : s.returnRequest c slot due a
    = (s.setArea a { s.area a with onAir := (s.area a).onAir - 1 }).setChan c { s.chan c with
      requests := (s.chan c).requests.map fun q => if q.slot = slot ∧ q.due = due then { q with
        state := .waiting, restarts := if q.restarts < 255 then q.restarts + 1 else 255 } else q } := by
  simp only [← Request.isFor_iff]
  rfl

theorem State.forSome_keeps {α β : Type} {f : State → α → State} (v : State → β) (hf : ∀ (t : State) (x : α), v (f t x) = v t)
    (x : Option α) : v (s.forSome x f) = v s := by
  cases x with
  | none => rfl
  | some x => exact hf s x

/-- R141. The channel itself as it faults: its segment broken off, no item, no request to key. -/
def State.faultedHere (s : State) (c : ChannelNo) (ready : Bool) (reason : FaultReason) : State :=
  s.setChan c { s.chan c with
    ready := ready
    state := .faulted
    faultReason := some reason
    item := .noItem
    idleSince := none
    holds := (s.chan c).holds.map fun r => if s.segmentShip c = some r.ship ∧ r.state = .pending then
      { r with state := .running, endsAt := s.clock.elapsed + r.count * 1000 } else r }

theorem State.breakSegment_eq (ready : Bool) (reason : FaultReason) :
    ((s.setChan c { s.chan c with ready := ready }).breakSegment c).modChan c (fun v =>
      { v with state := .faulted, faultReason := some reason, item := .noItem, idleSince := none })
    = s.faultedHere c ready reason := by
  have hship : (s.setChan c { s.chan c with ready := ready }).segmentShip c = s.segmentShip c := by
    unfold State.segmentShip
    rw [State.chan_setChan, if_pos rfl]
    cases (s.chan c).item <;> rfl
  unfold State.breakSegment State.faultedHere
  rw [hship]
  cases s.segmentShip c with
  | none => simp [State.modChan]
  | some ship =>
    simp only [State.segmentEnds, State.modChan, State.setChan_setChan, State.chan_setChan, if_true, Option.some.injEq]
    simp only [eq_comm (a := ship)]
    rfl

/-- R142. What a fault returns: the message of the slot, a relay being keyed, the request on air. -/
def State.faultReturns (s t : State) (c : ChannelNo) : State :=
  ((t.forSome (s.suspendedInSlot c) State.suspend).forSome (s.chan c).item.relayHandle State.requeueReady).forSome
    (s.chan c).item.onAirRequest fun t q => t.returnRequest c q.1 q.2.1 q.2.2

theorem State.faultReturns_keeps {β : Type} (v : State → β) (t : State) (hsuspend : ∀ (t : State) h, v (t.suspend h) = v t)
    (hrequeue : ∀ (t : State) h, v (t.requeueReady h) = v t)
    (hreturn : ∀ (t : State) slot due a, v (t.returnRequest c slot due a) = v t) : v (s.faultReturns t c) = v t :=
  ((State.forSome_keeps v (fun t _ => hreturn t ..) _).trans (State.forSome_keeps v hrequeue _)).trans
    (State.forSome_keeps v hsuspend _)

theorem State.emit_faultReturns {t : State} (ho : t.outbox = []) (fs : List Field) :
    (s.faultReturns t c).emit .fault (some c) fs
    = { s.faultReturns t c with outbox := [⟨.fault, some c, t.clock.ms, fs⟩] } := by
  have houtbox : (s.faultReturns t c).outbox = [] := (State.faultReturns_keeps State.outbox t (fun _ _ => rfl)
    (fun _ _ => rfl) fun _ _ _ _ => rfl).trans ho
  have hclock : (s.faultReturns t c).clock = t.clock := State.faultReturns_keeps State.clock t (fun _ _ => rfl)
    (fun _ _ => rfl) fun _ _ _ _ => rfl
  simp [State.emit, houtbox, hclock]

theorem State.faultChannel_eq (ready : Bool) (reason : FaultReason) :
    (s.setChan c { s.chan c with ready := ready }).faultChannel c reason
    = ((s.faultReturns (s.faultedHere c ready reason) c).emit .fault (some c)
      [.num 1 reason.code, .num 1 (s.chan c).item.code, .opt 1 ((s.chan c).active.map Fin.val),
        .opt 2 ((s.chan c).active.map fun h => (s.desc h).resume), .opt 1 ((s.chan c).item.relayHandle.map Fin.val),
        .opt 1 ((s.chan c).item.onAirRequest.map fun q => q.1.val),
        .opt 6 ((s.chan c).item.onAirRequest.map fun q => q.2.1)]).forSome (s.cancelledInSlot c) State.freeCancelled := by
  have hchan : (s.setChan c { s.chan c with ready := ready }).chan c = { s.chan c with ready := ready } := by simp
  have hcancelled : (s.setChan c { s.chan c with ready := ready }).cancelledInSlot c = s.cancelledInSlot c := by
    unfold State.cancelledInSlot
    rw [hchan]
    rfl
  have hsuspended : (s.setChan c { s.chan c with ready := ready }).suspendedInSlot c = s.suspendedInSlot c := by
    unfold State.suspendedInSlot
    rw [hchan]
    rfl
  unfold State.faultChannel
  dsimp only
  rw [State.breakSegment_eq, hcancelled, hsuspended, hchan]
  rfl

/-- R142. A message whose cancel was requested is freed, and not suspended; any other is suspended. -/
theorem State.inSlot_of_some (ha : (s.chan c).active = some h) :
    ((s.desc h).state = .active ∧ (s.desc h).cancelRequested = true →
      s.cancelledInSlot c = some h ∧ s.suspendedInSlot c = none)
    ∧ (¬((s.desc h).state = .active ∧ (s.desc h).cancelRequested = true) →
      s.cancelledInSlot c = none ∧ s.suspendedInSlot c = some h) := by
  unfold State.cancelledInSlot State.suspendedInSlot
  rw [ha]
  refine ⟨fun hf => ?_, fun hf => ?_⟩
  · simp [Option.filter, hf]
  · have hno : (decide ((s.desc h).state = .active) && (s.desc h).cancelRequested) = false := by
      rw [← Bool.not_eq_true, Bool.and_eq_true, decide_eq_true_iff]
      exact hf
    simp [Option.filter, hno]

theorem State.inSlot_of_none (ha : (s.chan c).active = none) : s.cancelledInSlot c = none ∧ s.suspendedInSlot c = none := by
  unfold State.cancelledInSlot State.suspendedInSlot
  rw [ha]
  exact ⟨rfl, rfl⟩

theorem State.keyUpOverdue_iff : s.keyUpOverdue c = true
    ↔ (s.chan c).state = .keyUp ∧ (s.chan c).keyRise + (s.chan c).settings.keyUpLimit ≤ s.clock.elapsed := by
  simp [State.keyUpOverdue]

end

end Sys2Proof.Machine

namespace Sys2Proof.Proofs

open Sys2Proof.Machine

/-- Settles O48. -/
theorem transmittersFault : Obligations.TransmittersFault := by
  unfold Obligations.TransmittersFault
  refine ⟨fun s h => ⟨State.toHead_eq .., State.toHead_eq ..⟩, fun s c i due a => State.returnRequest_eq, fun s c ho => ?_⟩
  intro ch x y faulted
  have hfaulted (ready : Bool) (reason : FaultReason) :
      (s.setChan c { ch with ready := ready }).faultChannel c reason = faulted ready reason := by
    rw [State.faultChannel_eq, State.emit_faultReturns (t := s.faultedHere c ready reason) ho]
    unfold State.faultReturns State.faultedHere State.segmentShip
    dsimp only [faulted, ch]
    cases ha : (s.chan c).active with
    | none =>
      obtain ⟨hcancelled, hsuspended⟩ := State.inSlot_of_none ha
      rw [hcancelled, hsuspended]
      cases (s.chan c).item with
      | marker w p n => cases w <;> rfl
      | _ => rfl
    | some h =>
      by_cases hf : (s.desc h).state = .active ∧ (s.desc h).cancelRequested = true
      · obtain ⟨hcancelled, hsuspended⟩ := (State.inSlot_of_some ha).1 hf
        rw [hcancelled, hsuspended]
        simp only [if_pos hf]
        cases (s.chan c).item with
        | marker w p n => cases w <;> rfl
        | _ => rfl
      · obtain ⟨hcancelled, hsuspended⟩ := (State.inSlot_of_some ha).2 hf
        rw [hcancelled, hsuspended]
        simp only [if_neg hf]
        cases (s.chan c).item with
        | marker w p n => cases w <;> rfl
        | _ => rfl
  refine ⟨fun hstate hlimit => ?_, fun hno => ?_, fun hstate => ?_, fun hstate => ?_⟩
  · refine (congrArg eventStep (if_pos (State.keyUpOverdue_iff.2 ⟨hstate, hlimit⟩))).trans ?_
    have hsame : s.setChan c { ch with ready := ch.ready } = s := s.setChan_chan c
    rw [← hfaulted, hsame]
    rfl
  · refine (congrArg eventStep (if_neg ?_)).trans (congrArg _ (State.flush_eq ho))
    rw [State.keyUpOverdue_iff]
    rintro ⟨hstate, hlimit⟩
    exact hno.elim (fun h => h hstate) fun h => absurd hlimit (Nat.not_le_of_lt h)
  · have hkeyed : ¬(s.chan c).state.keyed = true := by
      show ¬ch.state.keyed = true
      simp only [List.mem_cons, List.not_mem_nil, or_false] at hstate
      rcases hstate with h | h | h | h <;> rw [h] <;> decide
    exact (congrArg eventStep (if_neg hkeyed)).trans (congrArg _ (State.flush_eq (s := s.setReady c false) ho))
  · have hkeyed : (s.chan c).state.keyed = true := by
      show ch.state.keyed = true
      simp only [List.mem_cons, List.not_mem_nil, or_false] at hstate
      rcases hstate with h | h <;> rw [h] <;> rfl
    refine (congrArg eventStep (if_pos hkeyed)).trans ?_
    rw [← hfaulted]
    rfl

end Sys2Proof.Proofs
end

section
/-! A channel is closed or reset, with all that it returns (sections 8.6 and 8.7). -/

namespace Sys2Proof.Machine

/-! ### What the places of messages leave of a channel -/

/-- A channel without the places of its messages. -/
def Channel.rest (ch : Channel) : Channel := { ch with relayQ := [], urgentQ := [], ordinaryQ := [], active := none, sent := [] }

theorem Channel.rest_detach (ch : Channel) (h : Handle) : (ch.detach h).rest = ch.rest := rfl

theorem Channel.rest_setQueue (ch : Channel) (k : MsgClass) (q : List Handle) : (ch.setQueue k q).rest = ch.rest := by
  cases k <;> rfl

theorem Channel.queue_setQueue (ch : Channel) (k j : MsgClass) (q : List Handle) :
    (ch.setQueue k q).queue j = if j = k then q else ch.queue j := by
  cases k <;> cases j <;> rfl

theorem Channel.queue_detach (ch : Channel) (h : Handle) (k : MsgClass) : (ch.detach h).queue k = (ch.queue k).filter (· ≠ h) := by
  cases k <;> rfl

theorem Channel.active_setQueue (ch : Channel) (k : MsgClass) (q : List Handle) : (ch.setQueue k q).active = ch.active := by
  cases k <;> rfl

theorem Channel.sent_setQueue (ch : Channel) (k : MsgClass) (q : List Handle) : (ch.setQueue k q).sent = ch.sent := by
  cases k <;> rfl

theorem filter_ne_of_not_mem {l : List Handle} {h : Handle} (hno : h ∉ l) : l.filter (· ≠ h) = l :=
  List.filter_eq_self.2 fun _ hg => decide_eq_true fun he => hno (he ▸ hg)

section
variable {s : State} {c : ChannelNo} {h : Handle}

theorem State.rest_toHead (f : Descriptor → Descriptor) : ((s.toHead h f).chan c).rest = (s.chan c).rest := by
  rw [State.toHead_eq, State.chan_setChan]
  split
  · next hc =>
    rw [Channel.rest_setQueue, Channel.rest_detach, hc]
  · rfl

theorem State.rest_freeMessage : ((s.freeMessage h).chan c).rest = (s.chan c).rest := by
  show ((s.detach h).chan c).rest = _
  rw [State.detach, State.chan_modChan]
  split
  · next hc =>
    rw [Channel.rest_detach, hc]
  · rfl

theorem State.desc_toHead_of_ne {g : Handle} (f : Descriptor → Descriptor) (hne : g ≠ h) : (s.toHead h f).desc g = s.desc g := by
  rw [State.toHead_eq]
  exact (State.desc_setDesc ..).trans (if_neg hne)

theorem State.desc_freeMessage {g : Handle} : (s.freeMessage h).desc g = if g = h then Descriptor.reset else s.desc g :=
  State.desc_setDesc ..

/-! ### A grant judged again -/

/-- R51. What the judgement of a waiting grant can do. -/
theorem State.rejudgeGrant_cases (s : State) : s.rejudgeGrant = s ∨ ∃ l h c, s.loadUnit.current = some l
    ∧ l.target = .telex h c ∧ l.waiting = true ∧ (s.grantBlocks l h ≤ s.usable c
      ∧ s.rejudgeGrant = (s.granted l h).emit .credit (some c)
        [.handle h, .num 2 (s.grantNeed l), .num 2 l.received, .num 2 l.clamped]
      ∨ s.rejudgeGrant = s.setLoad (some { l with waiting := true })) := by
  cases hl : s.loadUnit.current with
  | none => exact .inl (State.rejudgeGrant_of_none hl)
  | some l =>
    cases ht : l.target with
    | bulletin a => exact .inl (State.rejudgeGrant_of_bulletin hl ht)
    | telex h c =>
      cases hw : l.waiting with
      | false => exact .inl (State.rejudgeGrant_of_not_waiting hl hw)
      | true =>
        refine .inr ⟨l, h, c, rfl, ht, hw, ?_⟩
        rw [State.rejudgeGrant_of_waiting hl hw, State.judgeGrant_eq hl ht]
        by_cases hu : s.grantBlocks l h ≤ s.usable c
        · exact .inl ⟨hu, if_pos hu⟩
        · exact .inr (if_neg hu)

theorem State.channels_rejudgeGrant : s.rejudgeGrant.channels = s.channels := by
  rcases s.rejudgeGrant_cases with h | ⟨l, h, c, _, _, _, ⟨_, h'⟩ | h'⟩
  · rw [h]
  · rw [h']
    rfl
  · rw [h']
    rfl

theorem State.slots_rejudgeGrant : s.rejudgeGrant.slots = s.slots := by
  rcases s.rejudgeGrant_cases with h | ⟨l, h, c, _, _, _, ⟨_, h'⟩ | h'⟩
  · rw [h]
  · rw [h']
    rfl
  · rw [h']
    rfl

theorem State.areas_rejudgeGrant : s.rejudgeGrant.store.areas = s.store.areas := by
  rcases s.rejudgeGrant_cases with h | ⟨l, h, c, _, _, _, ⟨_, h'⟩ | h'⟩
  · rw [h]
  · rw [h']
    rfl
  · rw [h']
    rfl

theorem State.desc_rejudgeGrant (g : Handle) : ∃ bs, s.rejudgeGrant.desc g = { s.desc g with chain := bs } := by
  rcases s.rejudgeGrant_cases with h | ⟨l, h, c, _, _, _, ⟨_, h'⟩ | h'⟩
  · exact ⟨_, by rw [h]⟩
  · rw [h']
    by_cases hg : g = h
    · subst hg
      exact ⟨_, (State.desc_setDesc ..).trans (if_pos rfl)⟩
    · exact ⟨(s.desc g).chain, (State.desc_setDesc ..).trans (if_neg hg)⟩
  · exact ⟨_, by rw [h']; rfl⟩

theorem State.rest_freeCancelled : ((s.freeCancelled h).chan c).rest = (s.chan c).rest := by
  have hchannels : (s.freeCancelled h).channels = (s.freeMessage h).channels := State.channels_rejudgeGrant
  exact (congrArg (fun v => (vget v c).rest) hchannels).trans State.rest_freeMessage

/-! ### Requests that end without completing -/

/-- The notice of a request that ends without completing (R93, R99). -/
def brokenNotice (ms : Nat) (c : ChannelNo) (q : Request) : Notice := ⟨.outcome, some c, ms,
  [.num 1 (if q.firstStart = none then 3 else 4), .num 1 q.slot.val, .num 1 q.area.val, .num 6 q.due, .num 6 q.deadline,
    .opt 6 (q.firstStart.map fun t => t - q.due), .num 1 q.restarts]⟩

/-- R99, R100. A request that ends without completing, for a reset (`quiet`) or not. -/
theorem State.endBroken_eq (q : Request) (quiet : Bool) : ∃ ns st, s.endBroken c q quiet
    = State.setChan { s with outbox := s.outbox ++ ns } c { s.chan c with
      requests := (s.chan c).requests.filter fun p => !p.isFor q.slot q.due
      stats := st }
    ∧ (quiet = true ∨ (s.chan c).stats.overrun < 15 → ns = [brokenNotice s.clock.ms c q])
    ∧ (quiet = false → (s.chan c).stats.overrun < 15 → st.overrun = (s.chan c).stats.overrun + 1) := by
  have hcode : q.brokenOutcome.code = if q.firstStart = none then 3 else 4 := by
    unfold Request.brokenOutcome
    cases q.firstStart <;> rfl
  have hoverruns : q.brokenOutcome.overruns = true := by
    unfold Request.brokenOutcome
    cases q.firstStart <;> rfl
  cases quiet with
  | true =>
    refine ⟨[brokenNotice s.clock.ms c q], (s.chan c).stats.countOutcome q.brokenOutcome, ?_, fun _ => rfl, nofun⟩
    rw [State.endBroken, State.endRequest, State.recordOutcome, Bool.not_true, Bool.and_false, if_neg Bool.false_ne_true,
      hcode]
    simp [State.modStats, State.modChan, State.dropRequest, State.emit, State.setChan, State.chan, brokenNotice,
      Request.lateness]
    exact ⟨rfl, rfl⟩
  | false =>
    refine ⟨s.outcomeNotices c q q.brokenOutcome q.lateness, s.outcomeStats c q.brokenOutcome, ?_, ?_, ?_⟩
    · rw [State.endBroken, State.endRequest_eq]
      simp [Request.isFor]
    · intro hlow
      have hlow : (s.chan c).stats.overrun < 15 := hlow.resolve_left Bool.false_ne_true
      have hwraps : s.overrunWraps c q.brokenOutcome = false := by simp [State.overrunWraps, hlow]
      rw [State.outcomeNotices, hwraps, hcode]
      rfl
    · intro _ hlow
      have hwraps : s.overrunWraps c q.brokenOutcome = false := by simp [State.overrunWraps, hlow]
      simp [State.outcomeStats, hwraps, hoverruns]

/-- R93, R99. The requests of a channel that all end without completing, in list order. -/
theorem State.endAllBroken_eq (quiet : Bool) (qs : List Request) : ∃ ns st, s.endAllBroken c quiet qs
    = State.setChan { s with outbox := s.outbox ++ ns } c { s.chan c with
      requests := (s.chan c).requests.filter fun p => qs.all fun q => !p.isFor q.slot q.due
      stats := st }
    ∧ (quiet = true ∨ (s.chan c).stats.overrun + qs.length ≤ 15 → ns = qs.map (brokenNotice s.clock.ms c))
    ∧ (quiet = false → (s.chan c).stats.overrun + qs.length ≤ 15 →
      st.overrun = (s.chan c).stats.overrun + qs.length) := by
  induction qs generalizing s with
  | nil =>
    refine ⟨[], (s.chan c).stats, ?_, fun _ => rfl, fun _ _ => rfl⟩
    simp only [State.endAllBroken, List.foldl_nil, List.append_nil, List.all_nil, List.filter_true]
    exact (s.setChan_chan c).symm
  | cons q qs ih =>
    obtain ⟨ns, st, hone, hns, hst⟩ := s.endBroken_eq (c := c) q quiet
    obtain ⟨ns', st', hall, hns', hst'⟩ := ih (s := s.endBroken c q quiet)
    have hchan : (s.endBroken c q quiet).chan c = { s.chan c with
        requests := (s.chan c).requests.filter fun p => !p.isFor q.slot q.due, stats := st } := by
      rw [hone]
      simp
    have hclock : (s.endBroken c q quiet).clock = s.clock := by
      rw [hone]
      rfl
    rw [hchan, hclock] at hns'
    rw [hchan] at hst'
    refine ⟨ns ++ ns', st', ?_, fun h => ?_, fun h hlow => ?_⟩
    · refine Eq.trans (b := (s.endBroken c q quiet).endAllBroken c quiet qs) rfl (hall.trans ?_)
      rw [hchan, hone]
      simp [State.setChan, List.filter_filter, Bool.and_comm]
    · simp only [List.length_cons] at h
      rw [hns (h.imp_right fun h => by omega), hns' ?_]
      · rfl
      · by_cases hq : quiet = true
        · exact .inl hq
        · refine .inr ?_
          rw [hst (by simpa using hq) (by simp [hq] at h; omega)]
          simp [hq] at h
          omega
    · simp only [List.length_cons] at hlow ⊢
      have hfirst := hst h (by omega)
      dsimp only at hst'
      rw [hst' h (by omega), hfirst]
      omega

theorem State.endOwn_eq (quiet : Bool) : ∃ ns st, s.endAllBroken c quiet (s.chan c).requests
    = State.setChan { s with outbox := s.outbox ++ ns } c { s.chan c with requests := [], stats := st }
    ∧ (quiet = true ∨ (s.chan c).stats.overrun + (s.chan c).requests.length ≤ 15 →
      ns = (s.chan c).requests.map (brokenNotice s.clock.ms c))
    ∧ (quiet = false → (s.chan c).stats.overrun + (s.chan c).requests.length ≤ 15 →
      st.overrun = (s.chan c).stats.overrun + (s.chan c).requests.length) := by
  obtain ⟨ns, st, heq, hrest⟩ := s.endAllBroken_eq (c := c) quiet (s.chan c).requests
  refine ⟨ns, st, heq.trans ?_, hrest⟩
  have hnone : (s.chan c).requests.filter (fun p => (s.chan c).requests.all fun q => !p.isFor q.slot q.due) = [] := by
    refine List.filter_eq_nil_iff.2 fun p hp hall => ?_
    have := List.all_eq_true.1 hall p hp
    simp [Request.isFor] at this
  rw [hnone]

/-! ### Reaching OFFLINE -/

/-- The notice of a message that a close or a reset returns (R132). -/
def suspendedRecord (s : State) (c : ChannelNo) (h : Handle) (cause : Nat) : Notice := ⟨.suspended, some c, s.clock.ms,
  [.num 1 h.val, .num 2 (s.desc h).number, .num 1 cause, .num 2 (s.desc h).resume, .num 3 (s.desc h).dest]⟩

theorem State.closeParked_of_some (hp : s.parkedMessage c = some h) :
    s.closeParked c = { s.suspend h with
      outbox := s.outbox ++ [suspendedRecord s (s.desc h).channel h 1] } := by
  simp only [State.closeParked, hp]
  exact State.suspendedNotice_suspend .close

theorem State.closeParked_of_none (hp : s.parkedMessage c = none) : s.closeParked c = s := by
  simp only [State.closeParked, hp]

theorem State.closeParked_keeps : (s.closeParked c).slots = s.slots ∧ (s.closeParked c).clock = s.clock
    ∧ ((s.closeParked c).chan c).rest = (s.chan c).rest := by
  cases hp : s.parkedMessage c with
  | none =>
    rw [State.closeParked_of_none hp]
    exact ⟨rfl, rfl, rfl⟩
  | some h =>
    rw [State.closeParked_of_some hp]
    exact ⟨rfl, rfl, State.rest_toHead _⟩

/-- R145. A channel as it goes OFFLINE, with what it holds. -/
def State.switchedOff (s : State) (c : ChannelNo) : State :=
  s.setChan c { s.chan c with state := .offline, item := .noItem, idleSince := none, faultReason := none }

/-- R145. A channel that reaches OFFLINE: the PARKED message is returned, the requests end, the parser is in HUNT. -/
theorem State.reachOffline_eq (s : State) (c : ChannelNo) : ∃ ns st, s.reachOffline c
    = State.setChan { (s.switchedOff c).closeParked c with
        outbox := ((s.switchedOff c).closeParked c).outbox ++ ns
          ++ if (s.chan c).state = .closing then [⟨.closed, some c, s.clock.ms, []⟩] else [] } c
      { ((s.switchedOff c).closeParked c).chan c with requests := [], stats := st, parser := Parser.reset }
    ∧ ((s.chan c).stats.overrun + (s.chan c).requests.length ≤ 15 →
      ns = (s.chan c).requests.map (brokenNotice s.clock.ms c)
        ∧ st.overrun = (s.chan c).stats.overrun + (s.chan c).requests.length) := by
  obtain ⟨_, hclock, hrest⟩ := State.closeParked_keeps (s := s.switchedOff c) (c := c)
  have hchan : ((s.switchedOff c).chan c).rest = { (s.chan c).rest with
      state := .offline, item := .noItem, idleSince := none, faultReason := none } := by
    rw [State.switchedOff, State.chan_setChan, if_pos rfl]
    rfl
  rw [hchan] at hrest
  obtain ⟨v, hv⟩ : ∃ v, v = (s.switchedOff c).closeParked c := ⟨_, rfl⟩
  obtain ⟨ns, st, hend, hns, hst⟩ := v.endOwn_eq (c := c) false
  rw [← hv] at hclock hrest ⊢
  have hrequests : (v.chan c).requests = (s.chan c).requests := by
    have h := congrArg Channel.requests hrest
    exact h
  have hoverrun : (v.chan c).stats.overrun = (s.chan c).stats.overrun := by
    have h := congrArg (·.stats.overrun) hrest
    exact h
  have hms : v.clock.ms = s.clock.ms := congrArg Clock.ms hclock
  rw [hrequests, hoverrun, hms] at hns
  rw [hrequests, hoverrun] at hst
  refine ⟨ns, st, ?_, fun hlow => ⟨hns (.inr hlow), hst rfl hlow⟩⟩
  have hreach : s.reachOffline c = if (s.chan c).state = .closing
      then ((v.endAllBroken c false (v.chan c).requests).modChan c fun ch => { ch with parser := Parser.reset }).emit
        .closed (some c) []
      else (v.endAllBroken c false (v.chan c).requests).modChan c fun ch => { ch with parser := Parser.reset } := by
    rw [hv]
    by_cases hc : (s.chan c).state = .closing
    · rw [if_pos hc]
      exact if_pos (decide_eq_true hc)
    · rw [if_neg hc]
      exact if_neg (by simpa using hc)
  rw [hreach, hend]
  split
  · simp [State.modChan, State.emit, hms]
    rfl
  · simp [State.modChan]

theorem State.parkedMessage_switchedOff : (s.switchedOff c).parkedMessage c = s.parkedMessage c := by
  unfold State.parkedMessage State.switchedOff
  rw [State.chan_setChan, if_pos rfl]
  rfl

/-- R144, R145. What a channel that has reached OFFLINE keeps, and what it has lost. -/
theorem State.reachOffline_closed (s : State) (c : ChannelNo) : (s.reachOffline c).slots = s.slots
    ∧ (∃ st, ((s.reachOffline c).chan c).rest = { (s.chan c).rest with
      state := .offline, item := .noItem, idleSince := none, faultReason := none, requests := [], stats := st
      parser := Parser.reset })
    ∧ ∀ h, (s.chan c).active = some h → (s.desc h).state = .parked → (s.desc h).channel = c →
      (s.reachOffline c).desc h = { s.desc h with state := .suspended } ∧ ((s.reachOffline c).chan c).active = none
        ∧ (((s.reachOffline c).chan c).queue (s.desc h).cls).head? = some h := by
  obtain ⟨ns, st, heq, _⟩ := s.reachOffline_eq c
  obtain ⟨hslots, _, hrest⟩ := State.closeParked_keeps (s := s.switchedOff c) (c := c)
  have hchan : (s.reachOffline c).chan c
      = { ((s.switchedOff c).closeParked c).chan c with requests := [], stats := st, parser := Parser.reset } := by
    rw [heq, State.chan_setChan, if_pos rfl]
  refine ⟨?_, ⟨st, ?_⟩, fun h ha hp hc => ?_⟩
  · rw [heq]
    exact hslots
  · have hoff : ((s.switchedOff c).chan c).rest = { (s.chan c).rest with
        state := .offline, item := .noItem, idleSince := none, faultReason := none } := by
      rw [State.switchedOff, State.chan_setChan, if_pos rfl]
      rfl
    rw [hoff] at hrest
    rw [hchan]
    exact congrArg (fun v : Channel => { v with requests := [], stats := st, parser := Parser.reset }) hrest
  · have hparked : (s.switchedOff c).parkedMessage c = some h := by
      rw [State.parkedMessage_switchedOff]
      simp [State.parkedMessage, ha, hp]
    have hmessage := State.closeParked_of_some hparked
    have hclosed : ((s.switchedOff c).closeParked c).chan c = ((((s.switchedOff c).chan c).detach h).setQueue
        (s.desc h).cls (h :: (((s.switchedOff c).chan c).detach h).queue (s.desc h).cls)) := by
      rw [hmessage]
      show ((s.switchedOff c).suspend h).chan c = _
      rw [State.suspend, State.toHead_eq, State.chan_setChan]
      exact (if_pos hc.symm).trans (by rw [show ((s.switchedOff c).desc h).channel = c from hc]; rfl)
    refine ⟨?_, ?_, ?_⟩
    · rw [heq]
      show ((s.switchedOff c).closeParked c).desc h = _
      rw [hmessage]
      exact State.desc_toHead (s := s.switchedOff c) fun d => { d with state := .suspended }
    · rw [hchan, hclosed]
      show ((((s.switchedOff c).chan c).detach h).setQueue _ _).active = none
      rw [Channel.active_setQueue]
      exact if_pos (by rw [State.switchedOff, State.chan_setChan, if_pos rfl]; exact ha)
    · rw [hchan, hclosed]
      show ((((((s.switchedOff c).chan c).detach h).setQueue _ _)).queue (s.desc h).cls).head? = some h
      rw [Channel.queue_setQueue, if_pos rfl]
      rfl

/-- R144, R145. The notices of a channel that reaches OFFLINE without an OVERRUN-WRAP. -/
theorem State.outbox_reachOffline (hlow : (s.chan c).stats.overrun + (s.chan c).requests.length ≤ 15) :
    ((∀ h, (s.chan c).active = some h → (s.desc h).channel = c) → (s.reachOffline c).outbox = s.outbox
      ++ (((s.chan c).active.toList.filter fun h => decide ((s.desc h).state = .parked)).map
        (suspendedRecord s c · 1))
      ++ (s.chan c).requests.map (brokenNotice s.clock.ms c)
      ++ if (s.chan c).state = .closing then [⟨.closed, some c, s.clock.ms, []⟩] else [])
    ∧ ((s.reachOffline c).chan c).stats.overrun = (s.chan c).stats.overrun + (s.chan c).requests.length := by
  obtain ⟨ns, st, heq, hrequests⟩ := s.reachOffline_eq c
  obtain ⟨hns, hst⟩ := hrequests hlow
  rw [heq]
  refine ⟨fun hactive => ?_, ?_⟩
  · show ((s.switchedOff c).closeParked c).outbox ++ ns ++ _ = _
    have hparked := State.parkedMessage_switchedOff (s := s) (c := c)
    have houtbox : ((s.switchedOff c).closeParked c).outbox = s.outbox
        ++ ((s.chan c).active.toList.filter fun h => decide ((s.desc h).state = .parked)).map
          (suspendedRecord s c · 1) := by
      cases ha : (s.chan c).active with
      | none =>
        rw [State.closeParked_of_none (hparked.trans (by simp [State.parkedMessage, ha]))]
        exact (List.append_nil _).symm
      | some h =>
        by_cases hp : (s.desc h).state = .parked
        · rw [State.closeParked_of_some (h := h) (hparked.trans (by simp [State.parkedMessage, ha, hp]))]
          simp only [Option.toList_some, hp, decide_true, List.filter_cons_of_pos, List.filter_nil, List.map_cons, List.map_nil]
          rw [show ((s.switchedOff c).desc h).channel = c from hactive h ha]
          rfl
        · rw [State.closeParked_of_none (hparked.trans (by simp [State.parkedMessage, ha, hp]))]
          simp [hp]
          rfl
    rw [houtbox, hns]
  · rw [State.chan_setChan, if_pos rfl]
    exact hst

theorem State.state_cutTelex : ((s.cutTelex c).chan c).state = (s.chan c).state := by
  unfold State.cutTelex
  split
  · rw [State.chan_modChan, if_pos rfl]
  · rw [State.chan_modChan, if_pos rfl]
  all_goals rfl

/-! ### A reset -/

/-- The messages that a reset returns: the one of the slot, and a relay being keyed (R146 steps 2 and 3). -/
def State.resetMessages (s t : State) (c : ChannelNo) : State :=
  ((t.forSome (s.suspendedInSlot c) fun s h => (s.suspend h).suspendedNotice h .reset).forSome
    (s.cancelledInSlot c) State.freeCancelled).forSome (s.chan c).item.relayHandle State.requeueReady

/-- What a reset returns: its messages, and the area on air (R146 step 4). -/
def State.resetReturns (s t : State) (c : ChannelNo) : State :=
  (s.resetMessages t c).forSome (s.chan c).item.onAirRequest fun s q => s.leaveArea q.2.2

/-- R146. The channel itself as it is reset. -/
def State.resetHere (s : State) (c : ChannelNo) : State := s.setChan c { s.chan c with
  state := .offline, faultReason := none, item := .noItem, idleSince := none, urgentRun := 0, lastFit := none }

theorem State.resetPort_eq (s : State) (c : ChannelNo) : ∃ ns, s.resetPort c
    = State.setChan { s.resetReturns (s.resetHere c) c with outbox := (s.resetReturns (s.resetHere c) c).outbox ++ ns } c
      { (s.resetReturns (s.resetHere c) c).chan c with
        requests := [], parser := Parser.reset, holds := [], latch := none, rx := RxCounts.reset, stats := Stats.reset }
    ∧ ns = ((s.resetReturns (s.resetHere c) c).chan c).requests.map
      (brokenNotice (s.resetReturns (s.resetHere c) c).clock.ms c) := by
  obtain ⟨ns, st, hend, hns, _⟩ := (s.resetReturns (s.resetHere c) c).endOwn_eq (c := c) true
  refine ⟨ns, ?_, hns (.inl rfl)⟩
  have hreset : s.resetPort c = ((s.resetReturns (s.resetHere c) c).endAllBroken c true
      ((s.resetReturns (s.resetHere c) c).chan c).requests).modChan c fun ch =>
      { ch with parser := Parser.reset, holds := [], latch := none, rx := RxCounts.reset, stats := Stats.reset } := rfl
  rw [hreset, hend]
  simp [State.modChan]

theorem State.resetMessages_keeps {β : Type} (v : State → β) (t : State)
    (hsuspend : ∀ (t : State) h, v ((t.suspend h).suspendedNotice h .reset) = v t)
    (hfree : ∀ (t : State) h, v (t.freeCancelled h) = v t) (hrequeue : ∀ (t : State) h, v (t.requeueReady h) = v t) :
    v (s.resetMessages t c) = v t :=
  ((State.forSome_keeps v hrequeue _).trans (State.forSome_keeps v hfree _)).trans (State.forSome_keeps v hsuspend _)

theorem State.resetReturns_keeps {β : Type} (v : State → β) (t : State)
    (hsuspend : ∀ (t : State) h, v ((t.suspend h).suspendedNotice h .reset) = v t)
    (hfree : ∀ (t : State) h, v (t.freeCancelled h) = v t) (hrequeue : ∀ (t : State) h, v (t.requeueReady h) = v t)
    (hleave : ∀ (t : State) a, v (t.leaveArea a) = v t) : v (s.resetReturns t c) = v t :=
  (State.forSome_keeps v (fun t _ => hleave t _) _).trans (State.resetMessages_keeps v t hsuspend hfree hrequeue)

theorem State.rest_resetReturns (t : State) : ((s.resetReturns t c).chan c).rest = (t.chan c).rest :=
  State.resetReturns_keeps (fun t => (t.chan c).rest) t (fun _ _ => State.rest_toHead _) (fun _ _ => State.rest_freeCancelled)
    (fun _ _ => State.rest_toHead _) fun _ _ => rfl

theorem State.slots_resetReturns (t : State) : (s.resetReturns t c).slots = t.slots :=
  State.resetReturns_keeps State.slots t (fun _ _ => rfl) (fun _ _ => State.slots_rejudgeGrant) (fun _ _ => rfl)
    fun _ _ => rfl

theorem State.clock_resetReturns (t : State) : (s.resetReturns t c).clock = t.clock :=
  State.resetReturns_keeps State.clock t (fun _ _ => rfl) (fun t h => (t.freeCancelled_quiet h).clock) (fun _ _ => rfl)
    fun _ _ => rfl

theorem State.areas_resetReturns (t : State) (a : AreaNo) : ((s.resetReturns t c).area a).onAir = (t.area a).onAir
    - if ((s.chan c).item.onAirRequest.map fun q => q.2.2) = some a then 1 else 0 := by
  obtain ⟨u, hu⟩ : ∃ u, u = s.resetMessages t c := ⟨_, rfl⟩
  have hareas : u.store.areas = t.store.areas :=
    hu ▸ State.resetMessages_keeps (fun t => t.store.areas) t (fun _ _ => rfl)
      (fun _ _ => State.areas_rejudgeGrant) fun _ _ => rfl
  have harea (b : AreaNo) : u.area b = t.area b := congrArg (vget · b) hareas
  rw [State.resetReturns, ← hu]
  cases (s.chan c).item.onAirRequest with
  | none =>
    show (u.area a).onAir = _
    simp [harea]
  | some q =>
    show ((u.leaveArea q.2.2).area a).onAir = _
    by_cases ha : q.2.2 = a
    · simp [State.leaveArea, ha, harea]
    · simp [State.leaveArea, ha, Ne.symm ha, harea]

theorem State.resetReturns_messages (t : State) : (s.resetReturns t c).descs = (s.resetMessages t c).descs
    ∧ (s.resetReturns t c).channels = (s.resetMessages t c).channels
    ∧ (s.resetReturns t c).outbox = (s.resetMessages t c).outbox := by
  unfold State.resetReturns
  cases (s.chan c).item.onAirRequest <;> exact ⟨rfl, rfl, rfl⟩

theorem Item.relayHandle_eq_some {it : Item} : it.relayHandle = some h ↔ it = .relay h := by
  cases it <;> simp [Item.relayHandle]

/-- R82. A relay that is keyed as its channel is reset: READY at the head of its queue, and nothing else of the messages. -/
theorem State.requeueReady_relay {u : State} (hc : (u.desc h).channel = c) (hcls : (u.desc h).cls = .relay)
    (hactive : (u.chan c).active ≠ some h) (hsent : h ∉ (u.chan c).sent)
    (hqueue : ∀ k, k ≠ .relay → h ∉ (u.chan c).queue k) :
    (u.requeueReady h).desc h = { u.desc h with state := .ready, resume := 0, ackDue := none }
    ∧ (∀ g, g ≠ h → (u.requeueReady h).desc g = u.desc g)
    ∧ ((u.requeueReady h).chan c).active = (u.chan c).active ∧ ((u.requeueReady h).chan c).sent = (u.chan c).sent
    ∧ ((u.requeueReady h).chan c).relayQ.head? = some h
    ∧ ∀ k, k ≠ .relay → ((u.requeueReady h).chan c).queue k = (u.chan c).queue k := by
  have hchan : (u.requeueReady h).chan c = ((u.chan c).detach h).setQueue .relay
      (h :: ((u.chan c).detach h).queue .relay) := by
    rw [State.requeueReady, State.toHead_eq, State.chan_setChan, if_pos hc.symm, hc, hcls]
  refine ⟨State.desc_toHead _, fun g hg => State.desc_toHead_of_ne _ hg, ?_, ?_, ?_, fun k hk => ?_⟩
  · rw [hchan]
    exact if_neg hactive
  · rw [hchan]
    exact filter_ne_of_not_mem hsent
  · rw [hchan]
    rfl
  · rw [hchan, Channel.queue_setQueue, if_neg hk, Channel.queue_detach]
    exact filter_ne_of_not_mem (hqueue k hk)

/-- The message of an active slot stands in no queue and in no sent list (R64 to R66). -/
theorem State.places_of_active (hp : s.placesOk) (ha : (s.chan c).active = some h) : (s.desc h).channel = c
    ∧ (s.desc h).cls ≠ .relay ∧ h ∉ (s.chan c).sent ∧ ∀ k, h ∉ (s.chan c).queue k := by
  obtain ⟨hqueue, hactive, hsent, _⟩ := hp
  obtain ⟨hc, hcls, hst⟩ := (hactive c h).1 ha
  refine ⟨hc, hcls, fun hm => ?_, fun k hm => ?_⟩
  · obtain ⟨_, hst'⟩ := (hsent c h).1 hm
    rcases hst with hst | hst <;> simp [hst] at hst'
  · obtain ⟨_, hk, hst'⟩ := (hqueue c k h).1 hm
    rcases hst' with hst' | hst' | ⟨hrelay, _⟩
    · rcases hst with hst | hst <;> simp [hst] at hst'
    · rcases hst with hst | hst <;> simp [hst] at hst'
    · exact hcls (hk.trans hrelay)

/-- A relay being keyed stands in its queue alone (R64, R108). -/
theorem State.places_of_relay (hp : s.placesOk) (hi : s.itemsOk) (hr : (s.chan c).item = .relay h) :
    (s.desc h).channel = c ∧ (s.desc h).cls = .relay ∧ (s.chan c).active ≠ some h ∧ h ∉ (s.chan c).sent
      ∧ ∀ k, k ≠ .relay → h ∉ (s.chan c).queue k := by
  obtain ⟨hqueue, hactive, hsent, _⟩ := hp
  obtain ⟨_, _, hrelay, _⟩ := hi c
  obtain ⟨hm, hst⟩ := (hrelay h).1 hr
  obtain ⟨hc, hcls, _⟩ := (hqueue c .relay h).1 hm
  refine ⟨hc, hcls, fun ha => ((hactive c h).1 ha).2.1 hcls, fun hs => ?_, fun k hk hm' => ?_⟩
  · have hst' := ((hsent c h).1 hs).2
    simp [hst] at hst'
  · exact hk (((hqueue c k h).1 hm').2.1.symm.trans hcls)

/-- While the message of the slot is keyed, no relay is (R106). -/
theorem State.relayHandle_of_active (hi : s.itemsOk) (ha : (s.chan c).active = some h) (hst : (s.desc h).state = .active) :
    (s.chan c).item.relayHandle = none := by
  obtain ⟨_, hslot, _⟩ := hi c
  have hmessage := (hslot h).2 ⟨ha, hst⟩
  cases hr : (s.chan c).item.relayHandle with
  | none => rfl
  | some g =>
    rw [Item.relayHandle_eq_some.1 hr] at hmessage
    cases hmessage

/-- A state that a reset has brought to the return of the relay: the slot empty, the lists as they were. -/
structure State.SlotCleared (s u : State) (c : ChannelNo) : Prop where
  active : (u.chan c).active = none
  sent : (u.chan c).sent = (s.chan c).sent
  desc : ∀ h, (s.chan c).item = .relay h → u.desc h = s.desc h
  queue : ∀ h, (s.chan c).item = .relay h → ∀ k, k ≠ .relay → h ∉ (u.chan c).queue k

/-- R146 step 3. The relay that a reset returns. -/
theorem State.SlotCleared.relay {u : State} (hu : s.SlotCleared u c) (hp : s.placesOk) (hi : s.itemsOk) :
    ((u.forSome (s.chan c).item.relayHandle State.requeueReady).chan c).active = none
    ∧ ((u.forSome (s.chan c).item.relayHandle State.requeueReady).chan c).sent = (s.chan c).sent
    ∧ (∀ h, (s.chan c).item = .relay h → (u.forSome (s.chan c).item.relayHandle State.requeueReady).desc h
        = { s.desc h with state := .ready, resume := 0, ackDue := none }
      ∧ ((u.forSome (s.chan c).item.relayHandle State.requeueReady).chan c).relayQ.head? = some h)
    ∧ (∀ g, (s.chan c).item ≠ .relay g →
      (u.forSome (s.chan c).item.relayHandle State.requeueReady).desc g = u.desc g)
    ∧ ∀ k, k ≠ .relay →
      ((u.forSome (s.chan c).item.relayHandle State.requeueReady).chan c).queue k = (u.chan c).queue k := by
  cases hr : (s.chan c).item.relayHandle with
  | none =>
    refine ⟨hu.active, hu.sent, fun h hh => ?_, fun _ _ => rfl, fun _ _ => rfl⟩
    rw [Item.relayHandle_eq_some.2 hh] at hr
    cases hr
  | some h =>
    have hitem := Item.relayHandle_eq_some.1 hr
    obtain ⟨hc, hcls, _, hsent, _⟩ := State.places_of_relay hp hi hitem
    have hdesc := hu.desc h hitem
    obtain ⟨hready, hother, hactive', hsent', hhead, hqueue'⟩ := State.requeueReady_relay (u := u) (by rw [hdesc, hc])
      (by rw [hdesc, hcls]) (by rw [hu.active]; nofun) (by rwa [hu.sent]) (hu.queue h hitem)
    refine ⟨hactive'.trans hu.active, hsent'.trans hu.sent, fun g hg => ?_, fun g hg => hother g fun he => hg (he ▸ hitem),
      hqueue'⟩
    cases hitem.symm.trans hg
    exact ⟨by rw [← hdesc]; exact hready, hhead⟩

theorem State.slotCleared_of_none (hp : s.placesOk) (hi : s.itemsOk) (ha : (s.chan c).active = none) :
    s.SlotCleared (s.resetHere c) c := by
  have hchan : (s.resetHere c).chan c = { s.chan c with
      state := .offline, faultReason := none, item := .noItem, idleSince := none, urgentRun := 0, lastFit := none } := by
    rw [State.resetHere, State.chan_setChan, if_pos rfl]
  refine ⟨by rw [hchan]; exact ha, by rw [hchan], fun _ _ => rfl, fun h hr k hk => ?_⟩
  have hqueue := (State.places_of_relay hp hi hr).2.2.2.2 k hk
  rw [hchan]
  cases k <;> exact hqueue

/-- R146 step 2. The message of the slot, returned SUSPENDED. -/
theorem State.slotCleared_of_suspended (hp : s.placesOk) (hi : s.itemsOk) (ha : (s.chan c).active = some h) :
    s.SlotCleared (((s.resetHere c).suspend h).suspendedNotice h .reset) c
    ∧ (((s.resetHere c).suspend h).suspendedNotice h .reset).desc h = { s.desc h with state := .suspended }
    ∧ ((((s.resetHere c).suspend h).suspendedNotice h .reset).chan c).queue (s.desc h).cls
      = h :: (s.chan c).queue (s.desc h).cls
    ∧ (((s.resetHere c).suspend h).suspendedNotice h .reset).outbox = s.outbox ++ [suspendedRecord s c h 2] := by
  obtain ⟨hc, _, hsent, hqueues⟩ := State.places_of_active hp ha
  obtain ⟨v, hv⟩ : ∃ v, v = ((s.resetHere c).suspend h).suspendedNotice h .reset := ⟨_, rfl⟩
  have hhere : (s.resetHere c).chan c = { s.chan c with
      state := .offline, faultReason := none, item := .noItem, idleSince := none, urgentRun := 0, lastFit := none } := by
    rw [State.resetHere, State.chan_setChan, if_pos rfl]
  have hkept (k : MsgClass) : (((s.resetHere c).chan c).detach h).queue k = (s.chan c).queue k := by
    rw [Channel.queue_detach, hhere, ← filter_ne_of_not_mem (hqueues k)]
    cases k <;> rfl
  have hchan : v.chan c = (((s.resetHere c).chan c).detach h).setQueue (s.desc h).cls (h :: (s.chan c).queue (s.desc h).cls) := by
    rw [hv, ← hkept]
    show ((s.resetHere c).toHead h _).chan c = _
    rw [State.toHead_eq, State.chan_setChan]
    exact (if_pos hc.symm).trans (by rw [show ((s.resetHere c).desc h).channel = c from hc]; rfl)
  have hqueue (k : MsgClass) : (v.chan c).queue k
      = if k = (s.desc h).cls then h :: (s.chan c).queue (s.desc h).cls else (s.chan c).queue k := by
    rw [hchan, Channel.queue_setQueue, hkept]
  rw [← hv]
  refine ⟨⟨?_, ?_, fun g hr => ?_, fun g hr k hk => ?_⟩, ?_, ?_, ?_⟩
  · rw [hchan, Channel.active_setQueue]
    exact if_pos (by rw [hhere]; exact ha)
  · rw [hchan, Channel.sent_setQueue, hhere]
    exact filter_ne_of_not_mem hsent
  · have hne : g ≠ h := fun he => (State.places_of_relay hp hi hr).2.2.1 (he ▸ ha)
    rw [hv]
    exact State.desc_toHead_of_ne (s := s.resetHere c) (fun d => { d with state := .suspended }) hne
  · obtain ⟨_, hcls, hactive, _, hno⟩ := State.places_of_relay hp hi hr
    rw [hqueue]
    split
    · next he =>
      rw [List.mem_cons, ← he]
      rintro (rfl | hm)
      · exact hactive ha
      · exact hno k hk hm
    · exact hno k hk
  · rw [hv]
    exact State.desc_toHead (s := s.resetHere c) fun d => { d with state := .suspended }
  · rw [hqueue, if_pos rfl]
  · rw [hv, State.suspendedNotice_suspend]
    show _ ++ [_] = _
    rw [show ((s.resetHere c).desc h).channel = c from hc]
    rfl

/-- R146 step 2. The message of the slot, freed because its cancel was requested. -/
theorem State.slotCleared_of_freed (hp : s.placesOk) (hi : s.itemsOk) (ha : (s.chan c).active = some h)
    (hst : (s.desc h).state = .active) : s.SlotCleared ((s.resetHere c).freeCancelled h) c
    ∧ (((s.resetHere c).freeCancelled h).desc h).state = .free
    ∧ (s.loadUnit.current = none → ((s.resetHere c).freeCancelled h).outbox = s.outbox
      ++ [⟨.cancelled, some c, s.clock.ms, [.num 1 h.val, .num 2 (s.desc h).number, .num 3 (s.desc h).dest,
        .num 2 (s.desc h).resume, .num 2 (s.desc h).length]⟩]) := by
  obtain ⟨hc, _, hsent, hqueues⟩ := State.places_of_active hp ha
  have hnone := State.relayHandle_of_active hi ha hst
  have hchan : ((s.resetHere c).freeCancelled h).chan c = ((s.resetHere c).chan c).detach h := by
    have hchannels : ((s.resetHere c).freeCancelled h).channels = ((s.resetHere c).freeMessage h).channels :=
      State.channels_rejudgeGrant
    refine (congrArg (vget · c) hchannels).trans ?_
    show ((s.resetHere c).detach h).chan c = _
    rw [State.detach, State.chan_modChan]
    exact (if_pos hc.symm).trans (by rw [show ((s.resetHere c).desc h).channel = c from hc])
  have hhere : (s.resetHere c).chan c = { s.chan c with
      state := .offline, faultReason := none, item := .noItem, idleSince := none, urgentRun := 0, lastFit := none } := by
    rw [State.resetHere, State.chan_setChan, if_pos rfl]
  have hnorelay (g : Handle) : (s.chan c).item ≠ .relay g := fun hr => by
    rw [Item.relayHandle_eq_some.2 hr] at hnone
    cases hnone
  refine ⟨⟨?_, ?_, fun g hr => absurd hr (hnorelay g), fun g hr => absurd hr (hnorelay g)⟩, ?_, fun hl => ?_⟩
  · rw [hchan]
    exact if_pos (by rw [hhere]; exact ha)
  · rw [hchan, hhere]
    exact filter_ne_of_not_mem hsent
  · obtain ⟨bs, hbs⟩ := State.desc_rejudgeGrant (s := ((s.resetHere c).freeMessage h).emit .cancelled
      (some ((s.resetHere c).desc h).channel) ((s.resetHere c).messageFields h
        ++ [.num 2 ((s.resetHere c).desc h).resume, .num 2 ((s.resetHere c).desc h).length])) h
    rw [State.freeCancelled, State.freeWith, hbs]
    exact congrArg Descriptor.state (State.desc_freeMessage.trans (if_pos rfl))
  · rw [State.freeCancelled, State.freeWith, State.rejudgeGrant_of_none (by exact hl)]
    show _ ++ [_] = _
    rw [show ((s.resetHere c).desc h).channel = c from hc]
    rfl

/-- R146 steps 2 and 3. What a reset makes of the message of the slot and of a relay being keyed. -/
theorem State.resetMessages_eq (hp : s.placesOk) (hi : s.itemsOk) :
    (∀ h, (s.chan c).active = some h →
      ((s.desc h).state = .active → (s.desc h).cancelRequested = true →
        ((s.resetMessages (s.resetHere c) c).desc h).state = .free)
      ∧ (¬((s.desc h).state = .active ∧ (s.desc h).cancelRequested = true) →
        (s.resetMessages (s.resetHere c) c).desc h = { s.desc h with state := .suspended }
        ∧ ((s.resetMessages (s.resetHere c) c).chan c).queue (s.desc h).cls = h :: (s.chan c).queue (s.desc h).cls))
    ∧ (∀ h, (s.chan c).item = .relay h → (s.resetMessages (s.resetHere c) c).desc h
        = { s.desc h with state := .ready, resume := 0, ackDue := none }
      ∧ ((s.resetMessages (s.resetHere c) c).chan c).relayQ.head? = some h)
    ∧ ((s.resetMessages (s.resetHere c) c).chan c).active = none
    ∧ ((s.resetMessages (s.resetHere c) c).chan c).sent = (s.chan c).sent
    ∧ (s.loadUnit.current = none → (s.resetMessages (s.resetHere c) c).outbox = s.outbox
      ++ (s.chan c).active.toList.map fun h =>
        if (s.desc h).state = .active ∧ (s.desc h).cancelRequested = true then
          ⟨.cancelled, some c, s.clock.ms, [.num 1 h.val, .num 2 (s.desc h).number, .num 3 (s.desc h).dest,
            .num 2 (s.desc h).resume, .num 2 (s.desc h).length]⟩
        else suspendedRecord s c h 2) := by
  have houtbox (u : State) : (u.forSome (s.chan c).item.relayHandle State.requeueReady).outbox = u.outbox :=
    State.forSome_keeps (f := State.requeueReady) State.outbox (fun _ _ => rfl) _
  cases ha : (s.chan c).active with
  | none =>
    obtain ⟨hcancelled, hsuspended⟩ := State.inSlot_of_none ha
    have heq : s.resetMessages (s.resetHere c) c
        = (s.resetHere c).forSome (s.chan c).item.relayHandle State.requeueReady := by
      rw [State.resetMessages, hcancelled, hsuspended]
      rfl
    rw [heq, houtbox]
    obtain ⟨hactive, hsent, hrelay, _, _⟩ := (State.slotCleared_of_none hp hi ha).relay hp hi
    exact ⟨nofun, hrelay, hactive, hsent, fun _ => (List.append_nil _).symm⟩
  | some h =>
    obtain ⟨hc, hcls, hsent, _⟩ := State.places_of_active hp ha
    by_cases hf : (s.desc h).state = .active ∧ (s.desc h).cancelRequested = true
    · obtain ⟨hcancelled, hsuspended⟩ := (State.inSlot_of_some ha).1 hf
      obtain ⟨hcleared, hfree, hbox⟩ := State.slotCleared_of_freed hp hi ha hf.1
      have hnorelay := State.relayHandle_of_active hi ha hf.1
      have heq : s.resetMessages (s.resetHere c) c = (s.resetHere c).freeCancelled h := by
        rw [State.resetMessages, hcancelled, hsuspended, hnorelay]
        rfl
      rw [heq]
      refine ⟨fun g hg => ?_, fun g hg => ?_, hcleared.active, hcleared.sent, fun hl => ?_⟩
      · cases hg
        exact ⟨fun _ _ => hfree, fun hno => absurd hf hno⟩
      · rw [Item.relayHandle_eq_some.2 hg] at hnorelay
        cases hnorelay
      · rw [hbox hl, Option.toList_some, List.map_singleton, if_pos hf]
    · obtain ⟨hcancelled, hsuspended⟩ := (State.inSlot_of_some ha).2 hf
      obtain ⟨hcleared, hdesc, hqueue, hbox⟩ := State.slotCleared_of_suspended hp hi ha
      obtain ⟨hactive, hsent, hrelay, hother, hqueues⟩ := hcleared.relay hp hi
      have heq : s.resetMessages (s.resetHere c) c
          = (((s.resetHere c).suspend h).suspendedNotice h .reset).forSome (s.chan c).item.relayHandle State.requeueReady := by
        rw [State.resetMessages, hcancelled, hsuspended]
        rfl
      rw [heq, houtbox]
      refine ⟨fun g hg => ?_, hrelay, hactive, hsent, fun _ => ?_⟩
      · cases hg
        have hnot : (s.chan c).item ≠ .relay h := fun hr => (State.places_of_relay hp hi hr).2.2.1 ha
        exact ⟨fun hst hcancel => absurd ⟨hst, hcancel⟩ hf, fun _ => ⟨(hother h hnot).trans hdesc,
          (hqueues _ hcls).trans hqueue⟩⟩
      · rw [hbox, Option.toList_some, List.map_singleton, if_neg hf]

end

end Sys2Proof.Machine

namespace Sys2Proof.Proofs

open Sys2Proof.Machine

/-- Settles O47. -/
theorem channelsCloseAndReset : Obligations.ChannelsCloseAndReset := by
  unfold Obligations.ChannelsCloseAndReset
  intro s c ch x off suspendedNotice outcomes closed parked returned
  have hcloses (u : State) (hu : u = s ∨ u = s.drawn) : closed (u.reachOffline c) := by
    obtain ⟨hslots, ⟨st, hrest⟩, hparked⟩ := u.reachOffline_closed c
    have hquiet : s.Quiet (u.reachOffline c) := by
      rcases hu with rfl | rfl
      · exact u.reachOffline_quiet c
      · exact s.drawn_quiet.trans (s.drawn.reachOffline_quiet c)
    have hsame : u.chan c = ch ∧ u.slots = s.slots ∧ u.descs = s.descs := by
      rcases hu with rfl | rfl <;> exact ⟨rfl, rfl, rfl⟩
    obtain ⟨hchan, huslots, hdescs⟩ := hsame
    have hdesc (h : Handle) : u.desc h = s.desc h := congrArg (vget · h) hdescs
    rw [hchan] at hrest hparked
    simp only [hdesc] at hparked
    exact ⟨⟨congrArg Channel.state hrest, congrArg Channel.requests hrest, congrArg Channel.item hrest,
      congrArg Channel.faultReason hrest, congrArg Channel.idleSince hrest, congrArg Channel.parser hrest,
      hquiet.settings c, hquiet.reserve c, hquiet.cap c, hquiet.ready c, hquiet.cells, hquiet.watches, hquiet.clock⟩,
      hslots.trans huslots, (congrArg Channel.holds hrest :), (congrArg Channel.latch hrest :),
      (congrArg Channel.rx hrest :), (congrArg Channel.urgentRun hrest :), (congrArg Channel.lastFit hrest :), hparked⟩
  have hclosed : closed (s.reachOffline c) := hcloses s (.inl rfl)
  refine ⟨fun hs => ?_, fun hstate hdue hactive => ?_⟩
  · have hclose := onChannel_byteOf c fun c => .ok (s.closePort c, [.channel c, .num 1 ((s.closePort c).chan c).state.code])
    have hreset := onChannel_byteOf c fun c => .ok (s.resetPort c, s.resetFields c)
    have hport {t : State} (h : s.closePort c = t) : x = .next (t.accepted 0x21 [.num 1 c.val, .num 1 (t.chan c).state.code]).flush :=
      commandStep_accepted hs (hclose.trans (by rw [h]; rfl))
    refine ⟨fun hstate => ?_, fun hstate => ?_, fun hstate => ?_, fun hstate => ?_, ?_⟩
    · have hsame : s.closePort c = s := by simp only [State.closePort, show (s.chan c).state = .offline from hstate]
      refine (hport hsame).trans ?_
      rw [show (s.chan c).state = .offline from hstate]
      exact congrArg _ (State.flush_eq (s := s.accepted 0x21 [.num 1 c.val, .num 1 0]) hs.2.2.2)
    · have hsame : s.closePort c = s := by simp only [State.closePort, show (s.chan c).state = .closing from hstate]
      refine (hport hsame).trans ?_
      rw [show (s.chan c).state = .closing from hstate]
      exact congrArg _ (State.flush_eq (s := s.accepted 0x21 [.num 1 c.val, .num 1 4]) hs.2.2.2)
    · have hcut : s.closePort c = (s.setChan c { ch with state := .closing }).cutTelex c := by
        simp only [State.closePort, show (s.chan c).state = .onAir from hstate]
        rfl
      have hclosing : (((s.setChan c { ch with state := .closing }).cutTelex c).chan c).state = .closing := by
        rw [State.state_cutTelex, State.chan_setChan, if_pos rfl]
      obtain ⟨chs, hframe⟩ := (s.setChan c { ch with state := .closing }).cutTelex_frame c
      refine (hport hcut).trans ?_
      rw [hclosing]
      refine congrArg _ (State.flush_eq ?_)
      rw [hframe]
      exact hs.2.2.2
    · have hreach : s.closePort c = s.reachOffline c := by
        simp only [List.mem_cons, List.not_mem_nil, or_false] at hstate
        rcases hstate with h | h | h <;> simp only [State.closePort, show (s.chan c).state = _ from h]
      have hno : (s.chan c).state ≠ .closing := by
        intro h
        rw [show ch.state = .closing from h] at hstate
        simp at hstate
      refine ⟨s.reachOffline c, (hport hreach).trans ?_, hclosed, fun hlow => ?_⟩
      · rw [hclosed.1.1]
        rfl
      · obtain ⟨hbox, hover⟩ := State.outbox_reachOffline (s := s) (c := c) hlow
        refine ⟨fun hactive => (hbox hactive).trans ?_, hover⟩
        rw [if_neg hno, hs.2.2.2, List.append_nil]
        rfl
    · obtain ⟨ns, hport, hns⟩ := s.resetPort_eq c
      obtain ⟨hdescs, hchannels, hbox⟩ := State.resetReturns_messages (s := s) (c := c) (s.resetHere c)
      have hquiet := s.resetPort_quiet c
      have hrest : ((s.resetReturns (s.resetHere c) c).chan c).rest = { ch.rest with
          state := .offline, faultReason := none, item := .noItem, idleSince := none, urgentRun := 0, lastFit := none } := by
        rw [State.rest_resetReturns, State.resetHere, State.chan_setChan, if_pos rfl]
        rfl
      have hchan : (s.resetPort c).chan c = { (s.resetReturns (s.resetHere c) c).chan c with
          requests := [], parser := Parser.reset, holds := [], latch := none, rx := RxCounts.reset
          stats := Stats.reset } := by
        rw [hport, State.chan_setChan, if_pos rfl]
      have hclock := State.clock_resetReturns (s := s) (c := c) (s.resetHere c)
      refine ⟨s.resetPort c, commandStep_accepted hs hreset, ⟨?_, ?_, ?_, ?_, ?_, ?_, hquiet.settings c, hquiet.reserve c,
        hquiet.cap c, hquiet.ready c, hquiet.cells, hquiet.watches, hquiet.clock⟩, ?_, ?_, ?_, ?_, ?_, ?_, ?_, fun a => ?_,
        fun hp hi => ?_⟩
      · rw [hchan]
        exact (congrArg Channel.state hrest :)
      · rw [hchan]
      · rw [hchan]
        exact (congrArg Channel.item hrest :)
      · rw [hchan]
        exact (congrArg Channel.faultReason hrest :)
      · rw [hchan]
        exact (congrArg Channel.idleSince hrest :)
      · rw [hchan]
        rfl
      · rw [hport]
        exact State.slots_resetReturns (s := s) (c := c) (s.resetHere c)
      · rw [hchan]
        exact (congrArg Channel.urgentRun hrest :)
      · rw [hchan]
        exact (congrArg Channel.lastFit hrest :)
      · rw [hchan]
      · rw [hchan]
      · rw [hchan]
        rfl
      · rw [hchan]
        rfl
      · rw [hport]
        exact State.areas_resetReturns (s.resetHere c) a
      · have hdesc (h : Handle) : (s.resetPort c).desc h = (s.resetMessages (s.resetHere c) c).desc h := by
          rw [hport]
          exact congrArg (vget · h) hdescs
        have hplaces : (s.resetReturns (s.resetHere c) c).chan c = (s.resetMessages (s.resetHere c) c).chan c :=
          congrArg (vget · c) hchannels
        have hqueue (k : MsgClass) : ((s.resetPort c).chan c).queue k
            = ((s.resetMessages (s.resetHere c) c).chan c).queue k := by
          rw [hchan, ← hplaces]
          cases k <;> rfl
        obtain ⟨hslot, hrelay, hactive, hsent, hnotices⟩ := State.resetMessages_eq (s := s) (c := c) hp hi
        refine ⟨fun h ha => ⟨fun hst hcancel => ?_, fun hno => ?_⟩, fun h hr => ⟨?_, ?_⟩, ?_, ?_, fun hl => ?_⟩
        · rw [hdesc]
          exact (hslot h ha).1 hst hcancel
        · have hnot : ¬((s.desc h).state = .active ∧ (s.desc h).cancelRequested = true) := by
            rintro ⟨hst, hcancel⟩
            rcases hno with hno | hno
            · rw [hst] at hno
              cases hno
            · rw [hcancel] at hno
              cases hno
          obtain ⟨hsuspended, hhead⟩ := (hslot h ha).2 hnot
          exact ⟨(hdesc h).trans hsuspended, (hqueue _).trans hhead⟩
        · exact (hdesc h).trans (hrelay h hr).1
        · exact (congrArg List.head? (hqueue .relay)).trans (hrelay h hr).2
        · rw [hchan]
          exact (congrArg Channel.active hplaces).trans hactive
        · rw [hchan]
          exact (congrArg Channel.sent hplaces).trans hsent
        · rw [hport]
          show (s.resetReturns (s.resetHere c) c).outbox ++ ns = _
          rw [hbox, hnotices hl, hs.2.2.2, hns, show ((s.resetReturns (s.resetHere c) c).chan c).requests = ch.requests from
            (congrArg Channel.requests hrest :), hclock]
          rfl
  · have hnone : (s.takeOccurrences (s.dueSlotsNaming c)).unfinished c = none := by
      rw [hdue, State.takeOccurrences_nil]
      exact State.unfinished_eq_none fun h ha hst => by
        have hp := hactive h ha
        rw [show (s.desc h).state = .active from hst] at hp
        cases hp
    have hoff : s.decisionPoint c none = s.drawn.reachOffline c := by
      rw [State.decisionPoint, State.atDecision_of_finished hnone, hdue, State.takeOccurrences_nil, if_pos (by exact hstate)]
      refine State.judgeBoundary_of_no_requests ?_
      obtain ⟨_, ⟨st, hrest⟩, _⟩ := s.drawn.reachOffline_closed c
      exact (congrArg Channel.requests hrest :)
    rw [hoff]
    refine ⟨hcloses s.drawn (.inr rfl), fun hlow hchannel => ?_⟩
    refine ((State.outbox_reachOffline (s := s.drawn) (c := c) hlow).1 hchannel).trans ?_
    rw [if_pos (by exact hstate)]
    rfl

end Sys2Proof.Proofs
end

section
/-! What a decision point can do: one thing after another, each with what the Interleaver knows as it does it (sections 7.1
to 7.5, 8.3). A property of states that every such thing keeps is kept by a decision point and by the judging of key-up
causes. -/

namespace Sys2Proof.Machine

/-- No two requests of a channel are of one occurrence (R91). -/
def State.occurrencesDistinct (s : State) (c : ChannelNo) : Prop :=
  (s.chan c).requests.Pairwise fun p q => q.isFor p.slot p.due = false

/-- A candidate of cases 3 and 4: from a queue to an empty slot (`fresh`), or PARKED in the slot to a ship not held. -/
def State.candidate (s : State) (c : ChannelNo) (h : Handle) (fresh : Bool) : Prop :=
  if fresh then (s.chan c).active = none ∧ s.chooseNew c = some h
  else s.parkedMessage c = some h ∧ (s.chan c).isHeld (s.desc h).dest = false

/-- `P g` is kept by what a decision point of `c` does before it has chosen, `g` being what it has still to settle, and its
choices turn it into `Q`. Where `D` holds, the occurrences of a pending list are distinct. -/
structure State.Deciding (c : ChannelNo) (D : Prop) (cut : Option Closes) (P : Option Closes → State → Prop)
    (Q : State → Prop) : Prop where
  distinct : D → ∀ {g s}, P g s → s.occurrencesDistinct c
  distinctAfter : D → ∀ {s}, Q s → s.occurrencesDistinct c
  drawn : ∀ {g s}, P g s → P g s.drawn
  take : ∀ {g s i}, P g s → s.slotDue i = true → P g (s.takeOccurrence i)
  unfinished : ∀ {g s h}, P g s → s.unfinished c = some h → P (some (.message h)) s
  finished : ∀ {g s}, P g s → s.unfinished c = none → P cut s
  record : ∀ {g s} f, P g s → P g (s.recordFit c f)
  ends : ∀ {s q} o l, P none s → q.state = .waiting → (D → q ∈ (s.chan c).requests) → P none (s.endRequest c q o l false)
  endsAfter : ∀ {s q} o l, Q s → q.state = .waiting → (D → q ∈ (s.chan c).requests) → Q (s.endRequest c q o l false)
  returned : ∀ {s h}, P none s → s.parkedMessage c = some h → P none ((s.suspend h).suspendedNotice h .hold)
  marker : ∀ {s w} p, P (some w) s → Q (s.beginMarker c w p)
  segment : ∀ {s h e}, P (some (.message h)) s → (s.chan c).isHeld (s.desc h).dest = false →
    (s.fitTest c h s.now false (s.chan c).lineCase).planned = some e →
    Q ((s.recordFit c (s.fitTest c h s.now false (s.chan c).lineCase)).beginItem c (.segment h (s.desc h).resume e none))
  telex : ∀ {s h e fresh}, P none s → s.candidate c h fresh →
    (s.fitTest c h s.now (s.desc h).resuming (s.chan c).lineCase).planned = some e →
    Q ((s.recordFit c (s.fitTest c h s.now (s.desc h).resuming (s.chan c).lineCase)).startTelex c h e fresh)
  relay : ∀ {s h hs}, P none s → (s.chan c).relayQ = h :: hs → Q (s.startRelay c h)
  bulletin : ∀ {s q}, P none s → q.state = .waiting → (D → q ∈ (s.chan c).requests) → (s.area q.area).state = .ready →
    Q (s.startBulletin c q)
  idle : ∀ {s}, P none s → Q (s.beginIdle c)
  unkey : ∀ {s}, P none s → Q (s.unkey c)
  offline : ∀ {s}, P none s → Q (s.reachOffline c)

section
variable {c : ChannelNo} {D : Prop} {cut : Option Closes} {P : Option Closes → State → Prop} {Q : State → Prop} {s : State}
  {g : Option Closes}

/-- Ending some requests leaves the requests of other occurrences. -/
theorem State.mem_requests_endRequest {p q : Request} (o : BulletinOutcome) (l : Option Nat)
    (hp : p ∈ (s.chan c).requests) (hne : p.isFor q.slot q.due = false) :
    p ∈ ((s.endRequest c q o l false).chan c).requests := by
  rw [State.endRequest_eq, State.chan_setChan, if_pos rfl]
  refine List.mem_filter.2 ⟨hp, decide_eq_true fun he => ?_⟩
  rw [Request.isFor_iff.2 he] at hne
  cases hne

theorem State.Deciding.endAll {R : State → Prop} (hends : ∀ {s q} o l, R s → q.state = .waiting →
      (D → q ∈ (s.chan c).requests) → R (s.endRequest c q o l false)) (qs : List Request) (hR : R s)
    (hwaiting : ∀ q ∈ qs, q.state = .waiting)
    (hqs : D → (∀ q ∈ qs, q ∈ (s.chan c).requests) ∧ qs.Pairwise fun p q => q.isFor p.slot p.due = false) :
    R (s.endAllBroken c false qs) := by
  induction qs generalizing s with
  | nil => exact hR
  | cons q qs ih =>
    have hfirst : R (s.endBroken c q false) := hends _ _ hR (hwaiting q (List.mem_cons_self ..)) fun hD =>
      (hqs hD).1 q (List.mem_cons_self ..)
    refine ih hfirst (fun p hp => hwaiting p (List.mem_cons_of_mem _ hp)) fun hD => ?_
    obtain ⟨hmem, hpair⟩ := hqs hD
    obtain ⟨hne, hpair⟩ := List.pairwise_cons.1 hpair
    exact ⟨fun p hp => State.mem_requests_endRequest _ _ (hmem p (List.mem_cons_of_mem _ hp)) (hne p hp), hpair⟩

theorem State.Deciding.judgeBoundary (h : State.Deciding c D cut P Q) (hQ : Q s) : Q (s.judgeBoundary c) := by
  unfold State.judgeBoundary
  split
  · refine State.Deciding.endAll h.endsAfter _ hQ (fun q hq => ?_) fun hD => ⟨fun q hq => (List.mem_filter.1 hq).1,
      (h.distinctAfter hD hQ).filter _⟩
    have hwaits := (List.mem_filter.1 hq).2
    simp only [Bool.and_eq_true, decide_eq_true_iff] at hwaits
    exact hwaits.1
  · exact hQ

theorem State.Deciding.idleOrUnkey (h : State.Deciding c D cut P Q) (hP : P none s) : Q (s.idleOrUnkey c) := by
  unfold State.idleOrUnkey
  split
  · exact h.unkey hP
  · exact h.idle hP

theorem State.Deciding.tryTelex (h : State.Deciding c D cut P Q) {m : Handle} {fresh : Bool} (hP : P none s)
    (hm : s.candidate c m fresh) : Q (s.tryTelex c m fresh) := by
  cases hp : (s.fitTest c m s.now (s.desc m).resuming (s.chan c).lineCase).planned with
  | none =>
    rw [State.tryTelex_of_none hp]
    exact h.idleOrUnkey (h.record _ hP)
  | some e =>
    rw [State.tryTelex_of_planned hp]
    exact h.telex hP hm hp

theorem State.Deciding.selectNew (h : State.Deciding c D cut P Q) (hP : P none s) : Q (s.selectNew c) := by
  unfold State.selectNew
  split
  · exact h.idleOrUnkey hP
  · next hactive =>
    split
    · next m hm =>
      exact h.tryTelex hP ((if_pos rfl).mpr ⟨by simpa using hactive, hm⟩)
    · exact h.idleOrUnkey hP

theorem State.Deciding.selectTelex (h : State.Deciding c D cut P Q) (hP : P none s) : Q (s.selectTelex c) := by
  cases hp : s.parkedMessage c with
  | none =>
    rw [State.selectTelex_of_none hp]
    exact h.selectNew hP
  | some m =>
    rw [State.selectTelex_of_parked hp]
    split
    · exact h.selectNew (h.returned hP hp)
    · next hheld => exact h.tryTelex hP ((if_neg Bool.false_ne_true).mpr ⟨hp, by simpa using hheld⟩)

theorem State.Deciding.startDue (h : State.Deciding c D cut P Q) (qs : List Request) (hP : P none s)
    (hqs : D → (∀ q ∈ qs, q ∈ (s.chan c).requests) ∧ qs.Pairwise fun p q => q.isFor p.slot p.due = false) :
    Q (s.startDue c qs) := by
  induction qs generalizing s with
  | nil => exact h.selectTelex hP
  | cons q qs ih =>
    have hnext (hD : D) : q ∈ (s.chan c).requests := (hqs hD).1 q (List.mem_cons_self ..)
    have hrest (hD : D) : (∀ p ∈ qs, p ∈ (s.chan c).requests) ∧ qs.Pairwise fun p q => q.isFor p.slot p.due = false :=
      ⟨fun p hp => (hqs hD).1 p (List.mem_cons_of_mem _ hp), (List.pairwise_cons.1 (hqs hD).2).2⟩
    have hended (o : BulletinOutcome) (l : Option Nat) (hq : q.state = .waiting) :
        Q ((s.endRequest c q o l false).startDue c qs) :=
      ih (h.ends o l hP hq hnext) fun hD => ⟨fun p hp => State.mem_requests_endRequest o l ((hrest hD).1 p hp)
        ((List.pairwise_cons.1 (hqs hD).2).1 p hp), (hrest hD).2⟩
    unfold State.startDue
    split
    · next hdue =>
      split
      · exact hended _ _ hdue.1
      · split
        · next hready => exact h.bulletin hP hdue.1 hnext hready
        · exact hended _ _ hdue.1
    · exact ih hP hrest

theorem State.Deciding.select (h : State.Deciding c D cut P Q) (hP : P none s) : Q (s.select c) := by
  cases hr : (s.chan c).relayQ with
  | nil =>
    rw [State.select_of_no_relay hr]
    exact h.startDue _ hP fun hD => ⟨fun _ hq => hq, h.distinct hD hP⟩
  | cons m ms =>
    rw [State.select_of_relay hr]
    exact h.relay hP hr

theorem State.Deciding.settle (h : State.Deciding c D cut P Q) {m : Handle} (hP : P (some (.message m)) s) :
    Q (s.settle c m) := by
  unfold State.settle
  dsimp only
  split_ifs with hcancel hclosing hheld hrelay hbulletin
  · exact h.marker _ hP
  · exact h.marker _ hP
  · exact h.marker _ hP
  · exact h.marker _ hP
  · exact h.marker _ hP
  · split
    · next e hp => exact h.segment hP (by simpa using hheld) hp
    · exact h.marker _ (h.record _ hP)

theorem State.slotDue_takeOccurrence {i j : SlotNo} (hne : j ≠ i) : (s.takeOccurrence i).slotDue j = s.slotDue j := by
  have hclock : (s.takeOccurrence i).clock = s.clock := (s.takeOccurrence_quiet i).clock
  have hslot : (s.takeOccurrence i).slot j = s.slot j := by
    cases hn : (s.slot i).nextDue with
    | none => simp only [State.takeOccurrence, hn]
    | some due =>
      rw [State.takeOccurrence_eq hn]
      have hslots (cs : List ChannelNo) : (cs.foldl (fun s c => s.placeRequest i due c) s).slots = s.slots :=
        List.foldlRecOn (motive := fun t => t.slots = s.slots) cs _ rfl
          fun (t : State) ht c _ => (t.slots_placeRequest due c).trans ht
      exact (vget_vput ..).trans ((if_neg hne).trans (congrArg (vget · j) (hslots _)))
  unfold State.slotDue State.now
  rw [hslot, hclock]

theorem State.Deciding.takeOccurrences {R : State → Prop} (hdrawn : ∀ {s}, R s → R s.drawn)
    (htake : ∀ {s i}, R s → s.slotDue i = true → R (s.takeOccurrence i)) (is : List SlotNo) (hnodup : is.Nodup)
    (hdue : ∀ i ∈ is, s.slotDue i = true) (hR : R s) : R (s.takeOccurrences is) := by
  have hfold (js : List SlotNo) (hjs : js.Nodup) (t : State) (hdue : ∀ j ∈ js, t.slotDue j = true) (ht : R t) :
      R (js.foldl State.takeOccurrence t) := by
    induction js generalizing t with
    | nil => exact ht
    | cons j js ih =>
      obtain ⟨hj, hjs⟩ := List.nodup_cons.1 hjs
      refine ih hjs _ (fun k hk => ?_) (htake ht (hdue j (List.mem_cons_self ..)))
      have hkj : k ≠ j := fun he => hj (he ▸ hk)
      rw [State.slotDue_takeOccurrence hkj]
      exact hdue k (List.mem_cons_of_mem _ hk)
  exact hfold _ ((freeOrder_perm ..).nodup_iff.2 hnodup) _ (fun j hj => hdue j (mem_freeOrder.1 hj)) (hdrawn hR)

theorem State.nodup_dueSlots (s : State) : s.dueSlots.Nodup := (List.nodup_finRange 64).filter _

theorem State.mem_dueSlots {i : SlotNo} : i ∈ s.dueSlots ↔ s.slotDue i = true := by
  simp [State.dueSlots]

theorem State.Deciding.atDecision (h : State.Deciding c D cut P Q) (hP : P g s) : Q (s.atDecision c cut) := by
  have htaken : P g (s.takeOccurrences (s.dueSlotsNaming c)) :=
    State.Deciding.takeOccurrences (R := P g) h.drawn h.take _ (s.nodup_dueSlots.filter _)
      (fun i hi => State.mem_dueSlots.1 (List.mem_filter.1 hi).1) hP
  cases hu : (s.takeOccurrences (s.dueSlotsNaming c)).unfinished c with
  | some m =>
    rw [State.atDecision_of_unfinished cut hu]
    exact h.settle (h.unfinished htaken hu)
  | none =>
    have hfinished := h.finished htaken hu
    cases hcut : cut with
    | some w =>
      rw [State.atDecision_of_cut hu]
      exact h.marker _ (hcut ▸ hfinished)
    | none =>
      rw [State.atDecision_of_finished hu]
      split
      · exact h.offline (hcut ▸ hfinished)
      · exact h.select (hcut ▸ hfinished)

theorem State.Deciding.decisionPoint (h : State.Deciding c D cut P Q) (hP : P g s) : Q (s.decisionPoint c cut) :=
  h.judgeBoundary (h.atDecision hP)

/-- A property kept by every key-up is kept by the judging of the key-up causes. -/
theorem State.judgeWithin_induction {R : State → Prop}
    (hkeyUp : ∀ {s c}, R s → (s.chan c).state = .standby → R (s.keyUp c)) (n : Nat) (cs : List ChannelNo) (hR : R s) :
    R (State.judgeWithin n cs s) := by
  induction n generalizing s cs with
  | zero => exact hR
  | succ n ih =>
    cases cs with
    | nil => exact hR
    | cons c cs =>
      rw [State.judgeWithin_cons]
      split
      · next hcause => exact ih _ (hkeyUp hR hcause.1)
      · exact ih _ hR

/-- A key-up from what its decision point keeps. -/
theorem State.Deciding.keyUp {c : ChannelNo} {Q R : State → Prop} {P : Option Closes → State → Prop}
    (h : State.Deciding c D none P Q)
    (hkeyed : P g ((s.modChan c fun ch => { ch with state := .keyUp, keyRise := s.clock.elapsed }).keyed c))
    (hemit : ∀ {t} e ch fs, Q t → R (t.emit e ch fs))
    (hwaits : R (s.modChan c fun ch => { ch with state := .keyUp, keyRise := s.clock.elapsed })) : R (s.keyUp c) := by
  unfold State.keyUp
  dsimp only
  split
  · exact hemit _ _ _ (h.decisionPoint hkeyed)
  · exact hwaits

end

/-! ### What decisions leave of a state -/

/-- The occurrences of an entry from its next-due on that station time has reached. -/
def Slot.reached (e : Slot) (now n : Nat) : Prop :=
  e.state = .enabled ∧ ∃ first m, e.nextDue = some first ∧ n = first + m * e.periodMs ∧ n ≤ now

/-- What decision points leave of a state, `A` being the channels that may decide. An entry's next-due moves on by whole
periods; on any other channel a request is only added, for an occurrence that station time has reached; a message that is
in no list of a channel stays as it is. -/
structure State.Steady (A : ChannelNo → Prop) (s t : State) : Prop where
  clock : t.clock = s.clock
  slot : ∀ i, ∃ m, t.slot i = { s.slot i with nextDue := (s.slot i).nextDue.map (· + m * (s.slot i).periodMs) }
    ∧ (s.slotDue i = false → m = 0)
  watch : ∀ c, (t.chan c).rx = (s.chan c).rx ∧ (t.chan c).latch = (s.chan c).latch ∧ (t.chan c).holds = (s.chan c).holds
    ∧ (t.chan c).settings = (s.chan c).settings
  state : ∀ c, ¬A c → (t.chan c).state = (s.chan c).state
  grows : ∀ c, ¬A c → ∀ q ∈ (s.chan c).requests, q ∈ (t.chan c).requests
  placed : ∀ c, ∀ q ∈ (t.chan c).requests, q.state = .waiting → q ∈ (s.chan c).requests
    ∨ ∃ i n, (s.slot i).reached s.now n ∧ inSet (s.slot i).channels c = true
      ∧ q = ⟨i, (s.slot i).area, n, n + (s.slot i).window + (s.chan c).settings.period, .waiting, 0, none⟩
  untouched : ∀ c, ¬A c → (∀ i n, inSet (s.slot i).channels c = true → (s.slot i).reached s.now n →
    ∃ q ∈ (s.chan c).requests, q.isFor i n = true) → (t.chan c).requests = (s.chan c).requests
  absent : ∀ h, (∀ c, (∀ k, h ∉ (s.chan c).queue k) ∧ (s.chan c).active ≠ some h) → t.desc h = s.desc h
    ∧ ∀ c, (∀ k, h ∉ (t.chan c).queue k) ∧ (t.chan c).active ≠ some h

section
variable {A : ChannelNo → Prop} {s t u : State}

theorem Slot.reached_moved {e : Slot} {m now n : Nat}
    (h : ({ e with nextDue := e.nextDue.map (· + m * e.periodMs) } : Slot).reached now n) : e.reached now n := by
  obtain ⟨hstate, first, k, hfirst, hn, hle⟩ := h
  simp only [Option.map_eq_some_iff] at hfirst
  obtain ⟨f, hf, rfl⟩ := hfirst
  refine ⟨hstate, f, m + k, hf, ?_, hle⟩
  rw [hn, Nat.add_mul, Nat.add_assoc]
  rfl

theorem State.Steady.refl (A : ChannelNo → Prop) (s : State) : s.Steady A s := by
  refine ⟨rfl, fun i => ⟨0, ?_, fun _ => rfl⟩, fun _ => ⟨rfl, rfl, rfl, rfl⟩, fun _ _ => rfl, fun _ _ _ => id,
    fun _ _ h _ => .inl h, fun _ _ _ => rfl, fun _ h => ⟨rfl, h⟩⟩
  simp

theorem State.Steady.trans (h : s.Steady A t) (g : t.Steady A u) : s.Steady A u := by
  have hnow : t.now = s.now := by rw [State.now, h.clock, State.now]
  have hslot (i : SlotNo) : (t.slot i).state = (s.slot i).state ∧ (t.slot i).channels = (s.slot i).channels
      ∧ (t.slot i).area = (s.slot i).area ∧ (t.slot i).window = (s.slot i).window
      ∧ ∀ n, (t.slot i).reached t.now n → (s.slot i).reached s.now n := by
    obtain ⟨m, hm, _⟩ := h.slot i
    rw [hm, hnow]
    exact ⟨rfl, rfl, rfl, rfl, fun n hn => Slot.reached_moved hn⟩
  refine ⟨g.clock.trans h.clock, fun i => ?_, fun c => ?_, fun c hc => (g.state c hc).trans (h.state c hc),
    fun c hc q hq => g.grows c hc q (h.grows c hc q hq), fun c q hq hwaits => ?_, fun c hc hpresent => ?_, fun m hm => ?_⟩
  · obtain ⟨m, hm, hzero⟩ := h.slot i
    obtain ⟨k, hk, hzero'⟩ := g.slot i
    refine ⟨m + k, ?_, fun hdue => ?_⟩
    · rw [hk, hm]
      show ({ s.slot i with nextDue := _ } : Slot) = _
      cases (s.slot i).nextDue with
      | none => rfl
      | some n =>
        simp only [Option.map_some, Nat.add_mul, Nat.add_assoc]
        rfl
    · have hsame : t.slot i = s.slot i := by
        rw [hm, hzero hdue]
        simp
      rw [hzero hdue, hzero' (by rw [State.slotDue, hsame, hnow]; exact hdue)]
  · obtain ⟨h1, h2, h3, h4⟩ := h.watch c
    obtain ⟨g1, g2, g3, g4⟩ := g.watch c
    exact ⟨g1.trans h1, g2.trans h2, g3.trans h3, g4.trans h4⟩
  · rcases g.placed c q hq hwaits with hold | ⟨i, n, hn, hin, heq⟩
    · exact h.placed c q hold hwaits
    · obtain ⟨_, hchannels, harea, hwindow, hreached⟩ := hslot i
      refine .inr ⟨i, n, hreached n hn, hchannels ▸ hin, ?_⟩
      rw [heq, harea, hwindow, (h.watch c).2.2.2]
  · have hfirst := h.untouched c hc hpresent
    refine (g.untouched c hc fun i n hin hn => ?_).trans hfirst
    obtain ⟨_, hchannels, _, _, hreached⟩ := hslot i
    rw [hfirst]
    exact hpresent i n (hchannels ▸ hin) (hreached n hn)
  · obtain ⟨hdesc, habsent⟩ := h.absent m hm
    obtain ⟨hdesc', habsent'⟩ := g.absent m habsent
    exact ⟨hdesc'.trans hdesc, habsent'⟩

/-- A step of a decision that leaves the clock, the entries and the requests alone. -/
theorem State.Steady.of_messages (hclock : t.clock = s.clock) (hslots : t.slots = s.slots)
    (hwatch : ∀ c, (t.chan c).rx = (s.chan c).rx ∧ (t.chan c).latch = (s.chan c).latch ∧ (t.chan c).holds = (s.chan c).holds
      ∧ (t.chan c).settings = (s.chan c).settings)
    (hstate : ∀ c, ¬A c → (t.chan c).state = (s.chan c).state) (hrequests : ∀ c, (t.chan c).requests = (s.chan c).requests)
    (habsent : ∀ h, (∀ c, (∀ k, h ∉ (s.chan c).queue k) ∧ (s.chan c).active ≠ some h) → t.desc h = s.desc h
      ∧ ∀ c, (∀ k, h ∉ (t.chan c).queue k) ∧ (t.chan c).active ≠ some h) : s.Steady A t := by
  have hslot (i : SlotNo) : t.slot i = s.slot i := congrArg (vget · i) hslots
  refine ⟨hclock, fun i => ⟨0, ?_, fun _ => rfl⟩, hwatch, hstate, fun c _ q hq => by rwa [hrequests],
    fun c q hq _ => .inl (by rwa [← hrequests]), fun c _ _ => hrequests c, habsent⟩
  rw [hslot]
  simp

/-- A message is in some list of a channel. -/
def Channel.lists (ch : Channel) (h : Handle) : Prop := (∃ k, h ∈ ch.queue k) ∨ ch.active = some h

/-- A change of a deciding channel that brings no message into its lists. -/
theorem State.Steady.setChan {c : ChannelNo} {x : Channel} (hc : A c)
    (hwatch : x.rx = (s.chan c).rx ∧ x.latch = (s.chan c).latch ∧ x.holds = (s.chan c).holds
      ∧ x.settings = (s.chan c).settings := by exact ⟨rfl, rfl, rfl, rfl⟩)
    (hrequests : ∀ q ∈ x.requests, q.state = .waiting → q ∈ (s.chan c).requests := by exact fun _ hq _ => hq)
    (hlists : ∀ h, x.lists h → (s.chan c).lists h := by exact fun _ hh => hh) : s.Steady A (s.setChan c x) := by
  refine ⟨rfl, fun i => ⟨0, ?_, fun _ => rfl⟩, fun d => ?_, fun d hd => ?_, fun d hd q hq => ?_, fun d q hq hwaits => ?_,
    fun d hd _ => ?_, fun h hh => ⟨rfl, fun d => ?_⟩⟩
  · simp
  · rw [State.chan_setChan]
    split
    · next he => exact he ▸ hwatch
    · exact ⟨rfl, rfl, rfl, rfl⟩
  · rw [State.chan_setChan, if_neg fun he : d = c => hd (he ▸ hc)]
  · rw [State.chan_setChan, if_neg fun he : d = c => hd (he ▸ hc)]
    exact hq
  · rw [State.chan_setChan] at hq
    split at hq
    · next he => exact .inl (he ▸ hrequests q hq hwaits)
    · exact .inl hq
  · rw [State.chan_setChan, if_neg fun he : d = c => hd (he ▸ hc)]
  · rw [State.chan_setChan]
    split
    · have hno : ¬x.lists h := fun hx => (hlists h hx).elim (fun ⟨k, hk⟩ => (hh c).1 k hk) (hh c).2
      exact ⟨fun k hk => hno (.inl ⟨k, hk⟩), fun ha => hno (.inr ha)⟩
    · exact hh d

theorem State.Steady.setDesc {c : ChannelNo} {h : Handle} (d : Descriptor) (hh : (s.chan c).lists h) :
    s.Steady A (s.setDesc h d) := by
  refine .of_messages rfl rfl (fun _ => ⟨rfl, rfl, rfl, rfl⟩) (fun _ _ => rfl) (fun _ => rfl) fun g hg => ⟨?_, hg⟩
  have hne : g ≠ h := by
    rintro rfl
    exact hh.elim (fun ⟨k, hk⟩ => (hg c).1 k hk) (hg c).2
  exact (State.desc_setDesc ..).trans (if_neg hne)

theorem State.Steady.outbox (o : List Notice) : s.Steady A { s with outbox := o } :=
  .of_messages rfl rfl (fun _ => ⟨rfl, rfl, rfl, rfl⟩) (fun _ _ => rfl) (fun _ => rfl) fun _ h => ⟨rfl, h⟩

theorem State.Steady.emit (e : Event) (ch : Option ChannelNo) (fs : List Field) : s.Steady A (s.emit e ch fs) := .outbox _

theorem State.Steady.setArea (a : AreaNo) (x : Area) : s.Steady A (s.setArea a x) :=
  .of_messages rfl rfl (fun _ => ⟨rfl, rfl, rfl, rfl⟩) (fun _ _ => rfl) (fun _ => rfl) fun _ h => ⟨rfl, h⟩

theorem State.Steady.drawn : s.Steady A s.drawn :=
  .of_messages rfl rfl (fun _ => ⟨rfl, rfl, rfl, rfl⟩) (fun _ _ => rfl) (fun _ => rfl) fun _ h => ⟨rfl, h⟩

theorem Channel.lists_of_setQueue {ch : Channel} {k : MsgClass} {g h : Handle}
    (hh : ((ch.detach g).setQueue k (g :: (ch.detach g).queue k)).lists h) : h = g ∨ ch.lists h := by
  rcases hh with ⟨j, hj⟩ | ha
  · rw [Channel.queue_setQueue, Channel.queue_detach, Channel.queue_detach] at hj
    split at hj
    · next he =>
      rcases List.mem_cons.1 hj with hg | hq
      · exact .inl hg
      · exact .inr (.inl ⟨k, (List.mem_filter.1 hq).1⟩)
    · exact .inr (.inl ⟨j, (List.mem_filter.1 hj).1⟩)
  · rw [Channel.active_setQueue] at ha
    have hactive : (if ch.active = some g then none else ch.active) = some h := ha
    split at hactive
    · cases hactive
    · exact .inr (.inr hactive)

theorem State.Steady.suspend {c : ChannelNo} {h : Handle} (hh : (s.chan c).lists h) : s.Steady A (s.suspend h) := by
  have hrest (d : ChannelNo) : ((s.suspend h).chan d).rest = (s.chan d).rest := State.rest_toHead _
  refine .of_messages rfl rfl (fun d => ?_) (fun d _ => (congrArg Channel.state (hrest d) :))
    (fun d => (congrArg Channel.requests (hrest d) :)) fun g hg => ?_
  · exact ⟨(congrArg Channel.rx (hrest d) :), (congrArg Channel.latch (hrest d) :), (congrArg Channel.holds (hrest d) :),
      (congrArg Channel.settings (hrest d) :)⟩
  · have hne : g ≠ h := by
      rintro rfl
      exact hh.elim (fun ⟨k, hk⟩ => (hg c).1 k hk) (hg c).2
    refine ⟨State.desc_toHead_of_ne _ hne, fun d => ?_⟩
    have hlists : ¬((s.suspend h).chan d).lists g := by
      rw [State.suspend, State.toHead_eq, State.chan_setChan]
      split
      · exact fun hx => (Channel.lists_of_setQueue hx).elim hne fun hx =>
          hx.elim (fun ⟨k, hk⟩ => (hg _).1 k hk) (hg _).2
      · exact fun hx => hx.elim (fun ⟨k, hk⟩ => (hg d).1 k hk) (hg d).2
    exact ⟨fun k hk => hlists (.inl ⟨k, hk⟩), fun ha => hlists (.inr ha)⟩

theorem State.Steady.stats {c : ChannelNo} (st : Stats) : s.Steady A (s.setChan c { s.chan c with stats := st }) := by
  have hchan (d : ChannelNo) : ∃ st', (s.setChan c { s.chan c with stats := st }).chan d = { s.chan d with stats := st' } := by
    rw [State.chan_setChan]
    split
    · next he =>
      subst he
      exact ⟨_, rfl⟩
    · exact ⟨(s.chan d).stats, rfl⟩
  refine .of_messages rfl rfl (fun d => ?_) (fun d _ => ?_) (fun d => ?_) fun g hg => ⟨rfl, fun d => ?_⟩
  · obtain ⟨st', h⟩ := hchan d
    rw [h]
    exact ⟨rfl, rfl, rfl, rfl⟩
  · obtain ⟨st', h⟩ := hchan d
    rw [h]
  · obtain ⟨st', h⟩ := hchan d
    rw [h]
  · obtain ⟨st', h⟩ := hchan d
    rw [h]
    refine ⟨fun k => ?_, (hg d).2⟩
    cases k
    · exact (hg d).1 .relay
    · exact (hg d).1 .urgent
    · exact (hg d).1 .ordinary

theorem State.Steady.recordOutcome {c : ChannelNo} (q : Request) (o : BulletinOutcome) (l : Option Nat) :
    s.Steady A (s.recordOutcome c q o l false) := by
  rw [State.recordOutcome_eq]
  exact (State.Steady.outbox _).trans (State.Steady.stats (s := { s with outbox := _ }) _)

theorem mem_insertRequest {p q : Request} {qs : List Request} : p ∈ insertRequest q qs ↔ p = q ∨ p ∈ qs :=
  (insertRequest_perm q qs).mem_iff.trans List.mem_cons

/-- R89, R90. The request of an occurrence on one channel. -/
theorem State.Steady.placeRequest {i : SlotNo} {n : Nat} {c : ChannelNo} (hn : (s.slot i).reached s.now n)
    (hin : inSet (s.slot i).channels c = true) : s.Steady A (s.placeRequest i n c) := by
  unfold State.placeRequest
  dsimp only
  split_ifs with hoff hpresent hfull
  · exact .recordOutcome ..
  · exact .refl A s
  · exact .recordOutcome ..
  · have hchan (d : ChannelNo) : (s.setChan c { s.chan c with
        requests := insertRequest (s.newRequest i n c) (s.chan c).requests }).chan d = { s.chan d with
          requests := if d = c then insertRequest (s.newRequest i n c) (s.chan d).requests else (s.chan d).requests } := by
      rw [State.chan_setChan]
      split
      · next he => rw [he]
      · rfl
    refine ⟨rfl, fun j => ⟨0, ?_, fun _ => rfl⟩, fun d => ?_, fun d _ => ?_, fun d _ q hq => ?_, fun d q hq hwaits => ?_,
      fun d _ hall => ?_, fun h hh => ⟨rfl, fun d => ?_⟩⟩
    · simp
    · rw [hchan]
      exact ⟨rfl, rfl, rfl, rfl⟩
    · rw [hchan]
    · rw [hchan]
      dsimp only
      split
      · exact mem_insertRequest.2 (.inr hq)
      · exact hq
    · rw [hchan] at hq
      dsimp only at hq
      split at hq
      · next he =>
        rcases mem_insertRequest.1 hq with hnew | hold
        · exact .inr ⟨i, n, hn, he ▸ hin, by rw [hnew, he]; rfl⟩
        · exact .inl hold
      · exact .inl hq
    · rw [hchan]
      dsimp only
      refine if_neg fun he => hpresent ?_
      obtain ⟨q, hq, hfor⟩ := hall i n (he ▸ hin) hn
      exact List.any_eq_true.2 ⟨q, he ▸ hq, hfor⟩
    · rw [hchan]
      refine ⟨fun k => ?_, (hh d).2⟩
      cases k
      · exact (hh d).1 .relay
      · exact (hh d).1 .urgent
      · exact (hh d).1 .ordinary

theorem State.slotDue_reached {i : SlotNo} (hdue : s.slotDue i = true) :
    ∃ n, (s.slot i).nextDue = some n ∧ (s.slot i).reached s.now n := by
  obtain ⟨n, hn, hen, hle⟩ := State.slotDue_iff.1 hdue
  exact ⟨n, hn, hen, n, 0, hn, by simp, hle⟩

theorem State.Steady.takeOccurrence {i : SlotNo} (hdue : s.slotDue i = true) : s.Steady A (s.takeOccurrence i) := by
  obtain ⟨n, hn, hreached⟩ := State.slotDue_reached hdue
  rw [State.takeOccurrence_eq hn]
  have hfold (cs : List ChannelNo) (hcs : ∀ c ∈ cs, inSet (s.slot i).channels c = true) (t : State)
      (ht : s.Steady A t ∧ t.slots = s.slots) : s.Steady A (cs.foldl (fun s c => s.placeRequest i n c) t)
        ∧ (cs.foldl (fun s c => s.placeRequest i n c) t).slots = s.slots := by
    induction cs generalizing t with
    | nil => exact ht
    | cons c cs ih =>
      have hslot : t.slot i = s.slot i := congrArg (vget · i) ht.2
      have hnow : t.now = s.now := by rw [State.now, ht.1.clock, State.now]
      refine ih (fun d hd => hcs d (List.mem_cons_of_mem _ hd)) _ ⟨ht.1.trans (.placeRequest ?_ ?_),
        (t.slots_placeRequest n c).trans ht.2⟩
      · rw [hslot, hnow]
        exact hreached
      · rw [hslot]
        exact hcs c (List.mem_cons_self ..)
  obtain ⟨hplaced, hslots⟩ := hfold (channelsOf (s.slot i).channels) (fun c hc => (List.mem_filter.1 hc).2) s
    ⟨.refl A s, rfl⟩
  obtain ⟨u, hu⟩ : ∃ u, u = (channelsOf (s.slot i).channels).foldl (fun s c => s.placeRequest i n c) s := ⟨_, rfl⟩
  rw [← hu] at hplaced hslots ⊢
  refine hplaced.trans ?_
  have hslot (j : SlotNo) : u.slot j = s.slot j := congrArg (vget · j) hslots
  have hnow : u.now = s.now := by rw [State.now, hplaced.clock, State.now]
  refine ⟨rfl, fun j => ?_, fun _ => ⟨rfl, rfl, rfl, rfl⟩, fun _ _ => rfl, fun _ _ _ => id, fun _ _ h _ => .inl h,
    fun _ _ _ => rfl, fun _ h => ⟨rfl, h⟩⟩
  by_cases hj : j = i
  · subst hj
    refine ⟨1, (vget_vput ..).trans ((if_pos rfl).trans ?_), fun hno => ?_⟩
    · rw [hslot, hn, Option.map_some, Nat.one_mul]
    · rw [State.slotDue, hslot, hnow] at hno
      exact Bool.noConfusion (hdue.symm.trans hno)
  · refine ⟨0, (vget_vput ..).trans ((if_neg hj).trans ?_), fun _ => rfl⟩
    show u.slot j = _
    simp

/-! ### Decisions are steady -/

theorem State.lists_of_parked {c : ChannelNo} {h : Handle} (hp : s.parkedMessage c = some h) : (s.chan c).lists h :=
  .inr (State.parkedMessage_eq_some_iff.1 hp).1

theorem State.lists_of_candidate {c : ChannelNo} {h : Handle} {fresh : Bool} (hc : s.candidate c h fresh) :
    (s.chan c).lists h := by
  cases fresh with
  | true =>
    have hnew : s.chooseNew c = some h := hc.2
    have hqueue {q : List Handle} (hq : s.oldestEligible c q = some h) : h ∈ q := List.mem_of_find?_eq_some hq
    rcases State.chooseNew_eq_some_iff.1 hnew with h | h | h
    · exact .inl ⟨.urgent, hqueue h.2⟩
    · exact .inl ⟨.ordinary, hqueue h.2⟩
    · exact .inl ⟨.urgent, hqueue h.2.2⟩
  | false => exact State.lists_of_parked hc.1

theorem State.lists_of_taker {c : ChannelNo} {g h : Handle} {fresh : Bool} (hc : s.candidate c h fresh)
    (hg : (s.taker c h fresh).lists g) : (s.chan c).lists g := by
  cases fresh with
  | true =>
    rcases hg with ⟨k, hk⟩ | ha
    · refine .inl ⟨k, ?_⟩
      have hk : g ∈ ((s.chan c).detach h).queue k := by
        cases k <;> exact hk
      rw [Channel.queue_detach] at hk
      exact (List.mem_filter.1 hk).1
    · cases ha
      exact State.lists_of_candidate hc
  | false => exact hg

theorem State.Steady.endRequest {c : ChannelNo} (hc : A c) (q : Request) (o : BulletinOutcome) (l : Option Nat) :
    s.Steady A (s.endRequest c q o l false) := by
  rw [State.endRequest_eq]
  exact (State.Steady.outbox _).trans
    (State.Steady.setChan (s := { s with outbox := _ }) hc (hrequests := fun _ hq _ => (List.mem_filter.1 hq).1))

theorem Channel.lists_congr {x ch : Channel} {h : Handle} (hr : x.relayQ = ch.relayQ) (hu : x.urgentQ = ch.urgentQ)
    (ho : x.ordinaryQ = ch.ordinaryQ) (ha : x.active = ch.active) (hx : x.lists h) : ch.lists h := by
  rcases hx with ⟨k, hk⟩ | hx
  · refine .inl ⟨k, ?_⟩
    cases k
    · exact (congrArg (h ∈ ·) hr).mp hk
    · exact (congrArg (h ∈ ·) hu).mp hk
    · exact (congrArg (h ∈ ·) ho).mp hk
  · exact .inr (ha ▸ hx)

theorem State.Steady.startTelex {c : ChannelNo} (hc : A c) {h : Handle} {f : FitRecord} {e : Nat} {fresh : Bool}
    (hh : s.candidate c h fresh) : s.Steady A ((s.recordFit c f).startTelex c h e fresh) := by
  have hkeeps : (s.taker c h fresh).rx = (s.chan c).rx ∧ (s.taker c h fresh).latch = (s.chan c).latch
      ∧ (s.taker c h fresh).holds = (s.chan c).holds ∧ (s.taker c h fresh).settings = (s.chan c).settings
      ∧ (s.taker c h fresh).requests = (s.chan c).requests := by
    cases fresh <;> exact ⟨rfl, rfl, rfl, rfl, rfl⟩
  obtain ⟨h1, h2, h3, h4, h5⟩ := hkeeps
  have hlists := State.lists_of_candidate hh
  have hrequests : ∀ q ∈ (s.taker c h fresh).requests, q ∈ (s.chan c).requests := fun q hq => h5 ▸ hq
  have htaker (x : Channel) (hx : x.relayQ = (s.taker c h fresh).relayQ ∧ x.urgentQ = (s.taker c h fresh).urgentQ
      ∧ x.ordinaryQ = (s.taker c h fresh).ordinaryQ ∧ x.active = (s.taker c h fresh).active) (g : Handle) (hg : x.lists g) :
      (s.chan c).lists g :=
    State.lists_of_taker hh (Channel.lists_congr hx.1 hx.2.1 hx.2.2.1 hx.2.2.2 hg)
  by_cases hres : (s.desc h).resuming = true
  · rw [State.startTelex_of_resuming hres]
    exact ((State.Steady.setDesc { s.desc h with state := .active } hlists).trans (State.Steady.outbox _)).trans
      (State.Steady.setChan hc ⟨h1, h2, h3, h4⟩ (fun q hq _ => hrequests q hq) fun g hg =>
        htaker _ ⟨rfl, rfl, rfl, rfl⟩ g hg)
  · rw [State.startTelex_of_new hres]
    exact (State.Steady.setDesc { s.desc h with state := .active } hlists).trans
      (State.Steady.setChan hc ⟨h1, h2, h3, h4⟩ (fun q hq _ => hrequests q hq) fun g hg =>
        htaker _ ⟨rfl, rfl, rfl, rfl⟩ g hg)

theorem State.Steady.startRelay {c : ChannelNo} (hc : A c) {h : Handle} {hs : List Handle} (hq : (s.chan c).relayQ = h :: hs) :
    s.Steady A (s.startRelay c h) := by
  have hlists : (s.chan c).lists h := .inl ⟨.relay, (congrArg (h ∈ ·) hq).mpr (List.mem_cons_self ..)⟩
  exact (State.Steady.setDesc { s.desc h with state := .active, resume := 0 } hlists).trans
    (State.Steady.setChan hc (hlists := fun g hg => Channel.lists_congr rfl rfl rfl rfl hg))

theorem State.Steady.modChan {c : ChannelNo} (hc : A c) {f : Channel → Channel}
    (hwatch : (f (s.chan c)).rx = (s.chan c).rx ∧ (f (s.chan c)).latch = (s.chan c).latch
      ∧ (f (s.chan c)).holds = (s.chan c).holds ∧ (f (s.chan c)).settings = (s.chan c).settings := by
        exact ⟨rfl, rfl, rfl, rfl⟩)
    (hrequests : (f (s.chan c)).requests = (s.chan c).requests := by rfl)
    (hqueues : (f (s.chan c)).relayQ = (s.chan c).relayQ ∧ (f (s.chan c)).urgentQ = (s.chan c).urgentQ
      ∧ (f (s.chan c)).ordinaryQ = (s.chan c).ordinaryQ ∧ (f (s.chan c)).active = (s.chan c).active := by
        exact ⟨rfl, rfl, rfl, rfl⟩) : s.Steady A (s.modChan c f) :=
  State.Steady.setChan hc hwatch (fun _ hq _ => hrequests ▸ hq) fun _ hg =>
    Channel.lists_congr hqueues.1 hqueues.2.1 hqueues.2.2.1 hqueues.2.2.2 hg

theorem State.Steady.beginItem {c : ChannelNo} (hc : A c) (it : Item) : s.Steady A (s.beginItem c it) :=
  .modChan hc (f := fun ch => { ch with item := it, idleSince := none })

theorem State.Steady.startBulletin {c : ChannelNo} (hc : A c) (q : Request) : s.Steady A (s.startBulletin c q) := by
  have hrequest : s.Steady A (s.modRequest c q.slot q.due fun q =>
      { q with state := .onAir, firstStart := some (q.firstStart.getD s.now) }) :=
    State.Steady.setChan hc (hlists := fun g hg => Channel.lists_congr rfl rfl rfl rfl hg)
      (hrequests := fun p hp hwaits => by
        obtain ⟨r, hr, rfl⟩ := List.mem_map.1 hp
        split at hwaits
        · cases hwaits
        · next hno =>
          rw [if_neg hno]
          exact hr)
  exact (hrequest.trans (State.Steady.setArea _ _)).trans (State.Steady.beginItem hc _)

theorem State.Steady.closeParked {c : ChannelNo} : s.Steady A (s.closeParked c) := by
  cases hp : s.parkedMessage c with
  | none =>
    rw [State.closeParked_of_none hp]
    exact .refl A s
  | some h =>
    rw [State.closeParked_of_some hp]
    exact (State.Steady.suspend (State.lists_of_parked hp)).trans (.outbox _)

theorem State.Steady.reachOffline {c : ChannelNo} (hc : A c) : s.Steady A (s.reachOffline c) := by
  obtain ⟨ns, st, heq, _⟩ := s.reachOffline_eq c
  rw [heq]
  refine ((State.Steady.modChan hc (f := fun ch =>
    { ch with state := .offline, item := .noItem, idleSince := none, faultReason := none })).trans
    (State.Steady.closeParked (c := c))).trans ((State.Steady.outbox _).trans
      (State.Steady.setChan hc (hrequests := fun q hq _ => nomatch hq)
        (hlists := fun g hg => Channel.lists_congr rfl rfl rfl rfl hg)))

theorem State.Steady.deciding {c : ChannelNo} (hc : A c) (cut : Option Closes) (s : State) :
    State.Deciding c False cut (fun _ t => s.Steady A t) (fun t => s.Steady A t) where
  distinct := nofun
  distinctAfter := nofun
  drawn h := h.trans .drawn
  take h hdue := h.trans (.takeOccurrence hdue)
  unfinished h _ := h
  finished h _ := h
  record _ h := h.trans (.modChan hc)
  ends _ _ h _ _ := h.trans (.endRequest hc ..)
  endsAfter _ _ h _ _ := h.trans (.endRequest hc ..)
  returned h hp := (h.trans (.suspend (State.lists_of_parked hp))).trans (.outbox _)
  marker _ h := h.trans (.beginItem hc _)
  segment h _ _ := (h.trans (.modChan hc)).trans (.beginItem hc _)
  telex h hm _ := h.trans (.startTelex hc hm)
  relay h hq := h.trans (.startRelay hc hq)
  bulletin h _ _ _ := h.trans (.startBulletin hc _)
  idle h := h.trans (.modChan hc)
  unkey h := (h.trans (.modChan hc)).trans (.outbox _)
  offline h := h.trans (.reachOffline hc)

theorem State.decisionPoint_steady {c : ChannelNo} (hc : A c) (cut : Option Closes) : s.Steady A (s.decisionPoint c cut) :=
  (State.Steady.deciding hc cut s).decisionPoint (g := none) (.refl A s)

theorem State.keyUp_steady {c : ChannelNo} (hc : A c) : s.Steady A (s.keyUp c) :=
  (State.Steady.deciding hc none s).keyUp (g := none) ((State.Steady.modChan hc).trans (.modChan hc))
    (fun _ _ _ h => h.trans (.outbox _)) (.modChan hc)

/-- The judging of key-up causes is steady, and decides for channels that were STANDBY alone. -/
theorem State.judgeKeyUp_steady (s : State) (cs : List ChannelNo) :
    s.Steady (fun c => (s.chan c).state = .standby) (s.judgeKeyUp cs) := by
  refine State.judgeWithin_induction (R := fun t => s.Steady (fun c => (s.chan c).state = .standby) t) (fun {t c} ht hst => ?_)
    _ _ (.refl _ s)
  by_cases hc : (s.chan c).state = .standby
  · exact ht.trans (State.keyUp_steady hc)
  · exact absurd ((ht.state c hc).symm.trans hst) hc

end

end Sys2Proof.Machine
end

section
/-! SET-CLOCK, with the occurrences, deadlines and expiries that the new time reaches (sections 1.2, 5.6, 6.4 and 6.7). -/

namespace Sys2Proof.Machine

section
variable {s t : State} {c : ChannelNo} {h g : Handle} {i j : SlotNo}

/-! ### The clock and the entries -/

/-- The state of the new clock, its end judged and its next-dues recomputed (R5, R3, R101). -/
def State.clockSet (s : State) (day ms : Nat) : State := (s.setTime day ms).stopAtEnd.recomputeAll

theorem State.applyClock_eq (s : State) (day ms : Nat) : s.applyClock day ms
    = ((allChannels.foldl State.endPassed (s.clockSet day ms).expireAll).takeOccurrences
      (allChannels.foldl State.endPassed (s.clockSet day ms).expireAll).dueSlots).judgeKeyUp allChannels := rfl

theorem State.clock_clockSet (s : State) (day ms : Nat) : (s.clockSet day ms).clock
    = ⟨day, ms, true, !(decide (day = 65535) && decide (ms = 86399999)), s.clock.elapsed⟩ := by
  show (s.setTime day ms).stopAtEnd.clock = _
  unfold State.stopAtEnd
  have hcond : ((s.setTime day ms).clock.running && (s.setTime day ms).clock.atEnd)
      = (decide (day = 65535) && decide (ms = 86399999)) := Bool.true_and _
  rw [hcond]
  cases decide (day = 65535) && decide (ms = 86399999) <;> rfl

theorem State.clockSet_frame (s : State) (day ms : Nat) : (s.clockSet day ms).descs = s.descs
    ∧ (s.clockSet day ms).channels = s.channels := by
  have hstop (t : State) : t.stopAtEnd.descs = t.descs ∧ t.stopAtEnd.channels = t.channels := by
    unfold State.stopAtEnd
    split <;> exact ⟨rfl, rfl⟩
  exact hstop (s.setTime day ms)

theorem State.slot_clockSet (s : State) (day ms : Nat) (i : SlotNo) : (s.clockSet day ms).slot i
    = if (s.slot i).state = .enabled then
        { s.slot i with nextDue := some ((s.slot i).earliest (s.clockSet day ms).now) } else s.slot i := by
  have hslots : (s.setTime day ms).stopAtEnd.slots = s.slots := by
    unfold State.stopAtEnd
    split <;> rfl
  have hslot : (s.setTime day ms).stopAtEnd.slot i = s.slot i := congrArg (vget · i) hslots
  have hmap : (s.clockSet day ms).slot i = if ((s.setTime day ms).stopAtEnd.slot i).state = .enabled then
      (s.setTime day ms).stopAtEnd.recomputed ((s.setTime day ms).stopAtEnd.slot i)
      else (s.setTime day ms).stopAtEnd.slot i := Vector.getElem_map ..
  rw [hmap, hslot]
  split
  · next hen =>
    unfold State.recomputed
    rw [if_pos hen]
    rfl
  · rfl

/-! ### Expiries -/

theorem State.chan_expire : (s.expire g).chan c
    = if c = (s.desc g).channel then (s.chan c).detach g else s.chan c := by
  have hchannels : (s.expire g).channels = (s.freeMessage g).channels := State.channels_rejudgeGrant
  refine (congrArg (vget · c) hchannels).trans ?_
  show (s.detach g).chan c = _
  rw [State.detach, State.chan_modChan]
  split
  · next hc => rw [hc]
  · rfl

theorem State.desc_expire : ∃ bs, (s.expire g).desc h = { if h = g then Descriptor.reset else s.desc h with chain := bs } := by
  obtain ⟨bs, hbs⟩ := State.desc_rejudgeGrant (s := (s.freeMessage g).emit .expired (some (s.desc g).channel)
    (s.messageFields g ++ [.time ((s.desc g).expiry.getD 0)])) h
  exact ⟨bs, hbs.trans (congrArg (fun d : Descriptor => { d with chain := bs }) State.desc_freeMessage)⟩

theorem State.rest_expire : ((s.expire g).chan c).rest = (s.chan c).rest := by
  rw [State.chan_expire]
  split <;> rfl

/-- A message that is FREE and in no list of a channel. -/
def State.gone (s : State) (h : Handle) : Prop :=
  (s.desc h).state = .free ∧ ∀ c, (∀ k, h ∉ (s.chan c).queue k) ∧ (s.chan c).active ≠ some h

/-- A message that is in no list but the queues of its own channel. -/
def State.queuedAtHome (s : State) (h : Handle) : Prop :=
  (∀ c, c ≠ (s.desc h).channel → ∀ k, h ∉ (s.chan c).queue k) ∧ ∀ c, (s.chan c).active ≠ some h

theorem Channel.active_detach {ch : Channel} (hno : ch.active ≠ some h) : (ch.detach g).active ≠ some h := by
  show (if ch.active = some g then none else ch.active) ≠ some h
  split
  · nofun
  · exact hno

theorem Channel.not_mem_queue_detach {ch : Channel} {k : MsgClass} (hno : h ∉ ch.queue k) : h ∉ (ch.detach g).queue k := by
  rw [Channel.queue_detach]
  exact fun hm => hno (List.mem_filter.1 hm).1

theorem State.gone_expire_self (hq : s.queuedAtHome h) : (s.expire h).gone h := by
  obtain ⟨bs, hbs⟩ := s.desc_expire (g := h) (h := h)
  refine ⟨by rw [hbs, if_pos rfl]; rfl, fun c => ?_⟩
  rw [State.chan_expire]
  split
  · refine ⟨fun k => ?_, Channel.active_detach (hq.2 c)⟩
    rw [Channel.queue_detach]
    simp
  · next hc => exact ⟨hq.1 c hc, hq.2 c⟩

theorem State.gone_expire (hg : s.gone h) : (s.expire g).gone h := by
  obtain ⟨bs, hbs⟩ := s.desc_expire (g := g) (h := h)
  refine ⟨?_, fun c => ?_⟩
  · rw [hbs]
    split
    · rfl
    · exact hg.1
  · rw [State.chan_expire]
    split
    · exact ⟨fun k => Channel.not_mem_queue_detach ((hg.2 c).1 k), Channel.active_detach (hg.2 c).2⟩
    · exact hg.2 c

theorem State.queuedAtHome_expire (hq : s.queuedAtHome h) (hne : h ≠ g) : (s.expire g).queuedAtHome h := by
  obtain ⟨bs, hbs⟩ := s.desc_expire (g := g) (h := h)
  have hchannel : ((s.expire g).desc h).channel = (s.desc h).channel := by
    rw [hbs, if_neg hne]
  refine ⟨fun c hc k => ?_, fun c => ?_⟩
  · rw [State.chan_expire]
    have hno := hq.1 c (hchannel ▸ hc) k
    split
    · exact Channel.not_mem_queue_detach hno
    · exact hno
  · rw [State.chan_expire]
    split
    · exact Channel.active_detach (hq.2 c)
    · exact hq.2 c

/-- R75. Every message that has expired is freed. -/
theorem State.gone_expireAll (hq : s.queuedAtHome h) (he : s.expired h = true) : s.expireAll.gone h := by
  have hfold (gs : List Handle) (t : State) (ht : t.gone h ∨ h ∈ gs ∧ t.queuedAtHome h) : (gs.foldl State.expire t).gone h := by
    induction gs generalizing t with
    | nil => exact ht.resolve_right fun hm => nomatch hm.1
    | cons g gs ih =>
      refine ih _ ?_
      rcases ht with hgone | ⟨hm, hqueued⟩
      · exact .inl (State.gone_expire hgone)
      · by_cases hg : h = g
        · exact .inl (hg ▸ State.gone_expire_self (hg ▸ hqueued))
        · exact .inr ⟨(List.mem_cons.1 hm).resolve_left hg, State.queuedAtHome_expire hqueued hg⟩
  exact hfold _ _ (.inr ⟨mem_freeOrder.2 (by simpa using he), hq⟩)

theorem State.expireAll_frame (s : State) : s.expireAll.slots = s.slots ∧ s.expireAll.clock = s.clock
    ∧ ∀ c, (s.expireAll.chan c).rest = (s.chan c).rest := by
  have hfold (gs : List Handle) (t : State) : (gs.foldl State.expire t).slots = t.slots
      ∧ ∀ c, ((gs.foldl State.expire t).chan c).rest = (t.chan c).rest := by
    induction gs generalizing t with
    | nil => exact ⟨rfl, fun _ => rfl⟩
    | cons g gs ih =>
      obtain ⟨hslots, hrest⟩ := ih (t.expire g)
      have hslots' : (t.expire g).slots = t.slots := State.slots_rejudgeGrant
      exact ⟨hslots.trans hslots', fun c => (hrest c).trans State.rest_expire⟩
  obtain ⟨hslots, hrest⟩ := hfold (freeOrder s.choices ((List.finRange 256).filter s.expired)) s.drawn
  exact ⟨hslots, s.expireAll_quiet.clock, hrest⟩

/-! ### Deadlines -/

/-- R93. What the judgement of deadlines leaves of a pending list. -/
def State.unpassed (s : State) (c : ChannelNo) : List Request :=
  (s.chan c).requests.filter fun p => ((s.chan c).requests.filter (s.deadlinePassed c)).all fun q => !p.isFor q.slot q.due

theorem State.endPassed_eq (s : State) (c : ChannelNo) : ∃ ns st, s.endPassed c
    = State.setChan { s with outbox := s.outbox ++ ns } c { s.chan c with requests := s.unpassed c, stats := st } := by
  obtain ⟨ns, st, heq, _⟩ := s.endAllBroken_eq (c := c) false ((s.chan c).requests.filter (s.deadlinePassed c))
  exact ⟨ns, st, heq⟩

/-- R93, R102. The deadlines of all channels, each judged on its own. -/
theorem State.endPassed_all (s : State) : (allChannels.foldl State.endPassed s).slots = s.slots
    ∧ (allChannels.foldl State.endPassed s).clock = s.clock ∧ (allChannels.foldl State.endPassed s).descs = s.descs
    ∧ ∀ c, ∃ st, (allChannels.foldl State.endPassed s).chan c = { s.chan c with requests := s.unpassed c, stats := st } := by
  have hfold (cs : List ChannelNo) (hcs : cs.Nodup) (t : State) (hclock : t.clock = s.clock)
      (hcs' : ∀ c ∈ cs, t.chan c = s.chan c) : (cs.foldl State.endPassed t).slots = t.slots
      ∧ (cs.foldl State.endPassed t).clock = s.clock ∧ (cs.foldl State.endPassed t).descs = t.descs
      ∧ ∀ c, (c ∉ cs → (cs.foldl State.endPassed t).chan c = t.chan c)
        ∧ (c ∈ cs → ∃ st, (cs.foldl State.endPassed t).chan c = { s.chan c with requests := s.unpassed c, stats := st }) := by
    induction cs generalizing t with
    | nil => exact ⟨rfl, hclock, rfl, fun c => ⟨fun _ => rfl, nofun⟩⟩
    | cons d cs ih =>
      obtain ⟨hd, hcs⟩ := List.nodup_cons.1 hcs
      obtain ⟨ns, st, heq⟩ := t.endPassed_eq d
      have hunpassed : t.unpassed d = s.unpassed d := by
        have hsame := hcs' d (List.mem_cons_self ..)
        have hpassed : t.deadlinePassed d = s.deadlinePassed d := by
          funext q
          rw [State.deadlinePassed, hsame, State.now, hclock]
          rfl
        rw [State.unpassed, hsame, hpassed]
        rfl
      have hchan (c : ChannelNo) : (t.endPassed d).chan c
          = if c = d then { t.chan d with requests := s.unpassed d, stats := st } else t.chan c := by
        rw [heq, State.chan_setChan, hunpassed]
        rfl
      obtain ⟨hslots, hclock', hdescs, hchans⟩ := ih hcs (t.endPassed d) (by rw [heq]; exact hclock) fun c hc => by
        have hne : c ≠ d := fun he => hd (he ▸ hc)
        rw [hchan, if_neg hne]
        exact hcs' c (List.mem_cons_of_mem _ hc)
      refine ⟨hslots.trans (by rw [heq]; rfl), hclock', hdescs.trans (by rw [heq]; rfl), fun c => ⟨fun hc => ?_, fun hc => ?_⟩⟩
      · have hne : c ≠ d := fun he => hc (he ▸ List.mem_cons_self ..)
        refine ((hchans c).1 fun hm => hc (List.mem_cons_of_mem _ hm)).trans ?_
        rw [hchan, if_neg hne]
      · by_cases hcd : c = d
        · subst hcd
          refine ⟨st, ((hchans c).1 hd).trans ?_⟩
          rw [hchan, if_pos rfl, hcs' c hc]
        · exact (hchans c).2 ((List.mem_cons.1 hc).resolve_left hcd)
  obtain ⟨hslots, hclock, hdescs, hchans⟩ := hfold allChannels (List.nodup_finRange 8) s rfl fun _ _ => rfl
  exact ⟨hslots, hclock, hdescs, fun c => (hchans c).2 (List.mem_finRange c)⟩

/-! ### Occurrences -/

theorem State.slot_takeOccurrence (i j : SlotNo) : (s.takeOccurrence i).slot j
    = if j = i then { s.slot i with nextDue := (s.slot i).nextDue.map (· + (s.slot i).periodMs) } else s.slot j := by
  cases hn : (s.slot i).nextDue with
  | none =>
    have hsame : s.takeOccurrence i = s := by simp only [State.takeOccurrence, hn]
    rw [hsame]
    split
    · next hj =>
      subst hj
      rw [Option.map_none, ← hn]
    · rfl
  | some n =>
    rw [State.takeOccurrence_eq hn]
    have hslots (cs : List ChannelNo) : (cs.foldl (fun s c => s.placeRequest i n c) s).slots = s.slots :=
      List.foldlRecOn (motive := fun t => t.slots = s.slots) cs _ rfl
        fun (t : State) ht c _ => (t.slots_placeRequest n c).trans ht
    refine (vget_vput ..).trans ?_
    split
    · rfl
    · exact congrArg (vget · j) (hslots _)

theorem State.slot_takeOccurrences (is : List SlotNo) (his : is.Nodup) (j : SlotNo) : (s.takeOccurrences is).slot j
    = if j ∈ is then { s.slot j with nextDue := (s.slot j).nextDue.map (· + (s.slot j).periodMs) } else s.slot j := by
  have hfold (js : List SlotNo) (hjs : js.Nodup) (t : State) : (js.foldl State.takeOccurrence t).slot j
      = if j ∈ js then { t.slot j with nextDue := (t.slot j).nextDue.map (· + (t.slot j).periodMs) } else t.slot j := by
    induction js generalizing t with
    | nil => rfl
    | cons k js ih =>
      obtain ⟨hk, hjs⟩ := List.nodup_cons.1 hjs
      refine (ih hjs (t.takeOccurrence k)).trans ?_
      rw [State.slot_takeOccurrence]
      by_cases hjk : j = k
      · subst hjk
        simp [hk]
      · simp [hjk]
  refine (hfold _ ((freeOrder_perm ..).nodup_iff.2 his) _).trans ?_
  simp only [mem_freeOrder]
  rfl

theorem State.chan_placeRequest_of_ne {n : Nat} {d : ChannelNo} (hne : d ≠ c) :
    (s.placeRequest i n c).chan d = s.chan d := by
  unfold State.placeRequest
  dsimp only
  split_ifs
  · rw [State.recordOutcome_eq, State.chan_setChan, if_neg hne]
    rfl
  · rfl
  · rw [State.recordOutcome_eq, State.chan_setChan, if_neg hne]
    rfl
  · rw [State.chan_setChan, if_neg hne]

theorem State.requests_placeRequest {n : Nat} (hstate : (s.chan c).state ≠ .offline) (hr : (s.chan c).requests = []) :
    ((s.placeRequest i n c).chan c).requests = [s.newRequest i n c] := by
  unfold State.placeRequest
  dsimp only
  rw [if_neg hstate, if_neg (by simp [hr]), if_neg (by simp [hr, pendingPlaces]), State.chan_setChan, if_pos rfl, hr]
  rfl

theorem State.chan_takeOccurrence_of_not_in (hno : inSet (s.slot i).channels c = false) :
    (s.takeOccurrence i).chan c = s.chan c := by
  cases hn : (s.slot i).nextDue with
  | none => simp only [State.takeOccurrence, hn]
  | some n =>
    rw [State.takeOccurrence_eq hn]
    refine List.foldlRecOn (motive := fun t => t.chan c = s.chan c) (channelsOf (s.slot i).channels) _ rfl
      fun (t : State) ht d hd => (State.chan_placeRequest_of_ne fun he => ?_).trans ht
    rw [he] at hno
    exact absurd ((List.mem_filter.1 hd).2.symm.trans hno) (by decide)

/-- R90. The one request that an occurrence places on a channel without requests. -/
theorem State.requests_takeOccurrence {n : Nat} (hn : (s.slot i).nextDue = some n)
    (hin : inSet (s.slot i).channels c = true) (hstate : (s.chan c).state ≠ .offline) (hr : (s.chan c).requests = []) :
    ((s.takeOccurrence i).chan c).requests = [s.newRequest i n c] := by
  rw [State.takeOccurrence_eq hn]
  have hothers (cs : List ChannelNo) (hc : c ∉ cs) (t : State) :
      (cs.foldl (fun s c => s.placeRequest i n c) t).chan c = t.chan c
        ∧ (cs.foldl (fun s c => s.placeRequest i n c) t).slots = t.slots :=
    List.foldlRecOn (motive := fun u => u.chan c = t.chan c ∧ u.slots = t.slots) cs _ ⟨rfl, rfl⟩
      fun (u : State) hu d hd => ⟨(State.chan_placeRequest_of_ne fun he : c = d => hc (he ▸ hd)).trans hu.1,
        (u.slots_placeRequest n d).trans hu.2⟩
  have hmem : c ∈ channelsOf (s.slot i).channels := List.mem_filter.2 ⟨List.mem_finRange c, hin⟩
  have hnodup : (channelsOf (s.slot i).channels).Nodup := (List.nodup_finRange 8).filter _
  obtain ⟨ds, es, hsplit⟩ := List.append_of_mem hmem
  rw [hsplit] at hnodup ⊢
  obtain ⟨hds, hes⟩ : c ∉ ds ∧ c ∉ es := by
    have hno := (List.nodup_cons.1 (List.nodup_middle.1 hnodup)).1
    exact ⟨fun h => hno (List.mem_append_left _ h), fun h => hno (List.mem_append_right _ h)⟩
  rw [List.foldl_append, List.foldl_cons]
  obtain ⟨u, hu⟩ : ∃ u, u = ds.foldl (fun s c => s.placeRequest i n c) s := ⟨_, rfl⟩
  obtain ⟨hchan, hslots⟩ := hothers ds hds s
  rw [← hu] at hchan hslots ⊢
  refine (congrArg Channel.requests (hothers es hes (u.placeRequest i n c)).1).trans ?_
  rw [State.requests_placeRequest (hchan ▸ hstate) (hchan ▸ hr)]
  have hslot : u.slot i = s.slot i := congrArg (vget · i) hslots
  rw [State.newRequest, hslot, hchan]
  rfl

/-- R90. Where one of the occurrences taken names a channel without requests. -/
theorem State.requests_takeOccurrences {n : Nat} (is : List SlotNo) (his : is.Nodup) (hi : i ∈ is)
    (hn : (s.slot i).nextDue = some n) (hin : inSet (s.slot i).channels c = true)
    (honly : ∀ j ∈ is, j ≠ i → inSet (s.slot j).channels c = false) (hstate : (s.chan c).state ≠ .offline)
    (hr : (s.chan c).requests = []) : ((s.takeOccurrences is).chan c).requests
      = [⟨i, (s.slot i).area, n, n + (s.slot i).window + (s.chan c).settings.period, .waiting, 0, none⟩] := by
  have hothers (js : List SlotNo) (hjs : ∀ j ∈ js, j ≠ i ∧ inSet (s.slot j).channels c = false) (t : State)
      (ht : ∀ j, (t.slot j).channels = (s.slot j).channels) : (js.foldl State.takeOccurrence t).chan c = t.chan c
        ∧ (js.foldl State.takeOccurrence t).slot i = t.slot i
        ∧ ∀ j, ((js.foldl State.takeOccurrence t).slot j).channels = (s.slot j).channels := by
    refine List.foldlRecOn (motive := fun u => u.chan c = t.chan c ∧ u.slot i = t.slot i
      ∧ ∀ j, (u.slot j).channels = (s.slot j).channels) js _ ⟨rfl, rfl, ht⟩ fun (u : State) hu j hj => ?_
    obtain ⟨hchan, hslot, hchannels⟩ := hu
    obtain ⟨hne, hno⟩ := hjs j hj
    refine ⟨(State.chan_takeOccurrence_of_not_in (by rw [hchannels]; exact hno)).trans hchan, ?_, fun k => ?_⟩
    · rw [State.slot_takeOccurrence, if_neg (Ne.symm hne)]
      exact hslot
    · rw [State.slot_takeOccurrence]
      split
      · next hk => exact hk ▸ hchannels j
      · exact hchannels k
  have hnodup : (freeOrder s.choices is).Nodup := (freeOrder_perm ..).nodup_iff.2 his
  obtain ⟨js, ks, hsplit⟩ := List.append_of_mem (mem_freeOrder.2 hi : i ∈ freeOrder s.choices is)
  have hmiddle := (List.nodup_cons.1 (List.nodup_middle.1 (hsplit ▸ hnodup))).1
  have hother {j : SlotNo} (hj : j ∈ js ++ ks) : j ≠ i ∧ inSet (s.slot j).channels c = false := by
    have hne : j ≠ i := fun he => hmiddle (he ▸ hj)
    refine ⟨hne, honly j ((mem_freeOrder (draw := s.choices)).1 ?_) hne⟩
    rw [hsplit]
    rcases List.mem_append.1 hj with h | h
    · exact List.mem_append_left _ h
    · exact List.mem_append_right _ (List.mem_cons_of_mem _ h)
  obtain ⟨u, hu⟩ : ∃ u, u = js.foldl State.takeOccurrence s.drawn := ⟨_, rfl⟩
  obtain ⟨hchan, hslot, hchannels⟩ := hothers js (fun j hj => hother (List.mem_append_left _ hj)) s.drawn fun _ => rfl
  rw [← hu] at hchan hslot hchannels
  have hstep : s.takeOccurrences is = ks.foldl State.takeOccurrence (u.takeOccurrence i) := by
    rw [hu, State.takeOccurrences, hsplit, List.foldl_append, List.foldl_cons]
  rw [hstep]
  have hafter (j : SlotNo) : ((u.takeOccurrence i).slot j).channels = (s.slot j).channels := by
    rw [State.slot_takeOccurrence]
    split
    · next hj => exact hj ▸ hchannels i
    · exact hchannels j
  refine (congrArg Channel.requests (hothers ks (fun j hj => hother (List.mem_append_right _ hj)) _ hafter).1).trans ?_
  have hslot : u.slot i = s.slot i := hslot
  have hchan : u.chan c = s.chan c := hchan
  rw [State.requests_takeOccurrence (hslot ▸ hn) (hslot ▸ hin) (hchan ▸ hstate) (hchan ▸ hr), State.newRequest, hslot, hchan]

/-! ### A SET-CLOCK as a whole -/

theorem State.Steady.mono {A B : ChannelNo → Prop} (h : s.Steady A t) (hAB : ∀ c, A c → B c) : s.Steady B t :=
  ⟨h.clock, h.slot, h.watch, fun c hc => h.state c (mt (hAB c) hc), fun c hc => h.grows c (mt (hAB c) hc), h.placed,
    fun c hc => h.untouched c (mt (hAB c) hc), h.absent⟩

theorem State.Steady.slot_of_not_due {A : ChannelNo → Prop} (h : s.Steady A t) (hdue : s.slotDue i = false) :
    t.slot i = s.slot i := by
  obtain ⟨m, hm, hzero⟩ := h.slot i
  rw [hm, hzero hdue]
  simp

theorem State.Steady.now {A : ChannelNo → Prop} (h : s.Steady A t) : t.now = s.now := by
  rw [State.now, h.clock, State.now]

theorem State.dueSlots_steady (s : State) : s.Steady (fun _ => False) (s.takeOccurrences s.dueSlots) :=
  State.Deciding.takeOccurrences (R := fun t => s.Steady (fun _ => False) t) (fun h => h.trans .drawn)
    (fun h hdue => h.trans (.takeOccurrence hdue)) _ s.nodup_dueSlots (fun _ hi => State.mem_dueSlots.1 hi) (.refl _ s)

/-- The state in which the occurrences of the new time are taken. -/
def State.clockJudged (s : State) (day ms : Nat) : State :=
  allChannels.foldl State.endPassed (s.clockSet day ms).expireAll

theorem State.clockJudged_frame (s : State) (day ms : Nat) : (s.clockJudged day ms).clock
    = ⟨day, ms, true, !(decide (day = 65535) && decide (ms = 86399999)), s.clock.elapsed⟩
    ∧ (∀ i, (s.clockJudged day ms).slot i = if (s.slot i).state = .enabled then
        { s.slot i with nextDue := some ((s.slot i).earliest (day * 86400000 + ms)) } else s.slot i)
    ∧ ∀ c, ((s.clockJudged day ms).chan c).state = (s.chan c).state
      ∧ ((s.clockJudged day ms).chan c).settings = (s.chan c).settings
      ∧ ((s.clockJudged day ms).chan c).requests = (s.chan c).requests.filter fun p =>
        ((s.chan c).requests.filter fun q => decide ((s.chan c).state ∈ ([.standby, .keyUp, .faulted] : List ChanState)
          ∧ q.state = .waiting ∧ q.deadline ≤ day * 86400000 + ms)).all fun q => !p.isFor q.slot q.due := by
  obtain ⟨hslots, hclock, hrest⟩ := (s.clockSet day ms).expireAll_frame
  obtain ⟨hslots', hclock', _, hchans⟩ := (s.clockSet day ms).expireAll.endPassed_all
  obtain ⟨_, hchannels⟩ := s.clockSet_frame day ms
  have hnow : (s.clockSet day ms).expireAll.now = day * 86400000 + ms := by
    rw [State.now, hclock, State.clock_clockSet]
    rfl
  refine ⟨hclock'.trans (hclock.trans (s.clock_clockSet day ms)), fun i => ?_, fun c => ?_⟩
  · refine (congrArg (vget · i) (hslots'.trans hslots)).trans ((s.slot_clockSet day ms i).trans ?_)
    rw [State.now, State.clock_clockSet]
    rfl
  · obtain ⟨st, hchan⟩ := hchans c
    have hsame : (((s.clockSet day ms).expireAll).chan c).rest = (s.chan c).rest :=
      (hrest c).trans (congrArg (fun v => (vget v c).rest) hchannels)
    have hrequests : (((s.clockSet day ms).expireAll).chan c).requests = (s.chan c).requests := by
      have h := congrArg Channel.requests hsame
      exact h
    have hstate : (((s.clockSet day ms).expireAll).chan c).state = (s.chan c).state := by
      have h := congrArg Channel.state hsame
      exact h
    rw [State.clockJudged, hchan]
    refine ⟨hstate, (congrArg Channel.settings hsame :), ?_⟩
    have hpassed (q : Request) : (s.clockSet day ms).expireAll.deadlinePassed c q
        = decide ((s.chan c).state ∈ ([.standby, .keyUp, .faulted] : List ChanState)
          ∧ q.state = .waiting ∧ q.deadline ≤ day * 86400000 + ms) := by
      rw [Bool.eq_iff_iff, State.deadlinePassed_iff, decide_eq_true_iff, hnow, hstate]
    show State.unpassed _ c = _
    rw [State.unpassed, hrequests, funext hpassed]

/-- R75. A message that the new time has expired is gone when the deadlines are judged. -/
theorem State.gone_clockJudged {day ms x : Nat} (hp : s.placesOk) (hst : (s.desc h).state = .ready)
    (hk : (s.desc h).firstKeyed = none) (hx : (s.desc h).expiry = some x) (hpast : x < day * 86400000 + ms) :
    (s.clockJudged day ms).gone h := by
  obtain ⟨hdescs, hchannels⟩ := s.clockSet_frame day ms
  have hdesc : (s.clockSet day ms).desc h = s.desc h := congrArg (vget · h) hdescs
  have hchan (c : ChannelNo) : (s.clockSet day ms).chan c = s.chan c := congrArg (vget · c) hchannels
  have hnow : (s.clockSet day ms).now = day * 86400000 + ms := by
    rw [State.now, State.clock_clockSet]
    rfl
  obtain ⟨hqueue, hactive, _⟩ := hp
  have hhome : (s.clockSet day ms).queuedAtHome h := by
    refine ⟨fun c hc k hm => ?_, fun c ha => ?_⟩
    · rw [hchan] at hm
      exact hc (hdesc ▸ ((hqueue c k h).1 hm).1.symm)
    · rw [hchan] at ha
      rcases ((hactive c h).1 ha).2.2 with h | h <;> simp [hst] at h
  have hexpired : (s.clockSet day ms).expired h = true := by
    unfold State.expired
    rw [hdesc, hx, hnow]
    simp [hst, hk, hpast]
  obtain ⟨hfree, hlists⟩ := State.gone_expireAll hhome hexpired
  obtain ⟨_, _, hdescs', hchans⟩ := (s.clockSet day ms).expireAll.endPassed_all
  refine ⟨(congrArg (fun v => (vget v h).state) hdescs').trans hfree, fun c => ?_⟩
  obtain ⟨st, hc⟩ := hchans c
  rw [State.clockJudged, hc]
  refine ⟨fun k => ?_, (hlists c).2⟩
  cases k
  · exact (hlists c).1 .relay
  · exact (hlists c).1 .urgent
  · exact (hlists c).1 .ordinary

end

end Sys2Proof.Machine

namespace Sys2Proof.Proofs

open Sys2Proof.Machine

/-- Settles O19. -/
theorem setClockSetsTheClock : Obligations.SetClockSetsTheClock := by
  unfold Obligations.SetClockSetsTheClock
  intro s day ms hs hday hms now
  have hjudge : doSetClock (toBe 2 day ++ toBe 4 ms) s
      = if 86399999 < ms then .error .range else .ok (s.applyClock day ms, s.clock.fields) := by
    simp only [toBe_two, toBe_four, List.cons_append, List.nil_append, doSetClock, be_two (Nat.lt_succ_of_le hday), be_four hms]
  refine ⟨fun hlate => commandStep_refused hs (hjudge.trans (if_pos hlate)), fun hok => ?_⟩
  have haccepted := commandStep_accepted (kind := 0x05) hs (hjudge.trans (if_neg (Nat.not_lt_of_le hok)))
  obtain ⟨e, he⟩ : ∃ e, e = s.clockJudged day ms := ⟨_, rfl⟩
  obtain ⟨d, hd⟩ : ∃ d, d = e.takeOccurrences e.dueSlots := ⟨_, rfl⟩
  obtain ⟨t, ht⟩ : ∃ t, t = d.judgeKeyUp allChannels := ⟨_, rfl⟩
  have happly : s.applyClock day ms = t := by
    rw [ht, hd, he]
    rfl
  have hquiet : (s.setTime day ms).stopAtEnd.Quiet t := happly ▸ s.applyClock_quiet day ms
  have hstopped : (s.setTime day ms).stopAtEnd.link = s.link ∧ (s.setTime day ms).stopAtEnd.store = s.store
      ∧ (s.setTime day ms).stopAtEnd.watches = s.watches ∧ (s.setTime day ms).stopAtEnd.pending = s.pending
      ∧ (s.setTime day ms).stopAtEnd.channels = s.channels := by
    unfold State.stopAtEnd
    split <;> exact ⟨rfl, rfl, rfl, rfl, rfl⟩
  obtain ⟨hlink, hstore, hwatches, hpending, hchannels⟩ := hstopped
  obtain ⟨hclock, hslots, hchans⟩ := s.clockJudged_frame day ms
  rw [← he] at hclock hslots hchans
  have henow : e.now = now := by
    rw [State.now, hclock]
    rfl
  have htaken : e.Steady (fun _ => False) d := hd ▸ e.dueSlots_steady
  have hjudged : d.Steady (fun c => (d.chan c).state = .standby) t := ht ▸ d.judgeKeyUp_steady _
  have hdstate (c : ChannelNo) : (d.chan c).state = (s.chan c).state := (htaken.state c id).trans (hchans c).1
  have hall : e.Steady (fun c => (d.chan c).state = .standby) t := (htaken.mono fun _ => False.elim).trans hjudged
  have hdue (i : SlotNo) : e.slotDue i = true ↔ (s.slot i).state = .enabled ∧ (s.slot i).earliest now ≤ now := by
    rw [State.slotDue_iff, hslots, henow]
    by_cases hen : (s.slot i).state = .enabled
    · rw [if_pos hen]
      constructor
      · rintro ⟨n, hn, _, hle⟩
        exact ⟨hen, Option.some.inj hn ▸ hle⟩
      · exact fun h => ⟨_, rfl, hen, h.2⟩
    · rw [if_neg hen]
      exact ⟨fun ⟨_, _, h, _⟩ => absurd h hen, fun h => absurd h.1 hen⟩
  obtain ⟨ns, hns⟩ := (t.accepted 0x05 s.clock.fields).formed_flush
  refine ⟨(t.accepted 0x05 s.clock.fields).flush, ns, happly ▸ haccepted, hall.clock.trans hclock, ?_,
    hquiet.cells.trans (congrArg Store.cells hstore), hquiet.split.trans (congrArg Store.split hstore),
    hquiet.watches.trans hwatches, hquiet.pending.trans hpending,
    fun c => (hquiet.settings c).trans (congrArg (fun v => (vget v c).settings) hchannels), fun i => ⟨fun hno => ?_,
      fun hen hlater => ?_, fun hen hnow hperiod => ?_⟩, fun c i hen hin hnow honly hr hstate => ?_,
    fun hp h x hst hk hx hpast => ?_, fun c q hq => ⟨fun hperiods hperiod hstate hw hpast => ?_, fun hstate => ?_,
      fun hstate hfuture honly => ?_⟩⟩
  · rw [hns, State.accepted, Link.formed_place, hquiet.link.trans hlink]
    have hfields : s.clock.fields = [.num 2 s.clock.day, .num 4 s.clock.ms, .num 1 s.clock.isSet.toNat,
        .num 1 (if s.clock.running then 0 else 1)] := by
      unfold Clock.fields
      cases s.clock.running <;> rfl
    rw [hfields]
  · have hnot : e.slotDue i = false := Bool.eq_false_iff.2 fun h => hno ((hdue i).1 h).1
    exact (hall.slot_of_not_due hnot).trans ((hslots i).trans (if_neg hno))
  · have hnot : e.slotDue i = false := Bool.eq_false_iff.2 fun h => absurd ((hdue i).1 h).2 (Nat.not_le_of_lt hlater)
    exact (hall.slot_of_not_due hnot).trans ((hslots i).trans (if_pos hen))
  · have hmem : i ∈ e.dueSlots := State.mem_dueSlots.2 ((hdue i).2 ⟨hen, Nat.le_of_eq hnow⟩)
    have hmoved : d.slot i = { s.slot i with nextDue := some (now + (s.slot i).periodMs) } := by
      rw [hd, State.slot_takeOccurrences _ e.nodup_dueSlots, if_pos hmem, hslots, if_pos hen, hnow]
      rfl
    have hnot : d.slotDue i = false := by
      refine Bool.eq_false_iff.2 fun h => ?_
      obtain ⟨n, hn, _, hle⟩ := State.slotDue_iff.1 h
      rw [hmoved] at hn
      rw [htaken.now, henow, ← Option.some.inj hn] at hle
      have hpos : 0 < (s.slot i).periodMs := Nat.mul_pos hperiod (by decide)
      omega
    exact (hjudged.slot_of_not_due hnot).trans hmoved
  · have hslot : e.slot i = { s.slot i with nextDue := some now } := by rw [hslots, if_pos hen, hnow]
    have hmem : i ∈ e.dueSlots := State.mem_dueSlots.2 ((hdue i).2 ⟨hen, Nat.le_of_eq hnow⟩)
    have hother (j : SlotNo) (hj : j ≠ i) (hjin : inSet (s.slot j).channels c = true) : e.slotDue j = false := by
      refine Bool.eq_false_iff.2 fun h => ?_
      obtain ⟨hen', hle⟩ := (hdue j).1 h
      exact absurd hle (Nat.not_le_of_lt (honly j hj hen' hjin))
    have hchannels' (j : SlotNo) : (e.slot j).channels = (s.slot j).channels := by
      rw [hslots]
      split <;> rfl
    have hrequests : (d.chan c).requests = [⟨i, (s.slot i).area, now, now + (s.slot i).window
        + (s.chan c).settings.period, .waiting, 0, none⟩] := by
      have hplaced := State.requests_takeOccurrences (s := e) (c := c) (i := i) (n := now) e.dueSlots e.nodup_dueSlots hmem
        (by rw [hslot]) (by rw [hchannels']; exact hin) (fun j hj hne => ?_) ?_ ?_
      · rw [hd, hplaced, hslot, (hchans c).2.1]
      · refine Bool.eq_false_iff.2 fun hjin => ?_
        have hnot := hother j hne (hchannels' j ▸ hjin)
        exact absurd (State.mem_dueSlots.1 hj) (ne_true_of_eq_false hnot)
      · rw [(hchans c).1]
        intro hoff
        rw [hoff] at hstate
        simp at hstate
      · rw [(hchans c).2.2, hr]
        rfl
    have hnot : ¬(d.chan c).state = .standby := by
      rw [hdstate]
      intro hst
      rw [hst] at hstate
      simp at hstate
    refine (hjudged.untouched c hnot fun j n hjin hreached => ?_).trans hrequests
    rw [hrequests]
    refine ⟨_, List.mem_singleton_self _, Request.isFor_iff.2 ?_⟩
    obtain ⟨m, hm, hzero⟩ := htaken.slot j
    rw [hm, htaken.now, henow] at hreached
    obtain ⟨hen', first, k, hfirst, hn, hle⟩ := Slot.reached_moved hreached
    have hjin : inSet (s.slot j).channels c = true := by
      rw [hm] at hjin
      exact hchannels' j ▸ hjin
    by_cases hj : j = i
    · subst hj
      rw [hslot] at hfirst
      cases hfirst
      refine ⟨rfl, ?_⟩
      show now = n
      omega
    · have hdue' : e.slotDue j = true := State.slotDue_iff.2 ⟨first, hfirst, hen', by rw [henow]; omega⟩
      exact absurd hdue' (ne_true_of_eq_false (hother j hj hjin))
  · obtain ⟨hfree, hlists⟩ := State.gone_clockJudged (day := day) (ms := ms) hp hst hk hx hpast
    rw [← he] at hfree hlists
    exact (congrArg Descriptor.state (hall.absent h hlists).1).trans hfree
  · intro hmem
    have hold : q ∉ (e.chan c).requests := by
      rw [(hchans c).2.2]
      intro hkept
      have hno := List.all_eq_true.1 (List.mem_filter.1 hkept).2 q (List.mem_filter.2 ⟨hq, decide_eq_true ⟨hstate, hw, hpast⟩⟩)
      simp [Request.isFor] at hno
    rcases hall.placed c q hmem hw with hin | ⟨i, n, hreached, -, heq⟩
    · exact hold hin
    · obtain ⟨hen, first, m, hfirst, hn, -⟩ := hreached
      rw [hslots] at hen hfirst
      have hen' : (s.slot i).state = .enabled := by
        split at hen
        · assumption
        · exact hen
      rw [if_pos hen'] at hfirst
      have hfrom := Slot.le_earliest (hperiods i hen') now
      have hfirst := Option.some.inj hfirst
      have hdeadline : q.deadline = n + (e.slot i).window + (e.chan c).settings.period := by rw [heq]
      rw [(hchans c).2.1] at hdeadline
      have hlate : now < q.deadline := by
        have hle : now ≤ n := by
          rw [hn, ← hfirst]
          exact Nat.le_trans hfrom (Nat.le_add_right ..)
        rw [hdeadline]
        omega
      exact absurd hpast (Nat.not_le_of_lt hlate)
  · have hnot : ¬(d.chan c).state = .standby := by
      rw [hdstate]
      intro hst
      rw [hst] at hstate
      simp at hstate
    refine hall.grows c hnot q ?_
    rw [(hchans c).2.2]
    have hnone : (s.chan c).requests.filter (fun q => decide ((s.chan c).state ∈ ([.standby, .keyUp, .faulted] : List ChanState)
        ∧ q.state = .waiting ∧ q.deadline ≤ day * 86400000 + ms)) = [] := by
      refine List.filter_eq_nil_iff.2 fun p _ hp => ?_
      have hunkeyed := (of_decide_eq_true hp).1
      simp only [List.mem_cons, List.not_mem_nil, or_false] at hstate hunkeyed
      rcases hstate with h | h <;> rw [h] at hunkeyed <;> simp at hunkeyed
    rw [hnone]
    exact List.mem_filter.2 ⟨hq, rfl⟩
  · have hnot : ¬(d.chan c).state = .standby := by
      rw [hdstate]
      intro hst
      rw [hst] at hstate
      simp at hstate
    refine hall.grows c hnot q ?_
    rw [(hchans c).2.2]
    refine List.mem_filter.2 ⟨hq, List.all_eq_true.2 fun p hp => ?_⟩
    obtain ⟨hpin, hppast⟩ := List.mem_filter.1 hp
    rw [Bool.not_eq_true', ← Bool.not_eq_true, Request.isFor_iff]
    rintro ⟨hslot, hdue'⟩
    have hsame := honly p hpin hslot.symm hdue'.symm
    have hpast := (of_decide_eq_true hppast).2.2
    rw [hsame] at hpast
    exact absurd hpast (Nat.not_le_of_lt hfuture)

end Sys2Proof.Proofs
end

section
/-! Received symbols and the call parser; the calls that are acted on (sections 9.1 to 9.3, 9.6 and 5.5). -/

namespace Sys2Proof.Machine

/-! ### The identity of a call -/

theorem spelled_digits (ys : List Nat) : spelled (ys.map (· - 33)) = decimal ys := by
  simp [spelled, decimal, List.foldl_map]

section
variable {p : Parser} {y copies : Nat} {mutilated : Bool}

/-- R154. A symbol that agrees with the identity so far. -/
def Parser.agrees (p : Parser) (y : Nat) (mutilated : Bool) : Prop :=
  (33 ≤ y ∧ y ≤ 42 ∧ mutilated = false) ∧ (5 ≤ p.digits.length → p.digits[p.digits.length % 5]? = some y)

theorem Parser.identSymbol_of_phasing : p.identSymbol copies 6 false = (p.newRun, .rejected) := rfl

theorem Parser.identSymbol_of_not_agrees (hno : ¬p.agrees y mutilated) (hphasing : ¬(y = 6 ∧ mutilated = false)) :
    p.identSymbol copies y mutilated = (p.toSkip, .rejected) := by
  unfold Parser.identSymbol
  by_cases hdigit : 33 ≤ y ∧ y ≤ 42 ∧ mutilated = false
  · obtain ⟨h1, h2, rfl⟩ := hdigit
    have hcopy : ¬(5 ≤ p.digits.length → p.digits[p.digits.length % 5]? = some y) := fun h => hno ⟨⟨h1, h2, rfl⟩, h⟩
    rw [if_neg (by simp [isDigitCode_iff, h1, h2]), if_pos (by simpa [and_comm] using hcopy)]
    rfl
  · rw [if_pos]
    · have hflag : (!mutilated && y == symPhasing) = false := by
        rw [← Bool.not_eq_true]
        simpa [symPhasing, and_comm] using hphasing
      rw [hflag]
      rfl
    · cases mutilated with
      | true => rfl
      | false =>
        have hcode : isDigitCode y = false := by
          rw [← Bool.not_eq_true, isDigitCode_iff]
          simpa using hdigit
        simp [hcode]

theorem Parser.identSymbol_of_agrees (h : p.agrees y mutilated) : p.identSymbol copies y mutilated
    = if p.digits.length + 1 < 5 * copies then ({ p with digits := p.digits ++ [y] }, .going)
      else if decimal ((p.digits ++ [y]).take 5) = 0 then (p.toSkip, .rejected)
      else ({ p with
        state := .body, digits := p.digits ++ [y], ident := decimal ((p.digits ++ [y]).take 5), body := []
        damaged := false }, .accepted) := by
  obtain ⟨⟨h1, h2, rfl⟩, hcopy⟩ := h
  unfold Parser.identSymbol
  rw [if_neg (by simp [isDigitCode_iff, h1, h2]), if_neg (by simpa using hcopy)]
  simp only [List.length_append, List.length_singleton]
  rfl

/-! ### The other states of the parser -/

theorem Parser.symbol_of_hunt (hp : p.state = .hunt) (k : Nat) : p.symbol k copies y mutilated
    = (if y = 6 ∧ mutilated = false then ⟨.phasing, 1, [], 0, [], false⟩ else p, .going) := by
  simp only [Parser.symbol, hp]
  by_cases hphasing : y = 6 ∧ mutilated = false
  · obtain ⟨rfl, rfl⟩ := hphasing
    rfl
  · rw [if_neg hphasing, if_neg (by simpa [symPhasing, and_comm] using hphasing)]

theorem Parser.symbol_of_phasing (hp : p.state = .phasing) (k : Nat) : p.symbol k copies 6 false
    = ({ p with run := if p.run < 16 then p.run + 1 else 16 }, .going) := by
  simp only [Parser.symbol, hp]
  rfl

theorem Parser.symbol_of_broken_run (hp : p.state = .phasing) {k : Nat}
    (h : mutilated = true ∨ ¬(y = 6 ∧ mutilated = false) ∧ p.run < k) :
    p.symbol k copies y mutilated = (⟨.hunt, 0, [], 0, [], false⟩, .going) := by
  simp only [Parser.symbol, hp]
  rw [if_neg, if_neg]
  · rfl
  · rcases h with h | h
    · simp [h]
    · simp [h.2]
  · rcases h with h | h
    · simp [h]
    · simpa [symPhasing, and_comm] using h.1

theorem Parser.symbol_of_complete_run (hp : p.state = .phasing) {k : Nat} (hm : mutilated = false) (hy : y ≠ 6)
    (hrun : k ≤ p.run) : p.symbol k copies y mutilated
      = (⟨.ident, p.run, [], 0, [], false⟩ : Parser).identSymbol copies y mutilated := by
  subst hm
  simp only [Parser.symbol, hp]
  rw [if_neg (by simpa [symPhasing] using hy), if_pos (by simpa using hrun)]
  rfl

theorem Parser.symbol_of_ident (hp : p.state = .ident) (k : Nat) :
    p.symbol k copies y mutilated = p.identSymbol copies y mutilated := by
  simp only [Parser.symbol, hp]

theorem Parser.symbol_of_body (hp : p.state = .body) (hy : mutilated = true ∨ y ∉ [0, 6]) (hlen : p.body.length < 63)
    (k : Nat) : p.symbol k copies y mutilated
      = ({ p with body := p.body ++ [y], damaged := p.damaged || mutilated }, .going) := by
  have hidle : ¬(!mutilated && y == symIdle) = true := by
    rcases hy with hm | hy <;> simp_all [symIdle]
  have hphasing : ¬(!mutilated && y == symPhasing) = true := by
    rcases hy with hm | hy <;> simp_all [symPhasing]
  simp only [Parser.symbol, hp, if_neg hidle, if_neg hphasing, Parser.joinBody]
  exact if_neg (by simp [maxCallBody]; omega)

end

/-! ### What a symbol brings about at once -/

section
variable {s : State} {c : ChannelNo} {y : Nat} {mutilated : Bool} {q : Parser}

theorem exec_receivedSymbol_of_going (ho : s.outbox = []) (hon : (s.chan c).state ≠ .offline)
    (hshift : ¬isShift y mutilated = true) (hv : s.verdict c y mutilated = (q, .going)) :
    exec (.receivedSymbol c y mutilated) s
      = .next (s.setChan c { s.chan c with parser := q, rx := (s.chan c).rx.counted mutilated }) := by
  rw [exec_receivedSymbol hon]
  rcases s.takeSymbol_cases c y mutilated hshift with ⟨-, h⟩ | ⟨hne, -⟩ | ⟨hne, -⟩ | ⟨call, hne, -⟩
  · rw [h, State.parsed, hv]
    exact congrArg _ (State.flush_eq ho)
  all_goals
    rw [hv] at hne
    cases hne

theorem exec_receivedSymbol_of_rejected (ho : s.outbox = []) (hon : (s.chan c).state ≠ .offline)
    (hshift : ¬isShift y mutilated = true) (hv : s.verdict c y mutilated = (q, .rejected)) :
    exec (.receivedSymbol c y mutilated) s = .next (s.setChan c { s.chan c with
      parser := q
      rx := { (s.chan c).rx.counted mutilated with rejected := satSucc max32 (s.chan c).rx.rejected } }) := by
  rw [exec_receivedSymbol hon]
  rcases s.takeSymbol_cases c y mutilated hshift with ⟨hne, -⟩ | ⟨hne, -⟩ | ⟨-, h⟩ | ⟨call, hne, -⟩
  case inr.inr.inl =>
    rw [h, State.parsed, hv]
    refine congrArg _ ((State.flush_eq (by exact ho)).trans ?_)
    simp only [State.modRx, State.modChan, State.chan_setChan, State.setChan_setChan, if_true]
    rfl
  all_goals
    rw [hv] at hne
    cases hne

theorem exec_receivedSymbol_of_accepted (ho : s.outbox = []) (hon : (s.chan c).state ≠ .offline)
    (hshift : ¬isShift y mutilated = true) (hv : s.verdict c y mutilated = (q, .accepted)) :
    exec (.receivedSymbol c y mutilated) s = .next (s.setChan c { s.chan c with
      parser := q
      rx := { (s.chan c).rx.counted mutilated with accepted := satSucc max32 (s.chan c).rx.accepted } }) := by
  rw [exec_receivedSymbol hon]
  rcases s.takeSymbol_cases c y mutilated hshift with ⟨hne, -⟩ | ⟨-, h⟩ | ⟨hne, -⟩ | ⟨call, hne, -⟩
  case inr.inl =>
    rw [h, State.parsed, hv]
    refine congrArg _ ((State.flush_eq (by exact ho)).trans ?_)
    simp only [State.modRx, State.modChan, State.chan_setChan, State.setChan_setChan, if_true]
    rfl
  all_goals
    rw [hv] at hne
    cases hne

end

/-! ### Holds -/

section
variable {s : State} {c : ChannelNo} {ship n : Nat}

theorem State.segmentShip_setChan {x : Channel} (hx : x.item = (s.chan c).item) :
    (s.setChan c x).segmentShip c = s.segmentShip c := by
  unfold State.segmentShip
  rw [State.chan_setChan, if_pos rfl, hx]
  cases (s.chan c).item <;> rfl

/-- R164. The record of a ship without one, at a table with a place. -/
theorem State.holdCall_of_new (hn : n ≠ 0) (hno : ∀ r ∈ (s.chan c).holds, r.ship ≠ ship)
    (hplace : (s.chan c).holds.length < 8) : s.holdCall c ship n = State.judgeKeyUp (State.setChan { s with
        outbox := s.outbox ++ [⟨.hold, some c, s.clock.ms,
          [.num 3 ship, .num 2 n, .num 1 (s.newHold c ship n).state.code, .num 1 0]⟩] } c
      { s.chan c with
        holds := (s.chan c).holds ++ [s.newHold c ship n]
        rx := { (s.chan c).rx with holdsTaken := satSucc max32 (s.chan c).rx.holdsTaken } }) [c] := by
  simp only [State.holdCall, find?_ship_eq_none.2 hno, if_neg hn, holdPlaces, if_pos hplace, State.countHold, State.modRx,
    State.modChan, State.chan_setChan, State.setChan_setChan, if_true]
  rfl

/-- R164. A hold at a full table is lost. -/
theorem State.holdCall_of_full (hn : n ≠ 0) (hno : ∀ r ∈ (s.chan c).holds, r.ship ≠ ship)
    (hfull : 8 ≤ (s.chan c).holds.length) : s.holdCall c ship n = State.setChan { s with
        outbox := s.outbox ++ [⟨.holdLost, some c, s.clock.ms, [.num 3 ship, .num 2 n]⟩] } c
      { s.chan c with rx := { (s.chan c).rx with holdsLost := satSucc max16 (s.chan c).rx.holdsLost } } := by
  simp only [State.holdCall, find?_ship_eq_none.2 hno, if_neg hn, holdPlaces]
  exact if_neg (Nat.not_lt_of_le hfull)

theorem Hold.reload_eq (r : Hold) (n elapsed : Nat) : r.reload n elapsed
    = if r.state = .pending then { r with count := n } else { r with endsAt := elapsed + n * 1000 } := by
  cases hr : r.state <;> simp [Hold.reload, hr]

/-- R164. A hold of a ship with a record reloads it. -/
theorem State.holdCall_of_reload {r : Hold} {ps qs : List Hold} (hn : n ≠ 0) (hholds : (s.chan c).holds = ps ++ r :: qs)
    (hship : r.ship = ship) (hother : ∀ q ∈ ps ++ qs, q.ship ≠ ship) : s.holdCall c ship n = State.setChan { s with
        outbox := s.outbox ++ [⟨.hold, some c, s.clock.ms, [.num 3 ship, .num 2 n, .num 1 r.state.code, .num 1 1]⟩] } c
      { s.chan c with
        holds := ps ++ (if r.state = .pending then { r with count := n }
          else { r with endsAt := s.clock.elapsed + n * 1000 }) :: qs
        rx := { (s.chan c).rx with holdsTaken := satSucc max32 (s.chan c).rx.holdsTaken } } := by
  have hfound : (s.chan c).holds.find? (·.ship == ship) = some r :=
    hholds ▸ find?_ship_append hship fun q hq => hother q (List.mem_append_left _ hq)
  have hkept {l : List Hold} (hl : ∀ q ∈ l, q.ship ≠ ship) :
      l.map (fun q => if q.ship = ship then q.reload n s.clock.elapsed else q) = l :=
    (List.map_congr_left fun q hq => if_neg (hl q hq)).trans (List.map_id _)
  have hmap : (s.chan c).holds.map (fun q => if q.ship = ship then q.reload n s.clock.elapsed else q)
      = ps ++ r.reload n s.clock.elapsed :: qs := by
    rw [hholds, List.map_append, List.map_cons, hkept fun q hq => hother q (List.mem_append_left _ hq),
      hkept fun q hq => hother q (List.mem_append_right _ hq), if_pos hship]
  simp only [State.holdCall, hfound, if_neg hn, State.countHold, State.modRx, State.modChan, State.chan_setChan,
    State.setChan_setChan, if_true]
  rw [hmap, Hold.reload_eq]
  rfl

/-! ### Acknowledgements and repeat requests -/

/-- R71. A message of the sent list that a call matches. -/
def State.callMatches (s : State) (c : ChannelNo) (ship n : Nat) (h : Handle) : Prop :=
  h ∈ (s.chan c).sent ∧ ((s.desc h).state = .awaitAck ∨ (s.desc h).state = .unconfirmed) ∧ (s.desc h).number = n
    ∧ (s.desc h).dest = ship

theorem State.matchSent_some {h : Handle} (hm : s.matchSent c ship n = some h) : s.callMatches c ship n h := by
  have hpred := List.find?_some hm
  simp only [Bool.and_eq_true, Bool.or_eq_true, decide_eq_true_iff] at hpred
  obtain ⟨⟨hstate, hnumber⟩, hdest⟩ := hpred
  exact ⟨List.mem_of_find?_eq_some hm, hstate, hnumber, hdest⟩

theorem State.matchSent_none (hm : s.matchSent c ship n = none) (h : Handle) : ¬s.callMatches c ship n h := by
  rintro ⟨hsent, hstate, hnumber, hdest⟩
  have hno := List.find?_eq_none.1 hm h hsent
  simp only [Bool.and_eq_true, Bool.or_eq_true, decide_eq_true_iff] at hno
  exact hno ⟨⟨hstate, hnumber⟩, hdest⟩

theorem State.matchSent_of_only {h : Handle} (hh : s.callMatches c ship n h)
    (honly : ∀ g, s.callMatches c ship n g → g = h) : s.matchSent c ship n = some h := by
  cases hm : s.matchSent c ship n with
  | none => exact absurd hh (State.matchSent_none hm h)
  | some g => rw [honly g (State.matchSent_some hm)]

/-- R158. A call that matches no message. -/
theorem State.deliverCall_of_unmatched {f : CallForm}
    (hno : ∀ h, ¬(1 ≤ n ∧ n ≤ 65535 ∧ s.callMatches c ship n h)) :
    s.deliverCall c f ship n = s.unmatchedCall c f ship n := by
  unfold State.deliverCall
  split
  · rfl
  · next hrange =>
    have hnone : s.matchSent c ship n = none := by
      cases hm : s.matchSent c ship n with
      | none => rfl
      | some h => exact absurd ⟨by omega, by omega, State.matchSent_some hm⟩ (hno h)
    simp only [hnone]

/-- R158. A call that matches one message. -/
theorem State.deliverCall_of_matched {h : Handle} (hlo : 1 ≤ n) (hhi : n ≤ 65535) (hh : s.callMatches c ship n h)
    (honly : ∀ g, s.callMatches c ship n g → g = h) :
    s.deliverCall c .ack ship n = (s.ackMessage h).modRx c (fun r => { r with acksMatched := satSucc max32 r.acksMatched })
    ∧ s.deliverCall c .repeat ship n
      = (s.repeatMessage c h).modRx c fun r => { r with repeatsMatched := satSucc max32 r.repeatsMatched } := by
  have hrange : ¬(n = 0 ∨ 65535 < n) := by omega
  unfold State.deliverCall
  rw [if_neg hrange, if_neg hrange, State.matchSent_of_only hh honly]
  exact ⟨rfl, rfl⟩

/-- R158. -/
theorem State.unmatchedCall_eq (f : CallForm) : s.unmatchedCall c f ship n = State.setChan { s with
    outbox := s.outbox ++ [⟨.unmatched, some c, s.clock.ms, [.num 1 f.code, .num 3 ship, .num 3 n]⟩] } c
      { s.chan c with rx := { (s.chan c).rx with unmatched := satSucc max32 (s.chan c).rx.unmatched } } := rfl

/-- R71, R72. The acknowledgement of a message of the sent list, in time or late. -/
theorem State.ackMessage_eq {h : Handle} (ho : s.outbox = []) (hc : (s.desc h).channel = c)
    (hstate : (s.desc h).state = .awaitAck ∨ (s.desc h).state = .unconfirmed) : s.ackMessage h
    = State.rejudgeGrant { s.freeMessage h with outbox :=
      [⟨if (s.desc h).state = .awaitAck then .acked else .ackedLate, some c, s.clock.ms,
        [.num 1 h.val, .num 2 (s.desc h).number, .num 3 (s.desc h).dest]
          ++ [.num 1 (s.desc h).repeats, .num 6 ((s.desc h).doneTime.getD 0)]⟩] } := by
  have hevent : (if (s.desc h).state = .unconfirmed then Event.ackedLate else .acked)
      = if (s.desc h).state = .awaitAck then .acked else .ackedLate := by
    rcases hstate with hstate | hstate <;> rw [hstate] <;> rfl
  have hout : (s.freeMessage h).outbox = [] := ho
  rw [State.ackMessage, State.freeWith, hevent, State.emit, hout, hc]
  rfl

theorem State.rx_ackMessage {h : Handle} : ((s.ackMessage h).chan c).rx = (s.chan c).rx := by
  rw [State.ackMessage, State.freeWith, State.chan, State.channels_rejudgeGrant]
  exact (congrArg Channel.rx State.rest_freeMessage :)

/-- R73. The repeat of a message below the limit. -/
theorem State.repeatMessage_of_lt {h : Handle} (ho : s.outbox = []) (hless : (s.desc h).repeats < 3) : s.repeatMessage c h
    = State.judgeKeyUp { (s.requeueReady h).setDesc h
        { (s.requeueReady h).desc h with repeats := (s.desc h).repeats + 1 } with
      outbox := [⟨.repeated, some c, s.clock.ms,
        [.num 1 h.val, .num 2 (s.desc h).number, .num 3 (s.desc h).dest] ++ [.num 1 ((s.desc h).repeats + 1)]⟩] } [c] := by
  have hdesc : ((s.requeueReady h).desc h).repeats = (s.desc h).repeats := by
    rw [State.requeueReady, State.desc_toHead]
  have hout : ((s.requeueReady h).modDesc h fun d => { d with repeats := d.repeats + 1 }).outbox = [] := ho
  refine (if_pos hless).trans (congrArg (State.judgeKeyUp · [c]) ?_)
  rw [State.emit, hout, State.modDesc, hdesc]
  rfl

theorem State.rx_repeatMessage {h : Handle} : ((s.repeatMessage c h).chan c).rx = (s.chan c).rx := by
  have hhome : ((s.requeueReady h).chan c).rx = (s.chan c).rx := (congrArg Channel.rx (State.rest_toHead _) :)
  by_cases hless : (s.desc h).repeats < 3
  · obtain ⟨u, hrepeated, hu⟩ : ∃ u : State, s.repeatMessage c h = u.judgeKeyUp [c] ∧ u.chan c = (s.requeueReady h).chan c :=
      ⟨_, if_pos hless, rfl⟩
    rw [hrepeated, ((State.judgeKeyUp_steady u [c]).watch c).1, hu, hhome]
  · obtain ⟨u, hrefused, hu⟩ : ∃ u : State, s.repeatMessage c h = u ∧ u.chan c = s.chan c := ⟨_, if_neg hless, rfl⟩
    rw [hrefused, hu]

/-- R73. The fourth repeat request is refused. -/
theorem State.repeatMessage_of_ge {h : Handle} (hmany : 3 ≤ (s.desc h).repeats) : s.repeatMessage c h
    = { s with outbox := s.outbox ++ [⟨.repeatRefused, some c, s.clock.ms,
      [.num 1 h.val, .num 2 (s.desc h).number, .num 3 (s.desc h).dest]
        ++ [.num 1 (s.desc h).repeats, .num 1 (s.desc h).state.code]⟩] } := by
  exact if_neg (Nat.not_lt_of_le hmany)

end

theorem calls_ack_repeat {body ds es rest rest' : List Nat} (ha : calls body .ack ds rest) :
    ¬calls body .repeat es rest' := fun hr => by
  have h := (callForm_of_calls ha).symm.trans (callForm_of_calls hr)
  cases h

end Sys2Proof.Machine

namespace Sys2Proof.Proofs

open Sys2Proof.Machine

/-- Settles O55. -/
theorem receivedCallsAreActedOn : Obligations.ReceivedCallsAreActedOn := by
  unfold Obligations.ReceivedCallsAreActedOn
  refine ⟨fun s c y mutilated ho => ?_, fun s c y mutilated call after ds rest ho hon hends hd => ?_⟩
  · intro ch p x up counted becomes hunt run phasing digit rejects skip joins
    refine ⟨fun hoff => (congrArg eventStep (if_pos hoff)).trans (congrArg _ (State.flush_eq ho)), fun hon => ⟨fun hy hm => ?_,
      fun hshift => ?_⟩⟩
    · have hshift : isShift y mutilated = true := (isShift_iff ..).2 ⟨hm, hy⟩
      refine (exec_receivedSymbol hon).trans ?_
      rw [State.takeSymbol_of_isShift s c y mutilated hshift]
      exact congrArg _ (State.flush_eq ho)
    · have hshift : ¬isShift y mutilated = true := by
        rw [isShift_iff]
        exact fun h => hshift h.symm
      have hbecomes {q : Parser} (hv : p.symbol ch.settings.phasingRun ch.settings.copies y mutilated = (q, .going)) :
          becomes q := exec_receivedSymbol_of_going ho hon hshift hv
      have hrejects {q : Parser} (hv : p.symbol ch.settings.phasingRun ch.settings.copies y mutilated = (q, .rejected)) :
          rejects q := exec_receivedSymbol_of_rejected ho hon hshift hv
      have haccepts {q : Parser} (hv : p.symbol ch.settings.phasingRun ch.settings.copies y mutilated = (q, .accepted)) :=
        exec_receivedSymbol_of_accepted ho hon hshift hv
      have hjoins (i : Parser) (hi : i = ⟨.ident, p.run, i.digits, p.ident, p.body, p.damaged⟩)
          (hv : p.symbol ch.settings.phasingRun ch.settings.copies y mutilated
            = i.identSymbol ch.settings.copies y mutilated) : joins i.digits := by
        have hvalue : spelled (((i.digits ++ [y]).take 5).map (· - 33)) = decimal ((i.digits ++ [y]).take 5) :=
          spelled_digits _
        have hskip : i.toSkip = skip := by rw [hi]; rfl
        refine ⟨fun hno hphasing => hrejects ?_, fun hgood hless => hbecomes ?_, fun hgood hfull hzero => hrejects ?_,
          fun hgood hfull hsome => haccepts (q := ⟨.body, p.run, i.digits ++ [y],
            spelled (((i.digits ++ [y]).take 5).map (· - 33)), [], false⟩) ?_⟩
        · rw [hv, ← hskip]
          exact Parser.identSymbol_of_not_agrees hno hphasing
        · rw [hv, Parser.identSymbol_of_agrees hgood, if_pos hless, hi]
        · rw [hv, Parser.identSymbol_of_agrees hgood, if_neg (Nat.not_lt_of_le hfull), if_pos (hvalue.symm.trans hzero), hskip]
        · rw [hv, Parser.identSymbol_of_agrees hgood, if_neg (Nat.not_lt_of_le hfull), if_neg fun h => hsome (hvalue.trans h),
            hvalue, hi]
      refine ⟨fun hp => ⟨fun hph => hbecomes ?_, fun hph => hbecomes ?_⟩, fun hp => ⟨fun hph => hbecomes ?_,
        fun hbroken => hbecomes ?_, fun hm hph hrun hident hbody hdamaged => ?_⟩, fun hp => ⟨fun hph => hrejects ?_, ?_⟩,
        fun hp hy hlen => hbecomes (Parser.symbol_of_body hp hy hlen _)⟩
      · rw [Parser.symbol_of_hunt hp, if_pos hph]
      · rw [Parser.symbol_of_hunt hp, if_neg hph]
      · obtain ⟨rfl, rfl⟩ := hph
        exact Parser.symbol_of_phasing hp _
      · exact Parser.symbol_of_broken_run hp hbroken
      · refine hjoins ⟨.ident, p.run, [], 0, [], false⟩ ?_ (Parser.symbol_of_complete_run hp hm (fun hy => hph ⟨hy, hm⟩) hrun)
        rw [hident, hbody, hdamaged]
      · obtain ⟨rfl, rfl⟩ := hph
        exact Parser.symbol_of_ident hp _
      · refine hjoins p ?_ (Parser.symbol_of_ident hp _)
        rw [← hp]
  · intro ch x up counted n
    obtain ⟨u, hu⟩ : ∃ u, u = s.setChan c { ch with parser := after, rx := counted } := ⟨_, rfl⟩
    have hchan : u.chan c = { ch with parser := after, rx := counted } := by rw [hu, State.chan_setChan, if_pos rfl]
    have hx : x = .next (u.recognise c call).flush := by
      rw [hu]
      exact (exec_receivedSymbol hon).trans
        (congrArg (fun t => Host.Outcome.next (State.flush t)) (State.takeSymbol_of_bodyEnds hends))
    have hship : u.segmentShip c = s.segmentShip c := by
      rw [hu]
      exact State.segmentShip_setChan rfl
    refine ⟨fun hcalls hn => ?_, fun hcalls => ?_⟩
    · intro taken notice
      rw [State.recognise_of_hold hd hcalls] at hx
      refine ⟨fun hno hplace => ?_, fun hno hfull => ?_, fun r ps qs hholds hrship hother => ?_⟩
      · intro r
        have hnew : u.newHold c call.ident n = r := by
          unfold State.newHold
          rw [hship, hu]
          rfl
        rw [hx, State.holdCall_of_new hn (by rw [hchan]; exact hno) (by rw [hchan]; exact hplace), hnew, hchan, hu]
        simp only [State.setChan, ho, vput_vput]
        rfl
      · rw [hx, State.holdCall_of_full hn (by rw [hchan]; exact hno) (by rw [hchan]; exact hfull), hchan, hu]
        simp only [State.setChan, ho, vput_vput]
        rfl
      · intro r'
        rw [hx, State.holdCall_of_reload hn (by rw [hchan]; exact hholds) hrship hother, hchan, hu]
        simp only [State.setChan, ho, vput_vput]
        rfl
    · intro u' matched
      have houtbox : u.outbox = [] := hu ▸ ho
      have hmatches (h : Handle) : matched h ↔ 1 ≤ n ∧ n ≤ 65535 ∧ u.callMatches c call.ident n h := by
        rw [State.callMatches, hchan, hu]
        exact Iff.rfl
      refine ⟨fun hno form hform => ?_, fun h hm honly hc => ?_⟩
      · have hrecognised : u.recognise c call = u.unmatchedCall c form call.ident n := by
          have hnone : ∀ h, ¬(1 ≤ n ∧ n ≤ 65535 ∧ u.callMatches c call.ident n h) := fun h hh => hno h ((hmatches h).2 hh)
          rcases hcalls with hack | hrep
          · rw [State.recognise_of_ack hd hack, State.deliverCall_of_unmatched hnone, hform.2 hack]
          · have hne : form ≠ .ack := fun he => calls_ack_repeat (hform.1 he) hrep
            have hrepeat : form = .repeat := by
              cases form
              · exact absurd rfl hne
              · rfl
            rw [State.recognise_of_repeat hd hrep, State.deliverCall_of_unmatched hnone, hrepeat]
        rw [hx, hrecognised, State.unmatchedCall_eq, hchan, hu]
        cases form <;> simp only [State.setChan, ho, vput_vput] <;> rfl
      · intro d fs
        obtain ⟨hlo, hhi, hmatch⟩ := (hmatches h).1 hm
        have hstate := hmatch.2.1
        obtain ⟨hack, hrepeat⟩ := State.deliverCall_of_matched hlo hhi hmatch fun g hg =>
          honly g ((hmatches g).2 ⟨hlo, hhi, hg⟩)
        have hdesc : u.desc h = d := by rw [hu]; rfl
        have hrx : (u.chan c).rx = counted := by rw [hchan]
        refine ⟨fun ha => ?_, fun hr hless => ?_, fun hr hmany => ?_⟩
        · intro t
          have ht : u.ackMessage h = t := by
            rw [State.ackMessage_eq houtbox ((congrArg Descriptor.channel hdesc).trans hc) hstate, hdesc, hu]
            rfl
          have hkept : (t.chan c).rx = counted := by rw [← ht, State.rx_ackMessage, hrx]
          rw [hx, State.recognise_of_ack hd ha, hack, ht, State.modRx, State.modChan, hkept]
          rfl
        · intro v t
          have ht : u.repeatMessage c h = t := by
            rw [State.repeatMessage_of_lt houtbox (hdesc ▸ hless), hdesc, hu]
            rfl
          have hkept : (t.chan c).rx = counted := by rw [← ht, State.rx_repeatMessage, hrx]
          rw [hx, State.recognise_of_repeat hd hr, hrepeat, ht, State.modRx, State.modChan, hkept]
          rfl
        · have hmod (o : List Notice) (f : RxCounts → RxCounts) : State.modRx { u with outbox := o } c f
              = State.setChan { s with outbox := o } c { u.chan c with rx := f (u.chan c).rx } := by
            rw [hu]
            exact State.setChan_setChan (s := { s with outbox := o }) ..
          rw [hx, State.recognise_of_repeat hd hr, hrepeat, State.repeatMessage_of_ge (hdesc ▸ hmany), hdesc, hmod, hchan,
            houtbox, show u.clock = s.clock by rw [hu]; rfl]
          rfl

end Sys2Proof.Proofs
end

section
/-! The laws of the traffic (section 5.2, R33, R62 to R66, R91, R104, R121, R131), taken apart into those of the messages,
of the open load and of the bulletins. The items on air are a parameter of each, since between two items of a channel, and
while a channel is broken off, the laws hold of the items that the traffic still stands for. -/

namespace Sys2Proof.Machine

/-! ### The place of a message -/

/-- R63 to R66. The lists of a channel that may hold a message. -/
inductive Place | queue (k : MsgClass) | slot | sent
deriving DecidableEq

/-- A list of a channel holds a message. -/
def Channel.has (ch : Channel) (h : Handle) : Place → Prop
  | .queue k => h ∈ ch.queue k
  | .slot => ch.active = some h
  | .sent => h ∈ ch.sent

/-- The place that a descriptor tells. -/
def Descriptor.isIn (d : Descriptor) (c : ChannelNo) : Place → Prop
  | .queue k => d.channel = c ∧ d.cls = k ∧ (d.state = .ready ∨ d.state = .suspended ∨ k = .relay ∧ d.state = .active)
  | .slot => d.channel = c ∧ d.cls ≠ .relay ∧ (d.state = .active ∨ d.state = .parked)
  | .sent => d.channel = c ∧ (d.state = .awaitAck ∨ d.state = .unconfirmed)

/-- No list of the channel names a handle twice. -/
def Channel.orderly (ch : Channel) : Prop := (∀ k, (ch.queue k).Nodup) ∧ ch.sent.Nodup

/-- The laws of one descriptor: the states of a relay, the chain of a FREE one (R61), and its lengths (R62). -/
def Descriptor.lawful (d : Descriptor) : Prop :=
  (d.cls = .relay → d.state ∉ [.suspended, .parked, .awaitAck, .unconfirmed]) ∧ (d.state = .free → d.chain = [])
    ∧ d.resume ≤ d.length ∧ d.length ≤ 8192 ∧ (d.state ≠ .free → d.state ≠ .loading → 0 < d.length)

/-- A handle with the channel and the number of a live message is that of no other live message (section 5.1). -/
def State.unique (s : State) (h : Handle) (d : Descriptor) : Prop :=
  ∀ g, g ≠ h → (s.desc g).state ≠ .free → (s.desc g).channel = d.channel → (s.desc g).number ≠ d.number

/-! ### The message of an item -/

/-- The message that an item keys or that a marker closes, a relay's included. -/
def Item.message : Item → Option Handle
  | .header h _ _ _ _ | .segment h _ _ _ | .marker (.message h) _ _ | .relay h => some h
  | .noItem | .idle | .marker (.request _ _ _) _ _ | .bulletin _ _ _ _ _ => none

/-- What an item needs of its message (R108, R112, R121). -/
def Item.suits (it : Item) (d : Descriptor) : Prop :=
  match it with
  | .header _ _ _ e _ => d.cls ≠ .relay ∧ d.resume < e ∧ e ≤ d.length
  | .segment _ start e _ => d.cls ≠ .relay ∧ start ≤ d.resume ∧ d.resume < e ∧ e ≤ d.length
  | .marker _ _ _ => d.cls ≠ .relay
  | .relay _ => d.cls = .relay ∧ d.resume < d.length
  | .noItem | .idle | .bulletin _ _ _ _ _ => True

theorem Item.message_eq_some {it : Item} {h : Handle} :
    it.message = some h ↔ it.slotMessage = some h ∨ it = .relay h := by
  cases it with
  | marker what p keyed => cases what <;> simp [Item.message, Item.slotMessage]
  | _ => simp [Item.message, Item.slotMessage]

theorem Item.cls_of_slotMessage {it : Item} {h : Handle} {d : Descriptor} (hit : it.slotMessage = some h)
    (hd : it.suits d) : d.cls ≠ .relay := by
  cases it with
  | header => exact hd.1
  | segment => exact hd.1
  | marker => exact hd
  | _ => cases hit

/-! ### The laws, taken apart -/

/-- The laws of the messages, `it` being the items that the traffic stands for. -/
structure State.Messages (it : ChannelNo → Item) (s : State) : Prop where
  listed : ∀ c p h, (s.chan c).has h p ↔ (s.desc h).isIn c p
  orderly : ∀ c, (s.chan c).orderly
  lawful : ∀ h, (s.desc h).lawful
  unique : ∀ h, (s.desc h).state ≠ .free → s.unique h (s.desc h)
  aired : ∀ c h, (it c).message = some h ↔ (s.desc h).channel = c ∧ (s.desc h).state = .active
  suits : ∀ c h, (it c).message = some h → (it c).suits (s.desc h)
  heads : ∀ c h, it c = .relay h → (s.chan c).relayQ.head? = some h

/-- The laws of the open load. -/
structure State.Loads (s : State) : Prop where
  telex : ∀ c h, (∃ l, s.loadUnit.current = some l ∧ l.target = .telex h c)
    ↔ (s.desc h).channel = c ∧ (s.desc h).state = .loading
  bulletin : ∀ a, (∃ l, s.loadUnit.current = some l ∧ l.target = .bulletin a) ↔ (s.area a).state = .loading
  credit : s.loadOk

/-- The channels whose items key an area. -/
def keyers (it : ChannelNo → Item) (a : AreaNo) : List ChannelNo :=
  allChannels.filter fun c => ((it c).onAirRequest.map fun q => q.2.2) == some a

/-- What an item knows of a request. -/
def Request.key (q : Request) : SlotNo × Nat × AreaNo := (q.slot, q.due, q.area)

/-- The laws of the bulletins. -/
structure State.Bulletins (it : ChannelNo → Item) (s : State) : Prop where
  onAir : ∀ c, ∀ q ∈ (s.chan c).requests, q.state = .onAir ↔ (it c).onAirRequest = some q.key
  asked : ∀ c x, (it c).onAirRequest = some x → ∃ q ∈ (s.chan c).requests, x = q.key
  ordered : s.requestsOk
  count : ∀ a, (s.area a).onAir = (keyers it a).length
  ready : ∀ a, 0 < (s.area a).onAir → (s.area a).state = .ready

/-- The laws of the traffic, `it` being the items that it stands for. -/
structure State.Traffic (it : ChannelNo → Item) (s : State) : Prop where
  messages : s.Messages it
  loads : s.Loads
  bulletins : s.Bulletins it

/-- The items of the channels. -/
def State.items (s : State) (c : ChannelNo) : Item := (s.chan c).item

/-- R104. A channel has an item exactly while it is keyed. -/
def State.keyedOk (s : State) : Prop := ∀ c, (s.chan c).state.keyed = true ↔ (s.chan c).item ≠ .noItem

section
variable {s : State} {it it' : ChannelNo → Item}

theorem State.trafficOk.traffic (hs : s.trafficOk) : s.Traffic s.items := by
  obtain ⟨⟨hqueue, hslot, hsent, htelex, hnodup, hrelay, hchain, hnumber⟩, hitems, htext, hareas, hcredit, hrequests⟩ := hs
  have hlisted (c : ChannelNo) (p : Place) (h : Handle) : (s.chan c).has h p ↔ (s.desc h).isIn c p := by
    cases p with
    | queue k => exact hqueue c k h
    | slot => exact hslot c h
    | sent => exact hsent c h
  refine ⟨⟨hlisted, hnodup, fun h => ?_, fun h hlive g hne hg hc => hnumber g h hne hg hlive hc, fun c h => ?_,
    fun c h hit => ?_, fun c h hit => ?_⟩, ⟨htelex, fun a => (hareas a).2.2, hcredit⟩, fun c => ?_, fun c x hx => ?_, hrequests,
    fun a => (hareas a).1, fun a => (hareas a).2.1⟩
  · exact ⟨hrelay h, hchain h, htext h⟩
  · obtain ⟨-, hown, hair, -⟩ := hitems c
    rw [Item.message_eq_some]
    constructor
    · rintro (hit | hit)
      · obtain ⟨hactive, hstate⟩ := (hown h).1 hit
        exact ⟨((hslot c h).1 hactive).1, hstate⟩
      · obtain ⟨hmem, hstate⟩ := (hair h).1 hit
        exact ⟨((hqueue c .relay h).1 hmem).1, hstate⟩
    · rintro ⟨hc, hstate⟩
      by_cases hcls : (s.desc h).cls = .relay
      · exact .inr ((hair h).2 ⟨(hqueue c .relay h).2 ⟨hc, hcls, .inr (.inr ⟨rfl, hstate⟩)⟩, hstate⟩)
      · exact .inl ((hown h).2 ⟨(hslot c h).2 ⟨hc, hcls, .inl hstate⟩, hstate⟩)
  · obtain ⟨-, hown, hair, hhead, -, -, hheader, hsegment⟩ := hitems c
    have hcls (hsm : (s.chan c).item.slotMessage = some h) : (s.desc h).cls ≠ .relay :=
      ((hslot c h).1 ((hown h).1 hsm).1).2.1
    obtain ⟨i, hi⟩ : ∃ i, i = (s.chan c).item := ⟨_, rfl⟩
    have hgoal : i.message = some h → i.suits (s.desc h) := by
      intro hm
      cases i with
      | header g cost n e cut =>
        cases hm
        exact ⟨hcls (hi ▸ rfl), hheader _ _ _ _ _ hi.symm⟩
      | segment g start e cut =>
        cases hm
        exact ⟨hcls (hi ▸ rfl), hsegment _ _ _ _ hi.symm⟩
      | relay g =>
        cases hm
        exact ⟨((hqueue c .relay h).1 ((hair h).1 hi.symm).1).2.1, (hhead h hi.symm).2⟩
      | marker what p keyed =>
        cases what with
        | request => cases hm
        | message g =>
          cases hm
          exact hcls (hi ▸ rfl)
      | _ => exact trivial
    have hitem : s.items c = i := hi.symm
    rw [hitem] at hit ⊢
    exact hgoal hit
  · exact ((hitems c).2.2.2.1 h hit).1
  · exact (hitems c).2.2.2.2.1
  · exact (hitems c).2.2.2.2.2.1 x hx

theorem State.trafficOk.keyedOk (hs : s.trafficOk) : s.keyedOk := fun c => (hs.2.1 c).1

theorem State.Traffic.trafficOk (hs : s.Traffic s.items) (hkeyed : s.keyedOk) : s.trafficOk := by
  obtain ⟨⟨hlisted, horderly, hlawful, hunique, haired, hsuits, hheads⟩, ⟨htelex, hload, hcredit⟩, honAir, hasked, hordered,
    hcount, hready⟩ := hs
  refine ⟨⟨fun c k h => hlisted c (.queue k) h, fun c h => hlisted c .slot h, fun c h => hlisted c .sent h, htelex, horderly,
    fun h => (hlawful h).1, fun h => (hlawful h).2.1, fun g h hne hg hh hc => hunique h hh g hne hg hc⟩,
    fun c => ⟨hkeyed c, fun h => ?_, fun h => ?_, fun h hit => ⟨hheads c h hit, ?_⟩, honAir c, hasked c, ?_, ?_⟩,
    fun h => (hlawful h).2.2, fun a => ⟨hcount a, hready a, hload a⟩, hcredit, hordered⟩
  · have hslot := hlisted c .slot h
    constructor
    · intro hit
      have hm : (s.items c).message = some h := Item.message_eq_some.2 (.inl hit)
      obtain ⟨hc, hstate⟩ := (haired c h).1 hm
      exact ⟨hslot.2 ⟨hc, Item.cls_of_slotMessage hit (hsuits c h hm), .inl hstate⟩, hstate⟩
    · rintro ⟨hactive, hstate⟩
      obtain ⟨hc, hcls, -⟩ := hslot.1 hactive
      have hm := (haired c h).2 ⟨hc, hstate⟩
      rcases Item.message_eq_some.1 hm with hit | hit
      · exact hit
      · have hrelay := hsuits c h hm
        rw [hit] at hrelay
        exact absurd hrelay.1 hcls
  · have hqueue := hlisted c (.queue .relay) h
    constructor
    · intro hit
      have hm : (s.items c).message = some h := Item.message_eq_some.2 (.inr hit)
      obtain ⟨hc, hstate⟩ := (haired c h).1 hm
      have hrelay := hsuits c h hm
      rw [show s.items c = .relay h from hit] at hrelay
      exact ⟨hqueue.2 ⟨hc, hrelay.1, .inr (.inr ⟨rfl, hstate⟩)⟩, hstate⟩
    · rintro ⟨hmem, hstate⟩
      obtain ⟨hc, hcls, -⟩ := hqueue.1 hmem
      have hm := (haired c h).2 ⟨hc, hstate⟩
      rcases Item.message_eq_some.1 hm with hit | hit
      · exact absurd hcls (Item.cls_of_slotMessage hit (hsuits c h hm))
      · exact hit
  · have hrelay := hsuits c h (Item.message_eq_some.2 (.inr hit))
    rw [show s.items c = .relay h from hit] at hrelay
    exact hrelay.2
  · intro h cost n e cut hit
    have hheader := hsuits c h (by rw [State.items, hit]; rfl)
    rw [show s.items c = .header h cost n e cut from hit] at hheader
    exact hheader.2
  · intro h start e cut hit
    have hsegment := hsuits c h (by rw [State.items, hit]; rfl)
    rw [show s.items c = .segment h start e cut from hit] at hsegment
    exact hsegment.2

end

end Sys2Proof.Machine
end

section
/-! Rules of the traffic, one for each thing that happens to a message: it leaves its place, comes to another, or stays and
changes. -/

namespace Sys2Proof.Machine

/-! ### What the laws read -/

/-- The fields of a descriptor that the laws of the traffic read. -/
def Descriptor.traffic (d : Descriptor) : Descriptor :=
  { Descriptor.reset with
    state := d.state, channel := d.channel, number := d.number, cls := d.cls, length := d.length, resume := d.resume
    chain := d.chain }

theorem Descriptor.isIn_traffic {d : Descriptor} {c : ChannelNo} {p : Place} : d.traffic.isIn c p ↔ d.isIn c p := by
  cases p <;> exact Iff.rfl

theorem Descriptor.lawful_traffic {d : Descriptor} : d.traffic.lawful ↔ d.lawful := Iff.rfl

theorem Item.suits_traffic {it : Item} {d : Descriptor} : it.suits d.traffic ↔ it.suits d := by
  cases it <;> exact Iff.rfl

/-- The lists of messages of a channel. -/
def Channel.mail (ch : Channel) : Channel :=
  { Channel.reset false with
    relayQ := ch.relayQ, urgentQ := ch.urgentQ, ordinaryQ := ch.ordinaryQ, active := ch.active, sent := ch.sent }

/-- The fields of a channel that the laws of the traffic read, its item apart. -/
def Channel.traffic (ch : Channel) : Channel := { ch.mail with requests := ch.requests }

theorem Channel.has_mail {ch : Channel} {h : Handle} {p : Place} : ch.mail.has h p ↔ ch.has h p := by
  cases p with
  | queue k => cases k <;> exact Iff.rfl
  | _ => exact Iff.rfl

theorem Channel.orderly_mail {ch : Channel} : ch.mail.orderly ↔ ch.orderly := by
  refine and_congr (forall_congr' fun k => ?_) Iff.rfl
  cases k <;> exact Iff.rfl

theorem Channel.mail_of_traffic {a b : Channel} (h : a.traffic = b.traffic) : a.mail = b.mail :=
  (congrArg Channel.mail h : a.traffic.mail = b.traffic.mail)

/-- Nothing that the laws of the traffic read has changed, the items apart. -/
structure State.SameTraffic (s t : State) : Prop where
  desc : ∀ h, (t.desc h).traffic = (s.desc h).traffic
  chan : ∀ c, (t.chan c).traffic = (s.chan c).traffic
  area : ∀ a, t.area a = s.area a
  load : t.loadUnit.current = s.loadUnit.current

section
variable {s t u : State} {it it' : ChannelNo → Item} {h : Handle} {c : ChannelNo} {d' : Descriptor}

theorem State.SameTraffic.refl (s : State) : s.SameTraffic s := ⟨fun _ => rfl, fun _ => rfl, fun _ => rfl, rfl⟩

theorem State.SameTraffic.trans (h : s.SameTraffic t) (g : t.SameTraffic u) : s.SameTraffic u :=
  ⟨fun i => (g.desc i).trans (h.desc i), fun i => (g.chan i).trans (h.chan i), fun i => (g.area i).trans (h.area i),
    g.load.trans h.load⟩

theorem State.SameTraffic.of_parts (hdescs : t.descs = s.descs) (hchannels : t.channels = s.channels)
    (hareas : t.store.areas = s.store.areas) (hload : t.loadUnit.current = s.loadUnit.current) : s.SameTraffic t :=
  ⟨fun h => congrArg (fun v => (vget v h).traffic) hdescs, fun c => congrArg (fun v => (vget v c).traffic) hchannels,
    fun a => congrArg (vget · a) hareas, hload⟩

theorem State.SameTraffic.setChan {x : Channel} (hx : x.traffic = (s.chan c).traffic := by exact rfl) :
    s.SameTraffic (s.setChan c x) := by
  refine ⟨fun _ => rfl, fun d => ?_, fun _ => rfl, rfl⟩
  rw [State.chan_setChan]
  split
  · next hd => rw [hx, hd]
  · rfl

theorem State.SameTraffic.modChan {f : Channel → Channel} (hf : (f (s.chan c)).traffic = (s.chan c).traffic := by exact rfl) :
    s.SameTraffic (s.modChan c f) := .setChan hf

theorem State.SameTraffic.setDesc (hd : d'.traffic = (s.desc h).traffic := by exact rfl) : s.SameTraffic (s.setDesc h d') := by
  refine ⟨fun g => ?_, fun _ => rfl, fun _ => rfl, rfl⟩
  rw [State.desc_setDesc]
  split
  · next hg => rw [hd, hg]
  · rfl

/-! ### The laws of the load and of the bulletins beside a message -/

theorem State.Loads.congr (hs : s.Loads) (hdesc : ∀ h, (t.desc h).traffic = (s.desc h).traffic
      ∨ (s.desc h).state ≠ .loading ∧ (t.desc h).state ≠ .loading)
    (harea : ∀ a, (t.area a).state = (s.area a).state ∧ (t.area a).length = (s.area a).length)
    (hload : t.loadUnit.current = s.loadUnit.current) : t.Loads := by
  refine ⟨fun c h => ?_, fun a => ?_, fun l hl => ?_⟩
  · rw [hload, hs.telex]
    rcases hdesc h with hd | ⟨hold, hnew⟩
    · have hc : (t.desc h).channel = (s.desc h).channel := (congrArg Descriptor.channel hd :)
      have hstate : (t.desc h).state = (s.desc h).state := (congrArg Descriptor.state hd :)
      rw [hc, hstate]
    · simp [hold, hnew]
  · rw [hload, (harea a).1]
    exact hs.bulletin a
  · rw [hload] at hl
    obtain ⟨hcredit, hcount, htelex, hbulletin⟩ := hs.credit l hl
    refine ⟨hcredit, hcount, fun h c ht => ?_, fun a ha => by
      rw [(harea a).2]; exact hbulletin a ha⟩
    have hd : (t.desc h).traffic = (s.desc h).traffic :=
      (hdesc h).resolve_right fun hno => hno.1 ((hs.telex c h).1 ⟨l, hl, ht⟩).2
    have hchain : (t.desc h).chain = (s.desc h).chain := (congrArg Descriptor.chain hd :)
    have hlength : (t.desc h).length = (s.desc h).length := (congrArg Descriptor.length hd :)
    rw [hchain, hlength]
    exact htelex h c ht

theorem State.Bulletins.congr (hs : s.Bulletins it) (hrequests : ∀ c, (t.chan c).requests = (s.chan c).requests)
    (harea : ∀ a, t.area a = s.area a) (hit : ∀ c, (it' c).onAirRequest = (it c).onAirRequest) : t.Bulletins it' := by
  have hkeyers (a : AreaNo) : keyers it' a = keyers it a := List.filter_congr fun c _ => by rw [hit]
  refine ⟨fun c q hq => ?_, fun c x hx => ?_, fun c => ?_, fun a => ?_, fun a ha => ?_⟩
  · rw [hit]
    exact hs.onAir c q (hrequests c ▸ hq)
  · rw [hit] at hx
    rw [hrequests]
    exact hs.asked c x hx
  · rw [hrequests]
    exact hs.ordered c
  · rw [harea, hkeyers]
    exact hs.count a
  · rw [harea] at ha ⊢
    exact hs.ready a ha

/-! ### The message itself -/

theorem State.Messages.congr (hs : s.Messages it) (hdesc : ∀ h, (t.desc h).traffic = (s.desc h).traffic)
    (hchan : ∀ c, (t.chan c).mail = (s.chan c).mail) : t.Messages it := by
  have hstate (h : Handle) : (t.desc h).state = (s.desc h).state := (congrArg Descriptor.state (hdesc h) :)
  have hhome (h : Handle) : (t.desc h).channel = (s.desc h).channel := (congrArg Descriptor.channel (hdesc h) :)
  have hnumber (h : Handle) : (t.desc h).number = (s.desc h).number := (congrArg Descriptor.number (hdesc h) :)
  refine ⟨fun c p h => ?_, fun c => ?_, fun h => ?_, fun h hh g hne hg hc => ?_, fun c h => ?_, fun c h hit => ?_,
    fun c h hit => ?_⟩
  · rw [← Channel.has_mail, ← Descriptor.isIn_traffic, hchan, hdesc, Channel.has_mail, Descriptor.isIn_traffic]
    exact hs.listed c p h
  · rw [← Channel.orderly_mail, hchan, Channel.orderly_mail]
    exact hs.orderly c
  · rw [← Descriptor.lawful_traffic, hdesc, Descriptor.lawful_traffic]
    exact hs.lawful h
  · rw [hstate] at hh hg
    rw [hhome, hhome] at hc
    rw [hnumber, hnumber]
    exact hs.unique h hh g hne hg hc
  · rw [hhome, hstate]
    exact hs.aired c h
  · rw [← Item.suits_traffic, hdesc, Item.suits_traffic]
    exact hs.suits c h hit
  · have hrelay : (t.chan c).relayQ = (s.chan c).relayQ := (congrArg Channel.relayQ (hchan c) :)
    rw [hrelay]
    exact hs.heads c h hit

/-- Whatever happens to one message, in the terms of its new descriptor and the items that then stand for it. -/
theorem State.Messages.step (hs : s.Messages it) (hdesc : ∀ g, t.desc g = if g = h then d' else s.desc g)
    (hhas : ∀ c p g, (t.chan c).has g p ↔ if g = h then d'.isIn c p else (s.chan c).has g p)
    (horderly : ∀ c, (t.chan c).orderly) (hlawful : d'.lawful) (hunique : d'.state ≠ .free → s.unique h d')
    (hother : ∀ c g, g ≠ h → (it c).message = some g ∨ (it' c).message = some g → it' c = it c)
    (haired : ∀ c, (it' c).message = some h ↔ d'.channel = c ∧ d'.state = .active)
    (hsuits : ∀ c, (it' c).message = some h → (it' c).suits d')
    (hheads : ∀ c g, it' c = .relay g → (t.chan c).relayQ.head? = some g) : t.Messages it' := by
  refine ⟨fun c p g => ?_, horderly, fun g => ?_, fun g hg f hne hf hc => ?_, fun c g => ?_, fun c g hit => ?_, hheads⟩
  · rw [hhas, hdesc]
    split
    · exact Iff.rfl
    · exact hs.listed c p g
  · rw [hdesc]
    split
    · exact hlawful
    · exact hs.lawful g
  · rw [hdesc] at hg
    rw [hdesc, hdesc] at hc ⊢
    rw [hdesc] at hf
    by_cases hgh : g = h
    · have hfh : f ≠ h := hgh ▸ hne
      rw [if_pos hgh] at hg hc ⊢
      rw [if_neg hfh] at hf hc ⊢
      exact hunique hg f hfh hf hc
    · rw [if_neg hgh] at hg hc ⊢
      by_cases hfh : f = h
      · rw [if_pos hfh] at hf hc ⊢
        exact (hunique hf g hgh hg hc.symm).symm
      · rw [if_neg hfh] at hf hc ⊢
        exact hs.unique g hg f hne hf hc
  · rw [hdesc]
    by_cases hgh : g = h
    · rw [if_pos hgh, hgh]
      exact haired c
    · rw [if_neg hgh, ← hs.aired]
      constructor
      · intro hit
        rwa [← hother c g hgh (.inr hit)]
      · intro hit
        rwa [hother c g hgh (.inl hit)]
  · rw [hdesc]
    by_cases hgh : g = h
    · rw [if_pos hgh]
      exact hsuits c (hgh ▸ hit)
    · rw [if_neg hgh]
      have hsame := hother c g hgh (.inr hit)
      rw [hsame] at hit ⊢
      exact hs.suits c g hit

/-- The items stand for other items with the same messages. -/
theorem State.Messages.items (hs : s.Messages it) (hmessage : ∀ c, (it' c).message = (it c).message)
    (hsuits : ∀ c h, (it c).message = some h → (it c).suits (s.desc h) → (it' c).suits (s.desc h))
    (hrelay : ∀ c h, it' c = .relay h → it c = .relay h) : s.Messages it' :=
  { hs with
    aired := fun c h => by rw [hmessage]; exact hs.aired c h
    suits := fun c h hit => by
      rw [hmessage] at hit
      exact hsuits c h hit (hs.suits c h hit)
    heads := fun c h hit => hs.heads c h (hrelay c h hit) }

end

end Sys2Proof.Machine
end

section
/-! Moves of a message: it is taken out of its place, and goes to the head of its queue, to the sent list, to the active
slot, or to none. -/

namespace Sys2Proof.Machine

/-! ### Lists that lose or gain a message -/

section
variable {ch : Channel} {g h : Handle} {k : MsgClass} {p : Place}

theorem Channel.has_detach : (ch.detach h).has g p ↔ g ≠ h ∧ ch.has g p := by
  cases p with
  | queue k =>
    show g ∈ (ch.detach h).queue k ↔ _
    rw [Channel.queue_detach, List.mem_filter]
    simp [Channel.has, and_comm]
  | slot =>
    show (if ch.active = some h then none else ch.active) = some g ↔ _
    show _ ↔ g ≠ h ∧ ch.active = some g
    split
    · next ha =>
      rw [ha]
      simp [eq_comm]
    · next ha =>
      constructor
      · intro hg
        exact ⟨fun he => ha (he ▸ hg), hg⟩
      · exact fun hg => hg.2
  | sent =>
    show g ∈ ch.sent.filter (· ≠ h) ↔ _
    simp [Channel.has, List.mem_filter, and_comm]

theorem Channel.orderly_detach (hch : ch.orderly) : (ch.detach h).orderly :=
  ⟨fun k => by rw [Channel.queue_detach]; exact (hch.1 k).filter _, hch.2.filter _⟩

theorem Channel.has_setQueue {q : List Handle} : (ch.setQueue k q).has g p ↔ if p = .queue k then g ∈ q else ch.has g p := by
  cases p with
  | queue j =>
    show g ∈ (ch.setQueue k q).queue j ↔ _
    rw [Channel.queue_setQueue]
    by_cases hj : j = k
    · simp [hj]
    · have hp : ¬Place.queue j = .queue k := fun he => hj (Place.queue.inj he)
      rw [if_neg hj, if_neg hp]
      exact Iff.rfl
  | slot =>
    show (ch.setQueue k q).active = some g ↔ _
    rw [Channel.active_setQueue, if_neg nofun]
    exact Iff.rfl
  | sent =>
    show g ∈ (ch.setQueue k q).sent ↔ _
    rw [Channel.sent_setQueue, if_neg nofun]
    exact Iff.rfl

/-- A queue that gains one message. -/
theorem Channel.has_setQueue_of_mem {q : List Handle} (hq : g ∈ q ↔ g = h ∨ g ∈ ch.queue k) :
    (ch.setQueue k q).has g p ↔ (g = h ∧ p = .queue k) ∨ ch.has g p := by
  rw [Channel.has_setQueue]
  split
  · next hp =>
    subst hp
    simpa [Channel.has] using hq
  · next hp => simp [hp]

theorem Channel.orderly_setQueue {q : List Handle} (hch : ch.orderly) (hq : q.Nodup) : (ch.setQueue k q).orderly := by
  refine ⟨fun j => ?_, ?_⟩
  · rw [Channel.queue_setQueue]
    split
    · exact hq
    · exact hch.1 j
  · rw [Channel.sent_setQueue]
    exact hch.2

theorem Channel.relayQ_setQueue {q : List Handle} (hk : k ≠ .relay) : (ch.setQueue k q).relayQ = ch.relayQ := by
  cases k with
  | relay => exact absurd rfl hk
  | _ => rfl

/-- The head of a list stays while another message leaves it. -/
theorem head?_filter_ne {l : List Handle} (hl : l.head? = some g) (hne : g ≠ h) : (l.filter (· ≠ h)).head? = some g := by
  cases l with
  | nil => cases hl
  | cons x xs =>
    cases hl
    rw [List.filter_cons_of_pos (by simpa using hne)]
    rfl

end

/-! ### Items whose message has left -/

/-- An item that stands for no message and no request. -/
def Item.blank (it : Item) : Prop := it.message = none ∧ it.onAirRequest = none

/-- What an item stands for once a message has left the air. -/
def Item.left (it : Item) (h : Handle) : Item := if it.message = some h then .idle else it

section
variable {i : Item} {g h : Handle}

theorem Item.message_left : (i.left h).message = some g ↔ g ≠ h ∧ i.message = some g := by
  unfold Item.left
  split
  · next hm =>
    rw [hm]
    simp [Item.message, eq_comm]
  · next hm =>
    constructor
    · intro hg
      exact ⟨fun he => hm (he ▸ hg), hg⟩
    · exact fun hg => hg.2

theorem Item.left_of_ne (hm : i.message ≠ some h) : i.left h = i := if_neg hm

theorem Item.onAirRequest_of_message (hm : i.message = some h) : i.onAirRequest = none := by
  cases i with
  | marker what => cases what with
    | message => rfl
    | request => cases hm
  | bulletin => cases hm
  | _ => rfl

theorem Item.onAirRequest_left : (i.left h).onAirRequest = i.onAirRequest := by
  unfold Item.left
  split
  · next hm => rw [Item.onAirRequest_of_message hm]; rfl
  · rfl

end

section
variable {s t : State} {it it' : ChannelNo → Item} {h : Handle} {c : ChannelNo} {d' : Descriptor}

/-- Items that stand for nothing may stand for one another. -/
theorem State.Traffic.recast (hs : s.Traffic it) (hit : ∀ c, it' c = it c ∨ (it c).blank ∧ (it' c).blank) : s.Traffic it' := by
  refine ⟨hs.messages.items (fun c => ?_) (fun c h hm hsuits => ?_) fun c h hr => ?_, hs.loads,
    hs.bulletins.congr (fun _ => rfl) (fun _ => rfl) fun c => ?_⟩
  · rcases hit c with he | ⟨hold, hnew⟩
    · rw [he]
    · rw [hold.1, hnew.1]
  · rcases hit c with he | ⟨hold, -⟩
    · rwa [he]
    · rw [hold.1] at hm
      cases hm
  · rcases hit c with he | ⟨-, hnew⟩
    · rwa [← he]
    · rw [hr] at hnew
      cases hnew.1
  · rcases hit c with he | ⟨hold, hnew⟩
    · rw [he]
    · rw [hold.2, hnew.2]

theorem State.Traffic.congr (hs : s.Traffic it) (hsame : s.SameTraffic t) : t.Traffic it :=
  ⟨hs.messages.congr hsame.desc fun c => Channel.mail_of_traffic (hsame.chan c), hs.loads.congr
    (fun h => .inl (hsame.desc h)) (fun a => by rw [hsame.area]; exact ⟨rfl, rfl⟩) hsame.load,
    hs.bulletins.congr (fun c => (congrArg Channel.requests (hsame.chan c) :)) hsame.area fun _ => rfl⟩

/-- A message that is not on the air is no item's. -/
theorem State.Messages.left_eq (hs : s.Messages it) (hstate : (s.desc h).state ≠ .active) : (fun c => (it c).left h) = it :=
  funext fun c => Item.left_of_ne fun hm => hstate ((hs.aired c h).1 hm).2

/-- The same handle, channel and number: the descriptor of a live message stays the only one. -/
theorem State.Messages.unique_of (hs : s.Messages it) (hlive : (s.desc h).state ≠ .free)
    (hc : d'.channel = (s.desc h).channel) (hn : d'.number = (s.desc h).number) : s.unique h d' := by
  unfold State.unique
  rw [hc, hn]
  exact hs.unique h hlive

/-! ### A message leaves its place for another -/

/-- R63. A message is taken out of its channel's lists and goes to the places `N`, none of them on the air. -/
theorem State.Messages.moved {N : Place → Prop} {x : Channel} (hs : s.Messages it)
    (hdesc : ∀ g, t.desc g = if g = h then d' else s.desc g)
    (hchan : ∀ c, t.chan c = if c = (s.desc h).channel then x else s.chan c)
    (hx : ∀ g p, x.has g p ↔ (g = h ∧ N p) ∨ ((s.chan (s.desc h).channel).detach h).has g p) (horderly : x.orderly)
    (hin : ∀ c p, d'.isIn c p ↔ c = (s.desc h).channel ∧ N p) (hactive : d'.state ≠ .active) (hlawful : d'.lawful)
    (hunique : d'.state ≠ .free → s.unique h d')
    (hhead : ∀ g, g ≠ h → it (s.desc h).channel = .relay g → x.relayQ.head? = some g) :
    t.Messages fun c => (it c).left h := by
  refine hs.step hdesc (fun c p g => ?_) (fun c => ?_) hlawful hunique (fun c g hne hm => ?_) (fun c => ?_) (fun c hm => ?_)
    fun c g hr => ?_
  · rw [hchan]
    by_cases hc : c = (s.desc h).channel
    · rw [if_pos hc, hx, Channel.has_detach, hin, hc]
      by_cases hg : g = h <;> simp [hg]
    · rw [if_neg hc]
      by_cases hg : g = h
      · rw [if_pos hg, hin, hg, hs.listed]
        refine iff_of_false (fun hi => hc ?_) fun hi => hc hi.1
        cases p <;> exact hi.1.symm
      · rw [if_neg hg]
  · rw [hchan]
    split
    · exact horderly
    · exact hs.orderly c
  · refine Item.left_of_ne fun hh => ?_
    rcases hm with hm | hm
    · exact hne (Option.some.inj (hm.symm.trans hh))
    · have hg := (Item.message_left.1 hm).2
      exact hne (Option.some.inj (hg.symm.trans hh))
  · exact iff_of_false (fun hm => (Item.message_left.1 hm).1 rfl) fun hd => hactive hd.2
  · exact absurd rfl (Item.message_left.1 hm).1
  · obtain ⟨hne, hold⟩ := Item.message_left.1 (show ((it c).left h).message = some g by rw [hr]; rfl)
    have hitem : it c = .relay g := by
      rwa [Item.left_of_ne fun hh => hne (Option.some.inj (hold.symm.trans hh))] at hr
    rw [hchan]
    split
    · next hc => exact hhead g hne (hc ▸ hitem)
    · exact hs.heads c g hitem

/-- The laws of the load and of the bulletins beside a message that moves. -/
theorem State.Traffic.of_moved (hs : s.Traffic it) (hmessages : t.Messages fun c => (it c).left h)
    (hdesc : ∀ g, t.desc g = if g = h then d' else s.desc g) (hold : (s.desc h).state ≠ .loading)
    (hnew : d'.state ≠ .loading) (hrequests : ∀ c, (t.chan c).requests = (s.chan c).requests)
    (harea : ∀ a, t.area a = s.area a) (hload : t.loadUnit.current = s.loadUnit.current) :
    t.Traffic fun c => (it c).left h := by
  refine ⟨hmessages, hs.loads.congr (fun g => ?_) (fun a => by rw [harea]; exact ⟨rfl, rfl⟩) hload,
    hs.bulletins.congr hrequests harea fun c =>
    Item.onAirRequest_left⟩
  rw [hdesc]
  split
  · next hg => exact .inr ⟨hg ▸ hold, hnew⟩
  · exact .inl rfl

/-- R64. A message returns to the head of its queue. -/
theorem State.Traffic.toHead {f : Descriptor → Descriptor} (hs : s.Traffic it) (hlive : (s.desc h).state ∉ [.free, .loading])
    (hrelay : (s.desc h).cls = .relay → (s.desc h).state = .active)
    (hstate : (f (s.desc h)).state = .ready ∨ (f (s.desc h)).state = .suspended ∧ (s.desc h).cls ≠ .relay)
    (hresume : (f (s.desc h)).resume ≤ (s.desc h).resume)
    (hsame : (f (s.desc h)).channel = (s.desc h).channel ∧ (f (s.desc h)).number = (s.desc h).number
      ∧ (f (s.desc h)).cls = (s.desc h).cls ∧ (f (s.desc h)).length = (s.desc h).length) :
    (s.toHead h f).Traffic fun c => (it c).left h := by
  obtain ⟨hc, hn, hk, hl⟩ := hsame
  simp only [List.mem_cons, List.not_mem_nil, or_false, not_or] at hlive
  obtain ⟨hfree, hloading⟩ := hlive
  obtain ⟨-, -, hr, hlen, hpos⟩ := hs.messages.lawful h
  have hheq := State.toHead_eq s h f
  have hdesc (g : Handle) : (s.toHead h f).desc g = if g = h then f (s.desc h) else s.desc g := by
    rw [hheq]
    exact State.desc_setDesc ..
  have hstates : (f (s.desc h)).state ≠ .free ∧ (f (s.desc h)).state ≠ .loading ∧ (f (s.desc h)).state ≠ .active := by
    rcases hstate with he | ⟨he, -⟩ <;> rw [he] <;> decide
  have hunlisted : h ∉ ((s.chan (s.desc h).channel).detach h).queue (s.desc h).cls := by
    rw [Channel.queue_detach]
    simp
  refine State.Traffic.of_moved hs (hs.messages.moved (N := (· = .queue (s.desc h).cls)) hdesc (fun c => ?_) (fun g p =>
    Channel.has_setQueue_of_mem List.mem_cons) (Channel.orderly_setQueue (Channel.orderly_detach (hs.messages.orderly _))
    (List.nodup_cons.2 ⟨hunlisted, (Channel.orderly_detach (hs.messages.orderly _)).1 _⟩)) (fun c p => ?_) hstates.2.2 ?_
    (fun _ => hs.messages.unique_of hfree hc hn) fun g hne hit => ?_) hdesc hloading hstates.2.1 (fun c => ?_) (fun a => ?_) ?_
  · rw [hheq, State.chan_setChan]
    rfl
  · rcases hstate with he | ⟨he, hcls⟩
    · cases p <;> simp [Descriptor.isIn, he, hc, hk, eq_comm]
    · cases p <;> simp [Descriptor.isIn, he, hc, hk, eq_comm]
  · refine ⟨fun hcls hmem => ?_, fun he => absurd he hstates.1, by omega, by omega, fun _ _ => by
      rw [hl]; exact hpos hfree hloading⟩
    rcases hstate with he | ⟨he, hno⟩
    · simp [he] at hmem
    · exact hno (hk ▸ hcls)
  · by_cases hcls : (s.desc h).cls = .relay
    · have hm := (hs.messages.aired (s.desc h).channel h).2 ⟨rfl, hrelay hcls⟩
      rw [hit] at hm
      exact absurd (Option.some.inj hm) hne
    · rw [Channel.relayQ_setQueue hcls]
      exact head?_filter_ne (hs.messages.heads _ g hit) hne
  · exact (congrArg Channel.requests (State.rest_toHead (c := c) f) :)
  · rw [hheq]
    rfl
  · rw [hheq]
    rfl

/-- R124, R142. A message that is not a relay is SUSPENDED. -/
theorem State.Traffic.suspend (hs : s.Traffic it) (hlive : (s.desc h).state ∉ [.free, .loading])
    (hcls : (s.desc h).cls ≠ .relay) : (s.suspend h).Traffic fun c => (it c).left h :=
  hs.toHead hlive (fun he => absurd he hcls) (.inr ⟨rfl, hcls⟩) (Nat.le_refl _) ⟨rfl, rfl, rfl, rfl⟩

/-- R73, R74, R82. A message returns READY, a relay only from the air. -/
theorem State.Traffic.requeueReady (hs : s.Traffic it) (hlive : (s.desc h).state ∉ [.free, .loading])
    (hrelay : (s.desc h).cls = .relay → (s.desc h).state = .active) :
    (s.requeueReady h).Traffic fun c => (it c).left h :=
  hs.toHead hlive hrelay (.inl rfl) (Nat.zero_le _) ⟨rfl, rfl, rfl, rfl⟩

theorem Descriptor.lawful_reset : Descriptor.reset.lawful := by
  refine ⟨fun _ => ?_, fun _ => rfl, Nat.le_refl _, Nat.zero_le _, fun h => absurd rfl h⟩
  decide

/-- R61, R63. A message leaves every place. -/
theorem State.Messages.freeMessage (hs : s.Messages it) : (s.freeMessage h).Messages fun c => (it c).left h := by
  refine hs.moved (N := fun _ => False) (fun g => State.desc_freeMessage) (fun c => ?_)
    (x := (s.chan (s.desc h).channel).detach h) (fun g p => by simp) (Channel.orderly_detach (hs.orderly _)) (fun c p => ?_)
    nofun Descriptor.lawful_reset (fun hno => absurd rfl hno) fun g hne hit => head?_filter_ne (hs.heads _ g hit) hne
  · exact State.chan_setChan ..
  · cases p <;> simp [Descriptor.isIn, Descriptor.reset]

theorem State.Traffic.freeMessage (hs : s.Traffic it) (hold : (s.desc h).state ≠ .loading) :
    (s.freeMessage h).Traffic fun c => (it c).left h :=
  hs.of_moved hs.messages.freeMessage (fun _ => State.desc_freeMessage) hold nofun
    (fun _ => (congrArg Channel.requests State.rest_freeMessage :)) (fun _ => rfl) rfl

/-- R66, R67. A message of the slot goes to the tail of the sent list. -/
theorem State.Traffic.toSent (hs : s.Traffic it) (hactive : (s.desc h).state = .active) (hcls : (s.desc h).cls ≠ .relay) :
    (s.toSent h).Traffic fun c => (it c).left h := by
  obtain ⟨-, -, hr, hlen, hpos⟩ := hs.messages.lawful h
  have hdesc (g : Handle) : (s.toSent h).desc g = if g = h then { s.desc h with
      state := .awaitAck
      ackDue := if (s.chan (s.desc h).channel).settings.ackTimeout = 0 then none
        else some (s.clock.elapsed + (s.chan (s.desc h).channel).settings.ackTimeout * 1000) } else s.desc g :=
    State.desc_setDesc ..
  have hchan (c : ChannelNo) : (s.toSent h).chan c = if c = (s.desc h).channel then { (s.chan (s.desc h).channel).detach h with
      sent := ((s.chan (s.desc h).channel).detach h).sent ++ [h] } else s.chan c := by
    rw [State.toSent_eq, State.chan_setChan]
    rfl
  have hunlisted : h ∉ ((s.chan (s.desc h).channel).detach h).sent := by
    simp [Channel.detach]
  have horderly := Channel.orderly_detach (h := h) (hs.messages.orderly (s.desc h).channel)
  refine hs.of_moved (hs.messages.moved (N := (· = .sent)) hdesc hchan (fun g p => ?_) ⟨horderly.1, ?_⟩ (fun c p => ?_) nofun ?_
    (fun _ => ?_) fun g hne hit => ?_) hdesc
    (by rw [hactive]; decide) nofun (fun c => ?_) (fun _ => rfl) rfl
  · cases p with
    | sent =>
      show g ∈ ((s.chan (s.desc h).channel).detach h).sent ++ [h] ↔ _
      rw [List.mem_append, List.mem_singleton, or_comm]
      simp [Channel.has]
    | _ => simp [Channel.has, Channel.queue]
  · exact List.nodup_append.2 ⟨horderly.2, List.nodup_singleton h, fun a ha b hb he => hunlisted (by
      rw [List.mem_singleton.1 hb] at he; exact he ▸ ha)⟩
  · cases p <;> simp [Descriptor.isIn, eq_comm]
  · exact ⟨fun he => absurd he hcls, nofun, hr, hlen, fun _ _ => hpos (by rw [hactive]; decide) (by rw [hactive]; decide)⟩
  · exact hs.messages.unique_of (by rw [hactive]; decide) rfl rfl
  · exact head?_filter_ne (hs.messages.heads _ g hit) hne
  · rw [hchan]
    split
    · next hc => rw [hc]; rfl
    · rfl

end

end Sys2Proof.Machine
end

section
/-! Rules of the traffic for a message that stays in its place or goes on the air, for the credit of the open load (R50,
R51), and for a message that is freed with its notice (R42, R81). -/

namespace Sys2Proof.Machine

section
variable {s t : State} {it it' : ChannelNo → Item} {h : Handle} {c : ChannelNo} {d' : Descriptor} {i : Item}

/-! ### A message that stays in its place -/

theorem State.Messages.setDesc (hs : s.Messages it) (hin : ∀ c p, d'.isIn c p ↔ (s.desc h).isIn c p) (hlawful : d'.lawful)
    (hunique : d'.state ≠ .free → s.unique h d')
    (hother : ∀ c g, g ≠ h → (it c).message = some g ∨ (it' c).message = some g → it' c = it c)
    (haired : ∀ c, (it' c).message = some h ↔ d'.channel = c ∧ d'.state = .active)
    (hsuits : ∀ c, (it' c).message = some h → (it' c).suits d')
    (hheads : ∀ c g, it' c = .relay g → (s.chan c).relayQ.head? = some g) : (s.setDesc h d').Messages it' := by
  refine hs.step (fun g => State.desc_setDesc ..) (fun c p g => ?_) hs.orderly hlawful hunique hother haired hsuits hheads
  show (s.chan c).has g p ↔ _
  split
  · next hg => rw [hs.listed, hin, hg]
  · exact Iff.rfl

/-- A message that stays in its place off the air. -/
theorem State.Traffic.setDesc_off_air (hs : s.Traffic it) (hin : ∀ c p, d'.isIn c p ↔ (s.desc h).isIn c p)
    (hlawful : d'.lawful) (hlive : (s.desc h).state ∉ [.free, .loading]) (hstate : d'.state ∉ [.loading, .active])
    (hc : d'.channel = (s.desc h).channel) (hn : d'.number = (s.desc h).number) :
    (s.setDesc h d').Traffic fun c => (it c).left h := by
  simp only [List.mem_cons, List.not_mem_nil, or_false, not_or] at hlive hstate
  refine hs.of_moved (hs.messages.setDesc hin hlawful (fun _ => hs.messages.unique_of hlive.1 hc hn) (fun c g hne hm => ?_)
    (fun c => ?_) (fun c hm => absurd rfl (Item.message_left.1 hm).1) fun c g hr => ?_) (fun g => State.desc_setDesc ..)
    hlive.2 hstate.1 (fun _ => rfl) (fun _ => rfl) rfl
  · refine Item.left_of_ne fun hh => ?_
    rcases hm with hm | hm
    · exact hne (Option.some.inj (hm.symm.trans hh))
    · exact hne (Option.some.inj ((Item.message_left.1 hm).2.symm.trans hh))
  · exact iff_of_false (fun hm => (Item.message_left.1 hm).1 rfl) fun hd => hstate.2 hd.2
  · obtain ⟨hne, hold⟩ := Item.message_left.1 (show ((it c).left h).message = some g by rw [hr]; rfl)
    rw [Item.left_of_ne fun hh => hne (Option.some.inj (hold.symm.trans hh))] at hr
    exact hs.messages.heads c g hr

/-- R124. An ACTIVE message of the slot is PARKED. -/
theorem State.Traffic.park (hs : s.Traffic it) (hactive : (s.desc h).state = .active) (hcls : (s.desc h).cls ≠ .relay) :
    (s.setDesc h { s.desc h with state := .parked }).Traffic fun c => (it c).left h := by
  obtain ⟨-, -, hr, hlen, hpos⟩ := hs.messages.lawful h
  refine hs.setDesc_off_air (fun c p => ?_) ⟨fun he => absurd he hcls, nofun, hr, hlen, fun _ _ => ?_⟩ (by simp [hactive])
    (by simp) rfl rfl
  · cases p <;> simp [Descriptor.isIn, hactive]
    exact fun _ hk hrelay => hcls (hk.trans hrelay)
  · exact hpos (by rw [hactive]; decide) (by rw [hactive]; decide)

/-- R70. A message that waits for its acknowledgement is UNCONFIRMED. -/
theorem State.Traffic.timeOut (hs : s.Traffic it) (hawait : (s.desc h).state = .awaitAck) : (s.timeOut h).Traffic it := by
  obtain ⟨hrelay, -, hr, hlen, hpos⟩ := hs.messages.lawful h
  have hlawful : Descriptor.lawful { s.desc h with state := .unconfirmed, ackDue := none } := by
    refine ⟨fun he => absurd ?_ (hrelay he), nofun, hr, hlen, fun _ _ => ?_⟩
    · simp [hawait]
    · exact hpos (by rw [hawait]; decide) (by rw [hawait]; decide)
  have hset := hs.setDesc_off_air (h := h) (d' := { s.desc h with state := .unconfirmed, ackDue := none }) (fun c p => by
    cases p <;> simp [Descriptor.isIn, hawait]) hlawful (by simp [hawait]) (by simp) rfl rfl
  rw [hs.messages.left_eq (by rw [hawait]; decide)] at hset
  exact hset.congr (.of_parts rfl rfl rfl rfl)

/-! ### A message on the air -/

theorem State.Messages.onAir (hs : s.Messages it) (hold : (it c).message = none ∨ (it c).message = some h)
    (hi : i.message = some h) (hc : (s.desc h).channel = c) (hlive : (s.desc h).state ≠ .free) (hsuits : i.suits d')
    (hd' : d'.channel = c ∧ d'.number = (s.desc h).number ∧ d'.state = .active) (hlawful : d'.lawful)
    (hdesc : ∀ g, t.desc g = if g = h then d' else s.desc g)
    (hhas : ∀ c p g, (t.chan c).has g p ↔ if g = h then d'.isIn c p else (s.chan c).has g p)
    (horderly : ∀ c, (t.chan c).orderly)
    (hheads : ∀ d g, Function.update it c i d = .relay g → (t.chan d).relayQ.head? = some g) :
    t.Messages (Function.update it c i) := by
  obtain ⟨hchannel, hnumber, hstate⟩ := hd'
  refine hs.step hdesc hhas horderly hlawful (fun _ => hs.unique_of hlive (hchannel.trans hc.symm) hnumber)
    (fun d g hne hm => ?_) (fun d => ?_) (fun d hm => ?_) hheads
  · by_cases hdc : d = c
    · subst hdc
      rw [Function.update_self] at hm
      rcases hm with hm | hm
      · rcases hold with ho | ho <;> rw [ho] at hm
        · cases hm
        · exact absurd (Option.some.inj hm).symm hne
      · exact absurd (Option.some.inj (hm.symm.trans hi)) hne
    · exact Function.update_of_ne hdc ..
  · by_cases hdc : d = c
    · subst hdc
      rw [Function.update_self]
      exact iff_of_true hi ⟨hchannel, hstate⟩
    · rw [Function.update_of_ne hdc, hchannel]
      refine iff_of_false (fun hm => hdc ?_) fun he => hdc he.1.symm
      exact ((hs.aired d h).1 hm).1.symm.trans hc
  · by_cases hdc : d = c
    · subst hdc
      rwa [Function.update_self]
    · rw [Function.update_of_ne hdc] at hm
      exact absurd (((hs.aired d h).1 hm).1.symm.trans hc) hdc

/-- The laws of the load and of the bulletins beside a message on the air. -/
theorem State.Traffic.of_onAir (hs : s.Traffic it) (hmessages : t.Messages (Function.update it c i))
    (hair : (it c).onAirRequest = none) (hi : i.message = some h) (hdesc : ∀ g, t.desc g = if g = h then d' else s.desc g)
    (hold : (s.desc h).state ≠ .loading) (hnew : d'.state = .active)
    (hrequests : ∀ c, (t.chan c).requests = (s.chan c).requests) (harea : ∀ a, t.area a = s.area a)
    (hload : t.loadUnit.current = s.loadUnit.current) : t.Traffic (Function.update it c i) := by
  refine ⟨hmessages, hs.loads.congr (fun g => ?_) (fun a => by rw [harea]; exact ⟨rfl, rfl⟩) hload,
    hs.bulletins.congr hrequests harea fun d => ?_⟩
  · rw [hdesc]
    split
    · next hg => exact .inr ⟨hg ▸ hold, by rw [hnew]; decide⟩
    · exact .inl rfl
  · by_cases hdc : d = c
    · rw [hdc, Function.update_self, hair, Item.onAirRequest_of_message hi]
    · rw [Function.update_of_ne hdc]

/-- A message of a channel goes on the air, or goes on there, in its place. -/
theorem State.Traffic.setDesc_on_air (hs : s.Traffic it) (hold : (it c).message = none ∨ (it c).message = some h)
    (hair : (it c).onAirRequest = none) (hi : i.message = some h) (hc : (s.desc h).channel = c)
    (hlive : (s.desc h).state ∉ [.free, .loading]) (hin : ∀ c p, d'.isIn c p ↔ (s.desc h).isIn c p) (hsuits : i.suits d')
    (hd' : d'.channel = c ∧ d'.number = (s.desc h).number ∧ d'.state = .active) (hlawful : d'.lawful)
    (hhead : i = .relay h → (s.chan c).relayQ.head? = some h) : (s.setDesc h d').Traffic (Function.update it c i) := by
  simp only [List.mem_cons, List.not_mem_nil, or_false, not_or] at hlive
  refine hs.of_onAir (hs.messages.onAir hold hi hc hlive.1 hsuits hd' hlawful (fun g => State.desc_setDesc ..)
    (fun d p g => ?_) hs.messages.orderly fun d g hr => ?_) hair hi (fun g => State.desc_setDesc ..) hlive.2 hd'.2.2
    (fun _ => rfl) (fun _ => rfl) rfl
  · show (s.chan d).has g p ↔ _
    split
    · next hg => rw [hs.messages.listed, hin, hg]
    · exact Iff.rfl
  · by_cases hdc : d = c
    · subst hdc
      rw [Function.update_self] at hr
      rw [hr] at hi
      obtain rfl : g = h := Option.some.inj hi
      exact hhead hr
    · rw [Function.update_of_ne hdc] at hr
      exact hs.messages.heads d g hr

/-- R114. A message of a queue, no relay, goes on the air in the empty slot. -/
theorem State.Traffic.startFresh {x : Channel} (hs : s.Traffic it) (hblank : (it c).blank) (hactive : (s.chan c).active = none)
    (hi : i.message = some h) (hc : (s.desc h).channel = c) (hcls : (s.desc h).cls ≠ .relay)
    (hstate : (s.desc h).state = .ready ∨ (s.desc h).state = .suspended)
    (hsuits : i.suits { s.desc h with state := .active })
    (hx : x.traffic = Channel.traffic { (s.chan c).detach h with active := some h }) :
    ((s.setDesc h { s.desc h with state := .active }).setChan c x).Traffic (Function.update it c i) := by
  have hlive : (s.desc h).state ≠ .free ∧ (s.desc h).state ≠ .loading := by
    rcases hstate with he | he <;> rw [he] <;> decide
  have horderly := Channel.orderly_detach (h := h) (hs.messages.orderly c)
  have hdesc (g : Handle) : ((s.setDesc h { s.desc h with state := .active }).setChan c x).desc g
      = if g = h then { s.desc h with state := .active } else s.desc g := State.desc_setDesc ..
  have hchan (d : ChannelNo) : ((s.setDesc h { s.desc h with state := .active }).setChan c x).chan d
      = if d = c then x else s.chan d := State.chan_setChan ..
  have hhas (g : Handle) (p : Place) : x.has g p ↔ if p = .slot then g = h else g ≠ h ∧ (s.chan c).has g p := by
    rw [← Channel.has_mail, Channel.mail_of_traffic hx, Channel.has_mail]
    cases p with
    | slot => simp [Channel.has, eq_comm]
    | queue k =>
      rw [if_neg nofun, ← Channel.has_detach]
      cases k <;> exact Iff.rfl
    | sent =>
      rw [if_neg nofun, ← Channel.has_detach]
      exact Iff.rfl
  have hin (d : ChannelNo) (p : Place) : Descriptor.isIn { s.desc h with state := .active } d p ↔ d = c ∧ p = .slot := by
    cases p with
    | queue k =>
      simp only [Descriptor.isIn, hc]
      simp
      exact fun _ hk hr => hcls (hk.trans hr)
    | slot => simp [Descriptor.isIn, hc, hcls, eq_comm]
    | sent => simp [Descriptor.isIn]
  obtain ⟨-, -, hr, hlen, hpos⟩ := hs.messages.lawful h
  refine hs.of_onAir (hs.messages.onAir (.inl hblank.1) hi hc hlive.1 hsuits ⟨hc, rfl, rfl⟩ ⟨fun he => absurd he hcls, nofun,
    hr, hlen, fun _ _ => hpos hlive.1 hlive.2⟩ hdesc (fun d p g => ?_) (fun d => ?_) fun d g hr => ?_) hblank.2 hi hdesc hlive.2
    rfl (fun d => ?_) (fun _ => rfl) rfl
  · rw [hchan]
    by_cases hd : d = c
    · rw [if_pos hd, hhas, hin]
      by_cases hg : g = h
      · by_cases hp : p = .slot <;> simp [hg, hp, hd]
      · by_cases hp : p = .slot
        · simp [hg, hp, hd, Channel.has, hactive]
        · simp [hg, hp, hd]
    · rw [if_neg hd]
      split
      · next hg =>
        rw [hin, hs.messages.listed, hg]
        refine iff_of_false (fun hh => hd ?_) fun hh => hd hh.1
        rw [← hc]
        cases p <;> exact hh.1.symm
      · exact Iff.rfl
  · rw [hchan]
    split
    · rw [← Channel.orderly_mail, Channel.mail_of_traffic hx, Channel.orderly_mail]
      exact horderly
    · exact hs.messages.orderly d
  · by_cases hd : d = c
    · subst hd
      rw [Function.update_self] at hr
      rw [hr] at hsuits
      exact absurd hsuits.1 hcls
    · rw [Function.update_of_ne hd] at hr
      rw [hchan, if_neg hd]
      exact hs.messages.heads d g hr
  · rw [hchan]
    split
    · next hd =>
      rw [hd]
      exact (congrArg Channel.requests hx :)
    · rfl

/-! ### Credit -/

theorem ceilDiv_mono {m n q : Nat} (h : m ≤ n) : ceilDiv m q ≤ ceilDiv n q :=
  Nat.div_le_div_right (by omega)

/-- R50. A grant to the open load, which has no credit, keeps the laws. -/
theorem State.Traffic.granted {l : OpenLoad} (hs : s.Traffic it) (hl : s.loadUnit.current = some l) (ht : l.target = .telex h c)
    (hspent : l.outstanding = 0) (husable : s.grantBlocks l h ≤ s.usable c) : (s.granted l h).Traffic it := by
  obtain ⟨hcredit, hcount, htelex, -⟩ := hs.loads.credit l hl
  obtain ⟨hclamped, -, hchain, hlength⟩ := htelex h c ht
  obtain ⟨hc, hloading⟩ := (hs.loads.telex c h).1 ⟨l, hl, ht⟩
  obtain ⟨hrelay, -, hr, hlen, -⟩ := hs.messages.lawful h
  have hdesc (g : Handle) : (s.granted l h).desc g = if g = h then
      { s.desc h with chain := (s.desc h).chain ++ s.store.free.take (s.grantBlocks l h) } else s.desc g := State.desc_setDesc ..
  have hblocks : (s.store.free.take (s.grantBlocks l h)).length = s.grantBlocks l h := by
    rw [List.length_take, Nat.min_eq_left]
    exact husable.trans ((Nat.min_le_right ..).trans (Nat.sub_le ..))
  have hneed : s.grantNeed l ≤ l.clamped - l.received := Nat.min_le_right ..
  refine ⟨?_, ⟨fun d g => ?_, fun a => ?_, fun l' hl' => ?_⟩, hs.bulletins.congr (fun _ => rfl) (fun _ => rfl) fun _ => rfl⟩
  · refine hs.messages.step (h := h) hdesc (fun d p g => ?_) hs.messages.orderly ?_ (fun _ => hs.messages.unique_of (by
      rw [hloading]; decide) rfl rfl) (fun _ _ _ _ => rfl) (fun d => hs.messages.aired d h) (fun d hm => ?_) hs.messages.heads
    · show (s.chan d).has g p ↔ _
      split
      · next hg =>
        rw [hs.messages.listed, hg]
        cases p <;> exact Iff.rfl
      · exact Iff.rfl
    · exact ⟨hrelay, fun hfree => absurd (hloading.symm.trans hfree) (by decide), hr, hlen, fun _ hno => absurd hloading hno⟩
    · exact absurd (hloading.symm.trans ((hs.messages.aired d h).1 hm).2) (by decide)
  · rw [hdesc]
    have hsame := hs.loads.telex d g
    constructor
    · rintro ⟨l', hl', ht'⟩
      obtain rfl := Option.some.inj hl'
      have hg := hsame.1 ⟨l, hl, ht'⟩
      split
      · next he => exact he ▸ hg
      · exact hg
    · intro hg
      have hg' : (s.desc g).channel = d ∧ (s.desc g).state = .loading := by
        split at hg
        · next he => exact he ▸ hg
        · exact hg
      obtain ⟨l', hl', ht'⟩ := hsame.2 hg'
      obtain rfl := Option.some.inj (hl.symm.trans hl')
      exact ⟨_, rfl, ht'⟩
  · rw [show (s.granted l h).area a = s.area a from rfl, ← hs.loads.bulletin a]
    constructor
    · rintro ⟨l', hl', ht'⟩
      obtain rfl := Option.some.inj hl'
      exact ⟨l, hl, ht'⟩
    · rintro ⟨l', hl', ht'⟩
      obtain rfl := Option.some.inj (hl.symm.trans hl')
      exact ⟨_, rfl, ht'⟩
  · obtain rfl := Option.some.inj hl'
    refine ⟨?_, hcount, fun g d hg => ?_, fun a ha => absurd (ht.symm.trans ha) nofun⟩
    · show l.received + s.grantNeed l ≤ l.clamped
      omega
    · obtain ⟨rfl, rfl⟩ := LoadTarget.telex.inj (ht.symm.trans hg)
      rw [hdesc, if_pos rfl]
      refine ⟨hclamped, nofun, ?_, hlength⟩
      show ((s.desc h).chain ++ _).length = ceilDiv (l.received + s.grantNeed l) 64
      rw [List.length_append, hblocks, hchain, State.grantBlocks, hchain, hspent]
      have hmono : ceilDiv (l.received + 0) 64 ≤ ceilDiv (l.received + s.grantNeed l) 64 := ceilDiv_mono (by omega)
      show _ + (ceilDiv (l.received + s.grantNeed l) 64 - _) = _
      omega

/-- R51. A load without credit may wait. -/
theorem State.Traffic.waits {l : OpenLoad} (hs : s.Traffic it) (hl : s.loadUnit.current = some l) (hspent : l.outstanding = 0) :
    (s.setLoad (some { l with waiting := true })).Traffic it := by
  refine ⟨hs.messages.congr (fun _ => rfl) fun _ => rfl, ⟨fun d g => ?_, fun a => ?_, fun l' hl' => ?_⟩,
    hs.bulletins.congr (fun _ => rfl) (fun _ => rfl) fun _ => rfl⟩
  · refine Iff.trans ?_ (hs.loads.telex d g)
    simp [State.setLoad, hl]
  · refine Iff.trans ?_ (hs.loads.bulletin a)
    simp [State.setLoad, hl]
  · obtain rfl := Option.some.inj hl'
    obtain ⟨hcredit, hcount, htelex, hbulletin⟩ := hs.loads.credit l hl
    exact ⟨hcredit, hcount, fun h c ht => ⟨(htelex h c ht).1, fun _ => hspent, (htelex h c ht).2.2⟩, hbulletin⟩

theorem State.Traffic.judgeGrant {l : OpenLoad} (hs : s.Traffic it) (hl : s.loadUnit.current = some l)
    (hspent : l.outstanding = 0) (notify : Bool) : (s.judgeGrant notify).Traffic it := by
  cases ht : l.target with
  | bulletin a =>
    rwa [show s.judgeGrant notify = s by simp [State.judgeGrant, hl, ht]]
  | telex h c =>
    rw [State.judgeGrant_eq hl ht]
    split
    · next husable =>
      have hgranted := hs.granted hl ht hspent husable
      split
      · exact hgranted.congr (.of_parts rfl rfl rfl rfl)
      · exact hgranted
    · exact hs.waits hl hspent

theorem State.Traffic.rejudgeGrant (hs : s.Traffic it) : s.rejudgeGrant.Traffic it := by
  cases hl : s.loadUnit.current with
  | none => rwa [State.rejudgeGrant_of_none hl]
  | some l =>
    cases hw : l.waiting with
    | false => rwa [State.rejudgeGrant_of_not_waiting hl hw]
    | true =>
      cases ht : l.target with
      | bulletin a => rwa [State.rejudgeGrant_of_bulletin hl ht]
      | telex h c =>
        rw [State.rejudgeGrant_of_waiting hl hw]
        exact hs.judgeGrant hl (((hs.loads.credit l hl).2.2.1 h c ht).2.1 hw) true

/-- R42, R81. A message is freed with its notice. -/
theorem State.Traffic.freeWith (hs : s.Traffic it) (hold : (s.desc h).state ≠ .loading) (e : Event) (fs : List Field) :
    (s.freeWith h e fs).Traffic fun c => (it c).left h :=
  State.Traffic.rejudgeGrant (s := (s.freeMessage h).emit e (some (s.desc h).channel) (s.messageFields h ++ fs))
    ((hs.freeMessage hold).congr (.of_parts rfl rfl rfl rfl))

theorem State.Traffic.freeSilent (hs : s.Traffic it) (hold : (s.desc h).state ≠ .loading) :
    (s.freeSilent h).Traffic fun c => (it c).left h := (hs.freeMessage hold).rejudgeGrant

end

end Sys2Proof.Machine
end

section
/-! Rules of the traffic for the requests of a channel: one is placed, ends, starts, is broken off or completes (R91, R95 to
R99), with the on-air count of its area (R33). -/

namespace Sys2Proof.Machine

/-! ### The channels that key an area -/

/-- An item keys an area, or closes its bulletin. -/
def Item.keys (i : Item) (a : AreaNo) : Bool := (i.onAirRequest.map fun q => q.2.2) == some a

theorem Item.keys_of_none {i : Item} {a : AreaNo} (h : i.onAirRequest = none) : i.keys a = false := by
  rw [Item.keys, h]
  rfl

theorem Item.keys_of_some {i : Item} {a : AreaNo} {x : SlotNo × Nat × AreaNo} (h : i.onAirRequest = some x) :
    i.keys a = decide (x.2.2 = a) := by
  rw [Item.keys, h, Bool.eq_iff_iff]
  simp

/-- One item changes: the number of channels that key an area follows. -/
theorem keyers_update (it : ChannelNo → Item) (c : ChannelNo) (i : Item) (a : AreaNo) :
    (keyers (Function.update it c i) a).length + ((it c).keys a).toNat = (keyers it a).length + (i.keys a).toNat := by
  obtain ⟨ds, es, hall⟩ := List.append_of_mem (List.mem_finRange c)
  have hnodup := List.nodup_finRange 8
  rw [hall] at hnodup
  obtain ⟨hds, hes⟩ : c ∉ ds ∧ c ∉ es := by
    have := List.nodup_middle.1 hnodup
    simpa [not_or] using (List.nodup_cons.1 this).1
  have hrest {l : List ChannelNo} (hl : c ∉ l) : (l.filter fun d => (Function.update it c i d).keys a)
      = l.filter fun d => (it d).keys a :=
    List.filter_congr fun d hd => by rw [Function.update_of_ne fun he : d = c => hl (he ▸ hd)]
  have hlength (jt : ChannelNo → Item) : (keyers jt a).length = (ds.filter fun d => (jt d).keys a).length
      + ((jt c).keys a).toNat + (es.filter fun d => (jt d).keys a).length := by
    have hkeyers : keyers jt a = (ds ++ c :: es).filter fun d => (jt d).keys a := by rw [← hall]; rfl
    rw [hkeyers, List.filter_append, List.length_append]
    cases hk : (jt c).keys a
    · simp [hk]
    · simp [hk]
      omega
  rw [hlength, hlength, hrest hds, hrest hes, Function.update_self]
  omega

section
variable {s t : State} {it : ChannelNo → Item} {c : ChannelNo} {i : Item} {rs : List Request} {q r : Request}

/-! ### A channel's requests and its item change together -/

theorem State.Traffic.requests (hs : s.Traffic it) (hitem : i = it c ∨ (it c).message = none ∧ i.message = none)
    (hdesc : ∀ h, (t.desc h).traffic = (s.desc h).traffic) (hmail : ∀ d, (t.chan d).mail = (s.chan d).mail)
    (hrequests : ∀ d, (t.chan d).requests = if d = c then rs else (s.chan d).requests)
    (hload : t.loadUnit.current = s.loadUnit.current)
    (harea : ∀ a, (t.area a).state = (s.area a).state ∧ (t.area a).length = (s.area a).length)
    (honAir : ∀ q ∈ rs, q.state = .onAir ↔ i.onAirRequest = some q.key)
    (hasked : ∀ x, i.onAirRequest = some x → ∃ q ∈ rs, x = q.key)
    (hordered : rs.length ≤ 4 ∧ rs.Pairwise fun p q => p.before q = true)
    (hcount : ∀ a, (t.area a).onAir + ((it c).keys a).toNat = (s.area a).onAir + (i.keys a).toNat)
    (hready : ∀ a, i.keys a = true → (s.area a).state = .ready) : t.Traffic (Function.update it c i) := by
  have hmessage (d : ChannelNo) : (Function.update it c i d).message = (it d).message := by
    by_cases hd : d = c
    · subst hd
      rw [Function.update_self]
      rcases hitem with he | ⟨hold, hnew⟩
      · rw [he]
      · rw [hold, hnew]
    · rw [Function.update_of_ne hd]
  have hsame (d : ChannelNo) (h : Handle) (hm : (it d).message = some h) : Function.update it c i d = it d := by
    by_cases hd : d = c
    · subst hd
      rw [Function.update_self]
      rcases hitem with he | ⟨hold, -⟩
      · exact he
      · rw [hold] at hm
        cases hm
    · exact Function.update_of_ne hd ..
  refine ⟨(hs.messages.items hmessage (fun d h hm hsuits => by rwa [hsame d h hm]) fun d h hr => ?_).congr hdesc hmail,
    hs.loads.congr (fun h => .inl (hdesc h)) harea hload, fun d q hq => ?_, fun d x hx => ?_, fun d => ?_, fun a => ?_,
    fun a ha => ?_⟩
  · rwa [← hsame d h ((hmessage d).symm.trans (by rw [hr]; rfl))]
  · rw [hrequests] at hq
    by_cases hd : d = c
    · subst hd
      rw [if_pos rfl] at hq
      rw [Function.update_self]
      exact honAir q hq
    · rw [if_neg hd] at hq
      rw [Function.update_of_ne hd]
      exact hs.bulletins.onAir d q hq
  · rw [hrequests]
    by_cases hd : d = c
    · subst hd
      rw [Function.update_self] at hx
      rw [if_pos rfl]
      exact hasked x hx
    · rw [Function.update_of_ne hd] at hx
      rw [if_neg hd]
      exact hs.bulletins.asked d x hx
  · rw [hrequests]
    split
    · exact hordered
    · exact hs.bulletins.ordered d
  · have hkeyers := keyers_update it c i a
    have hold := hs.bulletins.count a
    have hnew := hcount a
    omega
  · rw [(harea a).1]
    by_cases hk : i.keys a = true
    · exact hready a hk
    · refine hs.bulletins.ready a ?_
      have hnew := hcount a
      rw [Bool.eq_false_of_not_eq_true hk, Bool.toNat_false] at hnew
      omega

/-- R33. The area that an item keys counts it, and is READY. -/
theorem State.Bulletins.keyed (hs : s.Bulletins it) {a : AreaNo} (hk : (it c).keys a = true) :
    0 < (s.area a).onAir ∧ (s.area a).state = .ready := by
  have hpos : 0 < (s.area a).onAir := by
    rw [hs.count]
    exact List.length_pos_of_mem (List.mem_filter.2 ⟨List.mem_finRange c, hk⟩)
  exact ⟨hpos, hs.ready a hpos⟩

/-- R91. Two requests of one occurrence in a list in order are one. -/
theorem Request.eq_of_ordered {l : List Request} (hl : l.Pairwise fun p q => p.before q = true) (hq : q ∈ l) (hr : r ∈ l)
    (hsame : q.isFor r.slot r.due = true) : q = r := by
  have hdistinct : l.Pairwise fun p p' => ¬(p.slot = p'.slot ∧ p.due = p'.due) :=
    hl.imp fun {p p'} hbefore he => by simp [Request.before_iff, he.1, he.2] at hbefore
  have hsymm : Std.Symm fun p p' : Request => ¬(p.slot = p'.slot ∧ p.due = p'.due) :=
    ⟨fun p p' hno he => hno ⟨he.1.symm, he.2.symm⟩⟩
  by_contra hne
  exact hdistinct.forall hq hr hne (Request.isFor_iff.1 hsame)

/-- Some requests leave the list, none of them the one on the air (R93, R94, R109). -/
theorem State.Traffic.keep {f : Request → Bool} (hs : s.Traffic it) (hdesc : ∀ h, t.desc h = s.desc h)
    (hmail : ∀ d, (t.chan d).mail = (s.chan d).mail)
    (hrequests : ∀ d, (t.chan d).requests = if d = c then (s.chan c).requests.filter f else (s.chan d).requests)
    (hload : t.loadUnit.current = s.loadUnit.current) (harea : ∀ a, t.area a = s.area a)
    (hkept : ∀ q ∈ (s.chan c).requests, q.state = .onAir → f q = true) : t.Traffic it := by
  have hnew := hs.requests (t := t) (c := c) (i := it c) (.inl rfl) (fun h => by rw [hdesc]) hmail hrequests hload
    (fun a => by rw [harea]; exact ⟨rfl, rfl⟩) (fun q hq => hs.bulletins.onAir c q (List.mem_filter.1 hq).1) (fun x hx => ?_)
    ?_ (fun a => by rw [harea]) fun a hk => (hs.bulletins.keyed hk).2
  · rwa [Function.update_eq_self] at hnew
  · obtain ⟨q, hq, rfl⟩ := hs.bulletins.asked c x hx
    exact ⟨q, List.mem_filter.2 ⟨hq, hkept q hq ((hs.bulletins.onAir c q hq).2 hx)⟩, rfl⟩
  · obtain ⟨hlen, hord⟩ := hs.bulletins.ordered c
    exact ⟨(List.length_filter_le ..).trans hlen, hord.filter _⟩

/-! ### One request -/

theorem State.SameTraffic.modStats (f : Stats → Stats) : s.SameTraffic (s.modStats c f) := .modChan

theorem State.SameTraffic.emit (e : Event) (ch : Option ChannelNo) (fs : List Field) : s.SameTraffic (s.emit e ch fs) :=
  .of_parts rfl rfl rfl rfl

theorem State.SameTraffic.advanceOverrun : s.SameTraffic (s.advanceOverrun c) := by
  unfold State.advanceOverrun
  split
  · exact .modStats _
  · exact (State.SameTraffic.modStats _).trans (.emit ..)

theorem State.SameTraffic.recordOutcome (o : BulletinOutcome) (l : Option Nat) (quiet : Bool) :
    s.SameTraffic (s.recordOutcome c q o l quiet) := by
  unfold State.recordOutcome
  dsimp only
  split
  · exact ((State.SameTraffic.emit ..).trans (.modStats _)).trans .advanceOverrun
  · exact (State.SameTraffic.emit ..).trans (.modStats _)

theorem State.chan_modRequests (f : List Request → List Request) (d : ChannelNo) :
    ((s.modChan c fun ch => { ch with requests := f ch.requests }).chan d).mail = (s.chan d).mail
    ∧ ((s.modChan c fun ch => { ch with requests := f ch.requests }).chan d).requests
      = if d = c then f (s.chan c).requests else (s.chan d).requests := by
  rw [State.chan_modChan]
  split
  · next hd =>
    subst hd
    exact ⟨rfl, rfl⟩
  · exact ⟨rfl, rfl⟩

/-- R99. A WAITING request ends. -/
theorem State.Traffic.endRequest (hs : s.Traffic it) (hq : q ∈ (s.chan c).requests) (hwaits : q.state = .waiting)
    (o : BulletinOutcome) (l : Option Nat) (quiet : Bool) : (s.endRequest c q o l quiet).Traffic it := by
  have hchan := State.chan_modRequests (s := s) (c := c) fun rs => rs.filter fun r => !r.isFor q.slot q.due
  refine State.Traffic.congr (s := s.dropRequest c q) (hs.keep (c := c) (fun _ => rfl) (fun d => (hchan d).1)
    (fun d => (hchan d).2) rfl (fun _ => rfl) fun r hr hair => ?_) (.recordOutcome ..)
  cases hfor : r.isFor q.slot q.due with
  | false => rfl
  | true =>
    rw [Request.eq_of_ordered (hs.bulletins.ordered c).2 hr hq hfor, hwaits] at hair
    cases hair

/-- R90. An occurrence places its request. -/
theorem State.Traffic.placeRequest (hs : s.Traffic it) (j : SlotNo) (due : Nat) : (s.placeRequest j due c).Traffic it := by
  unfold State.placeRequest
  dsimp only
  split_ifs with hoff hold hfull
  · exact hs.congr (.recordOutcome ..)
  · exact hs
  · exact hs.congr (.recordOutcome ..)
  · have hchan := State.chan_modRequests (s := s) (c := c) (insertRequest (s.newRequest j due c))
    have hmem (r : Request) : r ∈ insertRequest (s.newRequest j due c) (s.chan c).requests
        ↔ r = s.newRequest j due c ∨ r ∈ (s.chan c).requests :=
      (insertRequest_perm ..).mem_iff.trans List.mem_cons
    have hnew (r : Request) (hr : r ∈ (s.chan c).requests) : ¬(r.slot = j ∧ r.due = due) := fun hsame =>
      hold (List.any_eq_true.2 ⟨r, hr, Request.isFor_iff.2 hsame⟩)
    have hplaced := hs.requests (t := s.modChan c fun ch => { ch with
        requests := insertRequest (s.newRequest j due c) ch.requests }) (c := c) (i := it c) (.inl rfl) (fun _ => rfl)
      (fun d => (hchan d).1) (fun d => (hchan d).2) rfl (fun _ => ⟨rfl, rfl⟩) (fun r hr => ?_) (fun x hx => ?_) ⟨?_, ?_⟩
      (fun _ => rfl) fun a hk => (hs.bulletins.keyed hk).2
    · rwa [Function.update_eq_self] at hplaced
    · rcases (hmem r).1 hr with rfl | hr
      · refine iff_of_false nofun fun hkey => ?_
        obtain ⟨p, hp, he⟩ := hs.bulletins.asked c _ hkey
        exact hnew p hp ⟨(congrArg Prod.fst he).symm, (congrArg (fun x => x.2.1) he).symm⟩
      · exact hs.bulletins.onAir c r hr
    · obtain ⟨p, hp, he⟩ := hs.bulletins.asked c x hx
      exact ⟨p, (hmem p).2 (.inr hp), he⟩
    · rw [insertRequest_length]
      have : ¬4 ≤ (s.chan c).requests.length := hfull
      omega
    · exact insertRequest_pairwise (hs.bulletins.ordered c).2 hnew

theorem State.Traffic.takeOccurrence (hs : s.Traffic it) (j : SlotNo) : (s.takeOccurrence j).Traffic it := by
  unfold State.takeOccurrence
  split
  · exact hs
  · next due _ =>
    exact State.Traffic.congr (List.foldlRecOn (motive := fun (t : State) => t.Traffic it) _ _ hs
      fun (t : State) ht c _ => ht.placeRequest j due)
      (.of_parts rfl rfl rfl rfl)

/-! ### A request on the air -/

/-- The requests of one occurrence change, and stay of it. -/
theorem State.ordered_modRequest {f : Request → Request} (hs : s.requestsOk) (j : SlotNo) (due : Nat)
    (hf : ∀ q : Request, (f q).slot = q.slot ∧ (f q).due = q.due) :
    ((s.chan c).requests.map fun q => if q.isFor j due then f q else q).length ≤ 4
    ∧ ((s.chan c).requests.map fun q => if q.isFor j due then f q else q).Pairwise fun p q => p.before q = true := by
  refine ⟨by rw [List.length_map]; exact (hs c).1, List.pairwise_map.2 ((hs c).2.imp fun {p q} hpq => ?_)⟩
  have hkeys (q : Request) : (if q.isFor j due then f q else q).slot = q.slot
      ∧ (if q.isFor j due then f q else q).due = q.due := by
    split
    · exact hf q
    · exact ⟨rfl, rfl⟩
  simpa only [Request.before, (hkeys p).1, (hkeys p).2, (hkeys q).1, (hkeys q).2] using hpq

theorem State.area_setOnAir {a b : AreaNo} {n : Nat} : ((s.setArea a { s.area a with onAir := n }).area b).state = (s.area b).state
    ∧ ((s.setArea a { s.area a with onAir := n }).area b).length = (s.area b).length
    ∧ ((s.setArea a { s.area a with onAir := n }).area b).onAir = if b = a then n else (s.area b).onAir := by
  rw [State.area_setArea]
  split
  · next hb =>
    subst hb
    exact ⟨rfl, rfl, rfl⟩
  · exact ⟨rfl, rfl, rfl⟩

/-- R95, R131. A WAITING request starts on a READY area. -/
theorem State.Traffic.startBulletin (hs : s.Traffic it) (hblank : (it c).blank) (hq : q ∈ (s.chan c).requests)
    (hready : (s.area q.area).state = .ready) :
    (s.startBulletin c q).Traffic (Function.update it c (.bulletin q.slot q.due q.area 0 none)) := by
  have hchan := State.chan_modRequests (s := s) (c := c) fun rs => rs.map fun r =>
    if r.isFor q.slot q.due then { r with state := .onAir, firstStart := some (r.firstStart.getD s.now) } else r
  have honly (r : Request) (hr : r ∈ (s.chan c).requests) : r.isFor q.slot q.due = true ↔ r = q :=
    ⟨Request.eq_of_ordered (hs.bulletins.ordered c).2 hr hq, fun he => Request.isFor_iff.2 (by rw [he]; exact ⟨rfl, rfl⟩)⟩
  have hoff (r : Request) (hr : r ∈ (s.chan c).requests) : r.state ≠ .onAir := fun hair => by
    have hkey := (hs.bulletins.onAir c r hr).1 hair
    rw [hblank.2] at hkey
    cases hkey
  have harea (b : AreaNo) := State.area_setOnAir (s := s) (a := q.area) (b := b) (n := (s.area q.area).onAir + 1)
  refine State.Traffic.congr (s := (s.modRequest c q.slot q.due fun q =>
    { q with state := .onAir, firstStart := some (q.firstStart.getD s.now) }).enterArea q.area)
    (hs.requests (.inr ⟨hblank.1, rfl⟩) (fun _ => rfl) (fun d => (hchan d).1) (fun d => (hchan d).2) rfl
      (fun b => ⟨(harea b).1, (harea b).2.1⟩) (fun r hr => ?_) (fun x hx => ?_)
      (State.ordered_modRequest hs.bulletins.ordered q.slot q.due fun _ => ⟨rfl, rfl⟩) (fun a => ?_) fun a hk => ?_) (.modChan (f := fun ch =>
      { ch with item := .bulletin q.slot q.due q.area 0 none, idleSince := none }))
  · obtain ⟨p, hp, rfl⟩ := List.mem_map.1 hr
    by_cases hpq : p = q
    · rw [if_pos ((honly p hp).2 hpq)]
      refine iff_of_true rfl ?_
      rw [hpq]
      rfl
    · rw [if_neg fun he => hpq ((honly p hp).1 he)]
      refine iff_of_false (hoff p hp) fun hkey => hpq ((honly p hp).1 (Request.isFor_iff.2 ?_))
      have hkey := Option.some.inj hkey
      exact ⟨(congrArg Prod.fst hkey).symm, (congrArg (fun x => x.2.1) hkey).symm⟩
  · obtain rfl := Option.some.inj hx
    refine ⟨_, List.mem_map.2 ⟨q, hq, rfl⟩, ?_⟩
    rw [if_pos ((honly q hq).2 rfl)]
    rfl
  · rw [Item.keys_of_none hblank.2, Item.keys_of_some (x := (q.slot, q.due, q.area)) rfl]
    show ((s.setArea q.area { s.area q.area with onAir := (s.area q.area).onAir + 1 }).area a).onAir + _ = _
    rw [(harea a).2.2]
    by_cases ha : a = q.area
    · simp [ha]
    · simp [ha, Ne.symm ha]
  · rw [Item.keys_of_some (x := (q.slot, q.due, q.area)) rfl] at hk
    rw [← of_decide_eq_true hk]
    exact hready

/-- The area of the request on the air is left. -/
theorem State.Bulletins.onAir_leaveArea {x : SlotNo × Nat × AreaNo} (hs : s.Bulletins it) (hx : (it c).onAirRequest = some x)
    (hi : i.blank) (a : AreaNo) :
    ((s.leaveArea x.2.2).area a).onAir + ((it c).keys a).toNat = (s.area a).onAir + (i.keys a).toNat := by
  have harea := State.area_setOnAir (s := s) (a := x.2.2) (b := a) (n := (s.area x.2.2).onAir - 1)
  rw [Item.keys_of_some hx, Item.keys_of_none hi.2, State.leaveArea, harea.2.2]
  have hpos := (hs.keyed (c := c) (a := x.2.2) (by rw [Item.keys_of_some hx]; simp)).1
  by_cases ha : a = x.2.2
  · subst ha
    simp
    omega
  · simp [ha, Ne.symm ha]

/-- R97. The request on the air is WAITING again. -/
theorem State.Traffic.returnRequest {x : SlotNo × Nat × AreaNo} (hs : s.Traffic it) (hx : (it c).onAirRequest = some x)
    (hi : i.blank) : (s.returnRequest c x.1 x.2.1 x.2.2).Traffic (Function.update it c i) := by
  obtain ⟨q, hq, rfl⟩ := hs.bulletins.asked c x hx
  have hchan := State.chan_modRequests (s := s) (c := c) fun rs => rs.map fun r =>
    if r.isFor q.slot q.due then { r with state := .waiting, restarts := satSucc max8 r.restarts } else r
  have hnone : (it c).message = none := by
    cases hm : (it c).message with
    | none => rfl
    | some h => rw [Item.onAirRequest_of_message hm] at hx; cases hx
  have harea (b : AreaNo) := State.area_setOnAir (s := s) (a := q.area) (b := b) (n := (s.area q.area).onAir - 1)
  refine hs.requests (.inr ⟨hnone, hi.1⟩) (fun _ => rfl) (fun d => (hchan d).1) (fun d => (hchan d).2) rfl
    (fun b => ⟨(harea b).1, (harea b).2.1⟩) (fun r hr => ?_) (fun x hx => ?_)
    (State.ordered_modRequest hs.bulletins.ordered q.slot q.due fun _ => ⟨rfl, rfl⟩)
    (fun a => hs.bulletins.onAir_leaveArea hx hi a) fun a hk => ?_
  · rw [hi.2]
    refine iff_of_false (fun hair => ?_) nofun
    obtain ⟨p, hp, rfl⟩ := List.mem_map.1 hr
    split at hair
    · cases hair
    · next hno =>
      have hkey := (hs.bulletins.onAir c p hp).1 hair
      rw [hx] at hkey
      have hkey := Option.some.inj hkey
      exact hno (Request.isFor_iff.2 ⟨(congrArg Prod.fst hkey).symm, (congrArg (fun x => x.2.1) hkey).symm⟩)
  · rw [hi.2] at hx
    cases hx
  · rw [Item.keys_of_none hi.2] at hk
    cases hk

/-- R96, R146. The request on the air leaves the list, and perhaps others, with its area. -/
theorem State.Traffic.leave {f : Request → Bool} {x : SlotNo × Nat × AreaNo} (hs : s.Traffic it)
    (hx : (it c).onAirRequest = some x) (hi : i.blank)
    (hdesc : ∀ h, t.desc h = s.desc h) (hmail : ∀ d, (t.chan d).mail = (s.chan d).mail)
    (hrequests : ∀ d, (t.chan d).requests = if d = c then (s.chan c).requests.filter f else (s.chan d).requests)
    (hload : t.loadUnit.current = s.loadUnit.current) (harea : ∀ a, t.area a = (s.leaveArea x.2.2).area a)
    (hdropped : ∀ q ∈ (s.chan c).requests, q.key = x → f q = false) : t.Traffic (Function.update it c i) := by
  have hnone : (it c).message = none := by
    cases hm : (it c).message with
    | none => rfl
    | some h => rw [Item.onAirRequest_of_message hm] at hx; cases hx
  have hleft (b : AreaNo) := State.area_setOnAir (s := s) (a := x.2.2) (b := b) (n := (s.area x.2.2).onAir - 1)
  obtain ⟨hlen, hord⟩ := hs.bulletins.ordered c
  refine hs.requests (.inr ⟨hnone, hi.1⟩) (fun h => by rw [hdesc]) hmail hrequests hload
    (fun b => by rw [harea]; exact ⟨(hleft b).1, (hleft b).2.1⟩) (fun r hr => ?_) (fun x hx => ?_)
    ⟨(List.length_filter_le ..).trans hlen, hord.filter _⟩
    (fun a => by rw [harea]; exact hs.bulletins.onAir_leaveArea hx hi a) fun a hk => ?_
  · rw [hi.2]
    refine iff_of_false (fun hair => ?_) nofun
    obtain ⟨hr, hf⟩ := List.mem_filter.1 hr
    have hkey := (hs.bulletins.onAir c r hr).1 hair
    rw [hx] at hkey
    rw [hdropped r hr (Option.some.inj hkey).symm] at hf
    cases hf
  · rw [hi.2] at hx
    cases hx
  · rw [Item.keys_of_none hi.2] at hk
    cases hk

/-- R96. A bulletin keyed to its end. -/
theorem State.Traffic.bulletinEnds {x : SlotNo × Nat × AreaNo} (hs : s.Traffic it) (hx : (it c).onAirRequest = some x)
    (hi : i.blank) : (s.bulletinEnds c x.1 x.2.1 x.2.2).Traffic (Function.update it c i) := by
  obtain ⟨q, hq, rfl⟩ := hs.bulletins.asked c x hx
  have hfound : (s.chan c).requests.find? (·.isFor q.slot q.due) = some q := by
    cases hf : (s.chan c).requests.find? (·.isFor q.slot q.due) with
    | none => exact absurd (Request.isFor_iff.2 ⟨rfl, rfl⟩) (List.find?_eq_none.1 hf q hq)
    | some r =>
      have hfor : r.isFor q.slot q.due = true := List.find?_some (p := fun r => Request.isFor r q.slot q.due) hf
      rw [Request.eq_of_ordered (hs.bulletins.ordered c).2 (List.mem_of_find?_eq_some hf) hq hfor]
  have hchan := State.chan_modRequests (s := s) (c := c) fun rs => rs.filter fun r => !r.isFor q.slot q.due
  have hends : s.bulletinEnds c q.slot q.due q.area = ((s.leaveArea q.area).dropRequest c q).recordOutcome c q
      (q.completeOutcome (s.chan c).settings.period) q.lateness false := by
    simp only [State.bulletinEnds, hfound]
    rfl
  rw [show (q.key).1 = q.slot from rfl, show (q.key).2.1 = q.due from rfl, show (q.key).2.2 = q.area from rfl, hends]
  refine State.Traffic.congr (s := (s.leaveArea q.area).dropRequest c q) (hs.leave hx hi (fun _ => rfl)
    (fun d => (hchan d).1) (fun d => (hchan d).2) rfl (fun _ => rfl) fun r hr hkey => ?_) (.recordOutcome ..)
  have hfor : r.isFor q.slot q.due = true :=
    Request.isFor_iff.2 ⟨congrArg Prod.fst hkey, congrArg (fun x => x.2.1) hkey⟩
  rw [hfor]
  rfl

end

end Sys2Proof.Machine
end

section
/-! The laws of the traffic at a decision point: they hold of the message or the bulletin that is still to be settled, and
whatever the Interleaver chooses turns them into the laws of its item (sections 7.1 to 7.4). -/

namespace Sys2Proof.Machine

/-! ### Items and states of channels that stay -/

/-- No channel's item or state has changed. -/
def State.SameAir (s t : State) : Prop :=
  ∀ d, (t.chan d).item = (s.chan d).item ∧ (t.chan d).state = (s.chan d).state

section
variable {s t u : State} {c : ChannelNo} {h : Handle} {q : Request} {it : ChannelNo → Item} {i v v' : Item}

theorem State.SameAir.refl (s : State) : s.SameAir s := fun _ => ⟨rfl, rfl⟩

theorem State.SameAir.trans (h : s.SameAir t) (g : t.SameAir u) : s.SameAir u :=
  fun d => ⟨(g d).1.trans (h d).1, (g d).2.trans (h d).2⟩

theorem State.SameAir.of_channels (h : t.channels = s.channels) : s.SameAir t := fun d => by
  have hd : t.chan d = s.chan d := congrArg (vget · d) h
  rw [hd]
  exact ⟨rfl, rfl⟩

theorem State.SameAir.of_rest (h : ∀ d, (t.chan d).rest = (s.chan d).rest) : s.SameAir t := fun d =>
  ⟨(congrArg Channel.item (h d) :), (congrArg Channel.state (h d) :)⟩

theorem State.SameAir.setChan {x : Channel} (hx : x.item = (s.chan c).item ∧ x.state = (s.chan c).state := by
    exact ⟨rfl, rfl⟩) : s.SameAir (s.setChan c x) := fun d => by
  rw [State.chan_setChan]
  split
  · next hd => exact hd ▸ hx
  · exact ⟨rfl, rfl⟩

theorem State.SameAir.modChan {f : Channel → Channel} (hf : (f (s.chan c)).item = (s.chan c).item
    ∧ (f (s.chan c)).state = (s.chan c).state := by exact ⟨rfl, rfl⟩) : s.SameAir (s.modChan c f) := .setChan hf

theorem State.SameAir.recordOutcome (o : BulletinOutcome) (l : Option Nat) (quiet : Bool) :
    s.SameAir (s.recordOutcome c q o l quiet) := by
  have hadvance (s : State) : s.SameAir (s.advanceOverrun c) := by
    unfold State.advanceOverrun
    split
    · exact .modChan
    · exact (State.SameAir.modChan (f := fun ch => { ch with stats := { ch.stats with overrun := 0 } })).trans
        (.of_channels rfl)
  have hcounted : s.SameAir ((s.emit .outcome (some c) [.num 1 o.code, .num 1 q.slot.val, .num 1 q.area.val, .time q.due,
      .time q.deadline, .opt 6 l, .num 1 q.restarts]).modStats c (·.countOutcome o)) :=
    (State.SameAir.of_channels rfl).trans (.modChan (f := fun ch => { ch with stats := ch.stats.countOutcome o }))
  unfold State.recordOutcome
  dsimp only
  split
  · exact hcounted.trans (hadvance _)
  · exact hcounted

theorem State.SameAir.endRequest (o : BulletinOutcome) (l : Option Nat) (quiet : Bool) :
    s.SameAir (s.endRequest c q o l quiet) :=
  (State.SameAir.modChan (f := fun ch => { ch with requests := ch.requests.filter fun r => !r.isFor q.slot q.due })).trans
    (.recordOutcome _ _ _)

theorem State.SameAir.placeRequest (j : SlotNo) (due : Nat) : s.SameAir (s.placeRequest j due c) := by
  unfold State.placeRequest
  dsimp only
  split_ifs
  · exact .recordOutcome _ _ _
  · exact .refl s
  · exact .recordOutcome _ _ _
  · exact .setChan

theorem State.SameAir.takeOccurrence (j : SlotNo) : s.SameAir (s.takeOccurrence j) := by
  unfold State.takeOccurrence
  split
  · exact .refl s
  · next due _ =>
    exact State.SameAir.trans (List.foldlRecOn (motive := fun (t : State) => s.SameAir t) _ _ (.refl s)
      fun (t : State) ht c _ => ht.trans (.placeRequest j due)) (.of_channels rfl)

theorem State.SameAir.toHead (f : Descriptor → Descriptor) : s.SameAir (s.toHead h f) :=
  .of_rest fun _ => State.rest_toHead f

theorem State.SameAir.freeMessage : s.SameAir (s.freeMessage h) := .of_rest fun _ => State.rest_freeMessage

theorem State.SameAir.freeWith (e : Event) (fs : List Field) : s.SameAir (s.freeWith h e fs) :=
  State.SameAir.freeMessage.trans (.of_channels State.channels_rejudgeGrant)

theorem State.SameAir.items (hair : s.SameAir t) : t.items = s.items := funext fun d => (hair d).1

theorem State.SameAir.keyedOk (hair : s.SameAir t) (hs : s.keyedOk) : t.keyedOk := fun d => by
  rw [(hair d).1, (hair d).2]
  exact hs d

/-- The laws of the traffic are kept with the items. -/
theorem State.trafficOk.keep (hs : s.trafficOk) (ht : s.Traffic s.items → t.Traffic s.items) (hair : s.SameAir t) :
    t.trafficOk := by
  have htraffic := ht hs.traffic
  rw [← hair.items] at htraffic
  exact htraffic.trafficOk (hair.keyedOk hs.keyedOk)

/-! ### Between two items of a channel -/

/-- A keyed channel between two items, `v` standing for what it has still to settle. -/
def State.undecided (s : State) (c : ChannelNo) (v : Item) : Prop :=
  s.Traffic (Function.update s.items c v) ∧ (s.chan c).state.keyed = true
    ∧ ∀ d, d ≠ c → ((s.chan d).state.keyed = true ↔ (s.chan d).item ≠ .noItem)

theorem State.items_of_others (hothers : ∀ d, d ≠ c → (t.chan d).item = (s.chan d).item) :
    Function.update t.items c i = Function.update s.items c i := by
  funext d
  by_cases hd : d = c
  · rw [hd, Function.update_self, Function.update_self]
  · rw [Function.update_of_ne hd, Function.update_of_ne hd]
    exact hothers d hd

theorem State.undecided.keep (hs : s.undecided c v) (ht : t.Traffic (Function.update s.items c v')) (hair : s.SameAir t) :
    t.undecided c v' := by
  refine ⟨?_, ?_, fun d hd => ?_⟩
  · rwa [State.items_of_others fun d _ => (hair d).1]
  · rw [(hair c).2]
    exact hs.2.1
  · rw [(hair d).1, (hair d).2]
    exact hs.2.2 d hd

/-- The next item begins, or the channel is keyed no longer. -/
theorem State.undecided.begins (hs : s.undecided c v) (ht : t.Traffic (Function.update s.items c i))
    (hothers : ∀ d, d ≠ c → (t.chan d).item = (s.chan d).item ∧ (t.chan d).state = (s.chan d).state)
    (hitem : (t.chan c).item = i) (hkeyed : (t.chan c).state.keyed = true ↔ i ≠ .noItem) : t.trafficOk := by
  refine State.Traffic.trafficOk ?_ fun d => ?_
  · rw [← State.items_of_others fun d hd => (hothers d hd).1] at ht
    rwa [← hitem, show (t.chan c).item = t.items c from rfl, Function.update_eq_self] at ht
  · by_cases hd : d = c
    · rw [hd, hitem]
      exact hkeyed
    · rw [(hothers d hd).1, (hothers d hd).2]
      exact hs.2.2 d hd

/-- Items with the same message and the same request may stand for one another. -/
theorem State.Traffic.reitem (hs : s.Traffic it) (hm : i.message = (it c).message)
    (hair : i.onAirRequest = (it c).onAirRequest)
    (hsuits : ∀ h, i.message = some h → (it c).suits (s.desc h) → i.suits (s.desc h))
    (hrelay : ∀ h, i = .relay h → it c = .relay h) : s.Traffic (Function.update it c i) := by
  have hat (d : ChannelNo) : d = c ∧ Function.update it c i d = i ∨ Function.update it c i d = it d := by
    by_cases hd : d = c
    · exact .inl ⟨hd, by rw [hd, Function.update_self]⟩
    · exact .inr (Function.update_of_ne hd ..)
  refine ⟨hs.messages.items (fun d => ?_) (fun d h hold hd => ?_) fun d h hr => ?_, hs.loads,
    hs.bulletins.congr (fun _ => rfl) (fun _ => rfl) fun d => ?_⟩
  · rcases hat d with ⟨rfl, he⟩ | he <;> rw [he]
    exact hm
  · rcases hat d with ⟨rfl, he⟩ | he <;> rw [he]
    · exact hsuits h (hm.trans hold) hd
    · exact hd
  · rcases hat d with ⟨rfl, he⟩ | he <;> rw [he] at hr
    · exact hrelay h hr
    · exact hr
  · rcases hat d with ⟨rfl, he⟩ | he <;> rw [he]
    exact hair

/-- What a channel still has to settle, as the item that closes it. -/
def unsettled : Option Closes → Item
  | some w => .marker w .bulletinCut 0
  | none => .idle

/-- R116. A plan ends beyond the resume point and within the text. -/
theorem State.planned_within {n e : Nat} {header : Bool} {lc : LineCase}
    (hp : (s.fitTest c h n header lc).planned = some e) : (s.desc h).resume < e ∧ e ≤ (s.desc h).length := by
  obtain ⟨⟨hlo, hhi, -⟩, -⟩ := State.planned_qualifies hp
  have hr : (s.remainder c h).r = (s.desc h).resume := rfl
  have hL : (s.remainder c h).L = (s.desc h).length := rfl
  rw [hr, hL] at hhi
  rw [hr] at hlo
  omega

/-- A channel's own message that is ACTIVE is the one still to settle. -/
theorem State.undecided.unfinished_iff (hs : s.undecided c v) :
    s.unfinished c = some h ↔ v.message = some h ∧ (s.desc h).cls ≠ .relay := by
  have haired := hs.1.messages.aired c h
  rw [Function.update_self] at haired
  have hslot := hs.1.messages.listed c .slot h
  unfold State.unfinished
  rw [Option.filter_eq_some_iff, haired]
  constructor
  · rintro ⟨hactive, hstate⟩
    obtain ⟨hc, hcls, -⟩ := hslot.1 hactive
    exact ⟨⟨hc, of_decide_eq_true hstate⟩, hcls⟩
  · rintro ⟨⟨hc, hstate⟩, hcls⟩
    exact ⟨hslot.2 ⟨hc, hcls, .inl hstate⟩, decide_eq_true hstate⟩

end

end Sys2Proof.Machine
end

section
/-! Every choice of a decision point keeps the laws of the traffic, and so do the judging of key-up causes and the cut
requests (sections 7.2 to 7.5, 8.3 and 8.6). -/

namespace Sys2Proof.Machine

section
variable {s t : State} {c : ChannelNo} {h : Handle} {q : Request} {it : ChannelNo → Item} {i v : Item}

/-! ### The choices, one by one -/

theorem State.undecided.begin_blank (hs : s.undecided c .idle) (hi : i.blank) {f : Channel → Channel}
    (hf : (f (s.chan c)).traffic = (s.chan c).traffic) (hitem : (f (s.chan c)).item = i)
    (hkeyed : (f (s.chan c)).state.keyed = true ↔ i ≠ .noItem) : (s.modChan c f).trafficOk := by
  have hself : (s.modChan c f).chan c = f (s.chan c) := (State.chan_modChan ..).trans (if_pos rfl)
  refine hs.begins (i := i) (State.Traffic.congr (s := s) ?_ (.modChan hf)) (fun d hd => ?_) (by rw [hself]; exact hitem)
    (by rw [hself]; exact hkeyed)
  · have hblank := hs.1.recast (it' := Function.update s.items c i) fun d => by
      by_cases hd : d = c
      · rw [hd, Function.update_self, Function.update_self]
        exact .inr ⟨⟨rfl, rfl⟩, hi⟩
      · rw [Function.update_of_ne hd, Function.update_of_ne hd]
        exact .inl rfl
    exact hblank
  · rw [State.chan_modChan, if_neg hd]
    exact ⟨rfl, rfl⟩

/-- The item of a channel begins or goes on; it stands for what was to settle. -/
theorem State.undecided.began {f : Channel → Channel} (hs : s.undecided c v) (hf : (f (s.chan c)).traffic = (s.chan c).traffic)
    (hstate : (f (s.chan c)).state = (s.chan c).state) (hitem : (f (s.chan c)).item = i) (hm : i.message = v.message)
    (hair : i.onAirRequest = v.onAirRequest) (hsuits : ∀ h, i.message = some h → v.suits (s.desc h) → i.suits (s.desc h))
    (hrelay : ∀ h, i = .relay h → v = .relay h) (hi : i ≠ .noItem) : (s.modChan c f).trafficOk := by
  have hself : (s.modChan c f).chan c = f (s.chan c) := (State.chan_modChan ..).trans (if_pos rfl)
  have hnew := hs.1.reitem (c := c) (i := i) (by rwa [Function.update_self]) (by rwa [Function.update_self])
    (fun h hm' hv => hsuits h hm' (by rwa [Function.update_self] at hv))
    (fun h hr => by rw [Function.update_self]; exact hrelay h hr)
  rw [Function.update_idem] at hnew
  refine hs.begins (State.Traffic.congr hnew (.modChan hf)) (fun d hd => ?_) (by rw [hself]; exact hitem) ?_
  · rw [State.chan_modChan, if_neg hd]
    exact ⟨rfl, rfl⟩
  · rw [hself, hstate]
    exact iff_of_true hs.2.1 hi

theorem State.undecided.beginItem (hs : s.undecided c v) (hm : i.message = v.message) (hair : i.onAirRequest = v.onAirRequest)
    (hsuits : ∀ h, i.message = some h → v.suits (s.desc h) → i.suits (s.desc h)) (hrelay : ∀ h, i = .relay h → v = .relay h)
    (hi : i ≠ .noItem) : (s.beginItem c i).trafficOk :=
  hs.began (f := fun ch => { ch with item := i, idleSince := none }) rfl rfl rfl hm hair hsuits hrelay hi

theorem State.undecided.congr (hs : s.undecided c v) (hsame : s.SameTraffic t) (hair : s.SameAir t) : t.undecided c v :=
  hs.keep (hs.1.congr hsame) hair

theorem State.undecided.recordFit (hs : s.undecided c v) (f : FitRecord) : (s.recordFit c f).undecided c v :=
  hs.congr .modChan .modChan

theorem State.undecided.endRequest (hs : s.undecided c v) (hq : q ∈ (s.chan c).requests) (hwaits : q.state = .waiting)
    (o : BulletinOutcome) (l : Option Nat) (quiet : Bool) : (s.endRequest c q o l quiet).undecided c v :=
  hs.keep (hs.1.endRequest hq hwaits o l quiet) (.endRequest o l quiet)

/-- The PARKED message of the slot, and where it stands. -/
theorem State.Traffic.parked (hs : s.Traffic it) (hp : s.parkedMessage c = some h) :
    (s.desc h).channel = c ∧ (s.desc h).cls ≠ .relay ∧ (s.desc h).state = .parked := by
  obtain ⟨hactive, hstate⟩ := State.parkedMessage_eq_some_iff.1 hp
  obtain ⟨hc, hcls, -⟩ := (hs.messages.listed c .slot h).1 hactive
  exact ⟨hc, hcls, hstate⟩

/-- R110, R145. The PARKED message of the slot is returned SUSPENDED. -/
theorem State.Traffic.suspendParked (hs : s.Traffic it) (hp : s.parkedMessage c = some h) : (s.suspend h).Traffic it := by
  obtain ⟨-, hcls, hstate⟩ := hs.parked hp
  have hnew := hs.suspend (h := h) (by rw [hstate]; decide) hcls
  rwa [hs.messages.left_eq (by rw [hstate]; decide)] at hnew

/-- A candidate of cases 3 and 4, and where it stands. -/
theorem State.Traffic.candidate {fresh : Bool} (hs : s.Traffic it) (hm : s.candidate c h fresh) :
    (s.desc h).channel = c ∧ (s.desc h).cls ≠ .relay
      ∧ if fresh then (s.chan c).active = none ∧ ((s.desc h).state = .ready ∨ (s.desc h).state = .suspended)
        else (s.desc h).state = .parked := by
  cases fresh with
  | false =>
    obtain ⟨hc, hcls, hstate⟩ := hs.parked hm.1
    exact ⟨hc, hcls, hstate⟩
  | true =>
    have hqueue {k : MsgClass} (hk : k ≠ .relay) (hq : h ∈ (s.chan c).queue k) : (s.desc h).channel = c
        ∧ (s.desc h).cls ≠ .relay ∧ ((s.desc h).state = .ready ∨ (s.desc h).state = .suspended) := by
      obtain ⟨hc, hcls, hstate⟩ := (hs.messages.listed c (.queue k) h).1 hq
      refine ⟨hc, hcls ▸ hk, hstate.imp_right fun hstate => hstate.resolve_right fun hr => hk hr.1⟩
    have hchosen : s.chooseNew c = some h := hm.2
    have hmem {q : List Handle} (hq : s.oldestEligible c q = some h) : h ∈ q := List.mem_of_find?_eq_some hq
    have hplace : (s.desc h).channel = c ∧ (s.desc h).cls ≠ .relay
        ∧ ((s.desc h).state = .ready ∨ (s.desc h).state = .suspended) := by
      rcases State.chooseNew_eq_some_iff.1 hchosen with hh | hh | hh
      · exact hqueue (k := .urgent) nofun (hmem hh.2)
      · exact hqueue (k := .ordinary) nofun (hmem hh.2)
      · exact hqueue (k := .urgent) nofun (hmem hh.2.2)
    exact ⟨hplace.1, hplace.2.1, hm.1, hplace.2.2⟩

/-- R114. A candidate whose plan fits starts. -/
theorem State.undecided.startTelex {fresh : Bool} {e : Nat} {f : FitRecord} (hs : s.undecided c .idle)
    (hm : s.candidate c h fresh) (he : (s.desc h).resume < e ∧ e ≤ (s.desc h).length) :
    ((s.recordFit c f).startTelex c h e fresh).trafficOk := by
  obtain ⟨hc, hcls, hplace⟩ := hs.1.candidate hm
  obtain ⟨-, -, hr, hlen, hpos⟩ := hs.1.messages.lawful h
  have htaker : (s.taker c h fresh).state = (s.chan c).state := by cases fresh <;> rfl
  have hstarts (i : Item) (hi : i.message = some h) (hsuits : i.suits { s.desc h with state := .active })
      (hrelay : i ≠ .relay h) : ((s.setDesc h { s.desc h with state := .active }).setChan c
        { s.taker c h fresh with item := i, idleSince := none, lastFit := some f }).trafficOk := by
    have hair : i.onAirRequest = none := Item.onAirRequest_of_message hi
    have hitem : i ≠ .noItem := fun he => by rw [he] at hi; cases hi
    refine hs.begins (i := i) ?_ (fun d hd => ?_) ?_ ?_
    · cases fresh with
      | true =>
        have hfresh := hs.1.startFresh (c := c) (i := i) (x := { s.taker c h true with
          item := i, idleSince := none, lastFit := some f }) (by rw [Function.update_self]; exact ⟨rfl, rfl⟩) hplace.1 hi hc
          hcls hplace.2 hsuits rfl
        rwa [Function.update_idem] at hfresh
      | false =>
        have hparked : (s.desc h).state = .parked := hplace
        have hset := hs.1.setDesc_on_air (c := c) (h := h) (i := i) (d' := { s.desc h with state := .active })
          (.inl (by rw [Function.update_self]; rfl)) (by rw [Function.update_self]; rfl) hi hc (by rw [hparked]; decide)
          (fun c p => by cases p <;> simp [Descriptor.isIn, hparked]; exact fun _ hk hr => hcls (hk.trans hr)) hsuits
          ⟨hc, rfl, rfl⟩ ⟨fun he => absurd he hcls, nofun, hr, hlen, fun _ _ => hpos (by rw [hparked]; decide)
            (by rw [hparked]; decide)⟩ fun he => absurd he hrelay
        rw [Function.update_idem] at hset
        exact hset.congr .setChan
    · rw [State.chan_setChan, if_neg hd]
      exact ⟨rfl, rfl⟩
    · rw [State.chan_setChan, if_pos rfl]
    · rw [State.chan_setChan, if_pos rfl]
      refine iff_of_true ?_ hitem
      show (s.taker c h fresh).state.keyed = true
      rw [htaker]
      exact hs.2.1
  by_cases hres : (s.desc h).resuming = true
  · rw [State.startTelex_of_resuming hres]
    exact (hstarts (.header h (headerCost (s.chan c).lineCase) 0 e none) rfl ⟨hcls, he⟩ nofun).keep
      (fun ht => ht.congr (.of_parts rfl rfl rfl rfl)) (.of_channels rfl)
  · rw [State.startTelex_of_new hres]
    exact hstarts (.segment h (s.desc h).resume e none) rfl ⟨hcls, Nat.le_refl _, he⟩ nofun

/-- R108. The head relay starts. -/
theorem State.undecided.startRelay {hs' : List Handle} (hs : s.undecided c .idle) (hq : (s.chan c).relayQ = h :: hs') :
    (s.startRelay c h).trafficOk := by
  have hmem : (s.chan c).has h (.queue .relay) := by
    show h ∈ (s.chan c).relayQ
    rw [hq]
    exact List.mem_cons_self ..
  obtain ⟨hc, hcls, hstate⟩ := (hs.1.messages.listed c _ h).1 hmem
  obtain ⟨hrelay, -, hr, hlen, hpos⟩ := hs.1.messages.lawful h
  have hready : (s.desc h).state = .ready := by
    rcases hstate with he | he | ⟨-, he⟩
    · exact he
    · exact absurd (by rw [he]; decide) (hrelay hcls)
    · have hm := (hs.1.messages.aired c h).2 ⟨hc, he⟩
      rw [Function.update_self] at hm
      cases hm
  have hlong := hpos (by rw [hready]; decide) (by rw [hready]; decide)
  have hset := hs.1.setDesc_on_air (c := c) (h := h) (i := .relay h) (d' := { s.desc h with state := .active, resume := 0 })
    (.inl (by rw [Function.update_self]; rfl)) (by rw [Function.update_self]; rfl) rfl hc (by rw [hready]; decide)
    (fun c p => by cases p <;> simp [Descriptor.isIn, hready, hcls]; exact fun _ he => he.symm) ⟨hcls, hlong⟩ ⟨hc, rfl, rfl⟩
    ⟨fun _ => by simp, nofun, Nat.zero_le _, hlen, fun _ _ => hlong⟩ fun _ => by rw [hq]; rfl
  rw [Function.update_idem] at hset
  have hself : (s.startRelay c h).chan c = { s.chan c with item := .relay h, idleSince := none } :=
    (State.chan_modChan ..).trans (if_pos rfl)
  refine hs.begins (i := .relay h) (hset.congr (.modChan (f := fun ch => { ch with item := .relay h, idleSince := none })))
    (fun d hd => ?_) (by rw [hself]) ?_
  · rw [State.startRelay, State.beginItem, State.chan_modChan, if_neg hd]
    exact ⟨rfl, rfl⟩
  · rw [hself]
    exact iff_of_true hs.2.1 nofun

/-- R95. A due request starts. -/
theorem State.undecided.startBulletin (hs : s.undecided c .idle) (hq : q ∈ (s.chan c).requests)
    (hready : (s.area q.area).state = .ready) : (s.startBulletin c q).trafficOk := by
  have hnew := hs.1.startBulletin (c := c) (by rw [Function.update_self]; exact ⟨rfl, rfl⟩) hq hready
  rw [Function.update_idem] at hnew
  obtain ⟨u, hbegins, hair⟩ : ∃ u, s.startBulletin c q = u.beginItem c (.bulletin q.slot q.due q.area 0 none) ∧ s.SameAir u :=
    ⟨(s.modRequest c q.slot q.due fun r =>
      { r with state := .onAir, firstStart := some (r.firstStart.getD s.now) }).enterArea q.area, rfl,
      (State.SameAir.modChan (f := fun ch => { ch with
      requests := ch.requests.map fun r => if r.isFor q.slot q.due then
        { r with state := .onAir, firstStart := some (r.firstStart.getD s.now) } else r })).trans (.of_channels rfl)⟩
  rw [hbegins] at hnew ⊢
  have hchan (d : ChannelNo) : (u.beginItem c (.bulletin q.slot q.due q.area 0 none)).chan d = if d = c then
      { u.chan c with item := .bulletin q.slot q.due q.area 0 none, idleSince := none } else u.chan d := State.chan_modChan ..
  refine hs.begins hnew (fun d hd => ?_) ?_ ?_
  · rw [hchan, if_neg hd]
    exact hair d
  · rw [hchan, if_pos rfl]
  · rw [hchan, if_pos rfl]
    refine iff_of_true ?_ nofun
    show (u.chan c).state.keyed = true
    rw [(hair c).2]
    exact hs.2.1

/-- R145. A channel with nothing to settle reaches OFFLINE. -/
theorem State.Traffic.reachOffline (hs : s.Traffic it) (hblank : (it c).blank) : (s.reachOffline c).Traffic it := by
  obtain ⟨ns, st, heq, -⟩ := s.reachOffline_eq c
  have hoff : (s.switchedOff c).Traffic it := hs.congr .setChan
  have hclosed : ((s.switchedOff c).closeParked c).Traffic it := by
    cases hp : (s.switchedOff c).parkedMessage c with
    | none => rwa [State.closeParked_of_none hp]
    | some h =>
      rw [State.closeParked_of_some hp]
      exact (hoff.suspendParked hp).congr (.of_parts rfl rfl rfl rfl)
  obtain ⟨u, hu⟩ : ∃ u, u = (s.switchedOff c).closeParked c := ⟨_, rfl⟩
  rw [heq, ← hu]
  rw [← hu] at hclosed
  refine hclosed.keep (c := c) (f := fun _ => false) (fun _ => rfl) (fun d => ?_) (fun d => ?_) rfl (fun _ => rfl)
    fun q hq hair => ?_
  · rw [State.chan_setChan]
    split
    · next hd => rw [hd]; rfl
    · rfl
  · rw [State.chan_setChan, List.filter_false]
    split
    · rfl
    · rfl
  · have hkey := (hclosed.bulletins.onAir c q hq).1 hair
    rw [hblank.2] at hkey
    cases hkey

theorem State.chan_reachOffline (d : ChannelNo) : d ≠ c → ((s.reachOffline c).chan d).item = (s.chan d).item
    ∧ ((s.reachOffline c).chan d).state = (s.chan d).state := by
  intro hd
  obtain ⟨ns, st, heq, -⟩ := s.reachOffline_eq c
  have hclosed : (((s.switchedOff c).closeParked c).chan d).rest = ((s.switchedOff c).chan d).rest := by
    cases hp : (s.switchedOff c).parkedMessage c with
    | none => rw [State.closeParked_of_none hp]
    | some h =>
      rw [State.closeParked_of_some hp]
      exact State.rest_toHead _
  have hswitched : (s.switchedOff c).chan d = s.chan d := (State.chan_setChan ..).trans (if_neg hd)
  rw [hswitched] at hclosed
  rw [heq, State.chan_setChan, if_neg hd]
  exact ⟨(congrArg Channel.item hclosed :), (congrArg Channel.state hclosed :)⟩

end

end Sys2Proof.Machine
end

section
/-! Decision points, key-ups and cut requests keep the laws of the traffic. -/

namespace Sys2Proof.Machine

section
variable {s t : State} {c : ChannelNo} {h : Handle} {q : Request} {it : ChannelNo → Item} {i v : Item}

/-- What is known before a decision point has chosen: `g` is what is still to settle, the bulletin that was cut or the
unfinished message. -/
def State.settling (c : ChannelNo) (cut g : Option Closes) (s : State) : Prop :=
  s.undecided c (unsettled g) ∧ (g = cut ∨ ∃ h, g = some (.message h))

theorem State.Bulletins.distinct (hs : s.Bulletins it) : s.occurrencesDistinct c :=
  (hs.ordered c).2.imp fun {p q} hbefore => by
    refine Bool.eq_false_of_not_eq_true fun hfor => ?_
    obtain ⟨hslot, hdue⟩ := Request.isFor_iff.1 hfor
    simp [Request.before_iff, hslot, hdue] at hbefore

theorem State.settling.undecided_message {cut g : Option Closes} (hs : State.settling c cut g s)
    (hu : s.unfinished c = some h) : State.settling c cut (some (.message h)) s := by
  obtain ⟨hm, -⟩ := (hs.1.unfinished_iff).1 hu
  cases g with
  | none => cases hm
  | some w =>
    cases w with
    | request => cases hm
    | message g =>
      cases hm
      exact ⟨hs.1, .inr ⟨_, rfl⟩⟩

theorem State.settling.finished {cut g : Option Closes} (hs : State.settling c cut g s) (hu : s.unfinished c = none) :
    State.settling c cut cut s := by
  obtain ⟨hP, rfl | ⟨h, rfl⟩⟩ := hs
  · exact ⟨hP, .inl rfl⟩
  · have hcls : (s.desc h).cls ≠ .relay := by
      have hsuits := hP.1.messages.suits c h (by rw [Function.update_self]; rfl)
      rwa [Function.update_self] at hsuits
    have hunfinished := (hP.unfinished_iff (h := h)).2 ⟨rfl, hcls⟩
    rw [hu] at hunfinished
    cases hunfinished

theorem State.undecided.beginMarker {w : Closes} (hs : s.undecided c (unsettled (some w))) (p : Purpose) :
    (s.beginMarker c w p).trafficOk :=
  State.undecided.beginItem hs (by cases w <;> rfl) (by cases w <;> rfl) (fun _ _ hd => hd) nofun nofun

theorem State.undecided.unkey (hs : s.undecided c .idle) : (s.unkey c).trafficOk :=
  (hs.begin_blank (i := .noItem) ⟨rfl, rfl⟩ (f := fun ch => { ch with state := .standby, item := .noItem, idleSince := none })
    rfl rfl (iff_of_false nofun fun hno => hno rfl)).keep (fun ht => ht.congr (.of_parts rfl rfl rfl rfl)) (.of_channels rfl)

theorem State.undecided.reachOffline (hs : s.undecided c .idle) : (s.reachOffline c).trafficOk := by
  have hoff := hs.1.reachOffline (c := c) (by rw [Function.update_self]; exact ⟨rfl, rfl⟩)
  have hnone := hoff.reitem (c := c) (i := .noItem) (by rw [Function.update_self]; rfl) (by rw [Function.update_self]; rfl)
    nofun nofun
  rw [Function.update_idem] at hnone
  obtain ⟨-, ⟨st, hrest⟩, -⟩ := s.reachOffline_closed c
  have hitem : ((s.reachOffline c).chan c).item = .noItem := (congrArg Channel.item hrest :)
  have hstate : ((s.reachOffline c).chan c).state = .offline := (congrArg Channel.state hrest :)
  refine hs.begins hnone (fun d hd => State.chan_reachOffline d hd) hitem ?_
  rw [hstate]
  exact iff_of_false nofun fun hno => hno rfl

/-- Every choice of a decision point keeps the laws of the traffic. -/
theorem State.settling_deciding (c : ChannelNo) (cut : Option Closes) :
    State.Deciding c True cut (State.settling c cut) State.trafficOk where
  distinct _ _ _ hP := hP.1.1.bulletins.distinct
  distinctAfter _ _ hQ := hQ.traffic.bulletins.distinct
  drawn hP := ⟨hP.1.congr (.of_parts rfl rfl rfl rfl) (.of_channels rfl), hP.2⟩
  take {_ _ j} hP _ := ⟨hP.1.keep (hP.1.1.takeOccurrence j) (.takeOccurrence j), hP.2⟩
  unfinished hP hu := hP.undecided_message hu
  finished hP hu := hP.finished hu
  record f hP := ⟨hP.1.recordFit f, hP.2⟩
  ends o l hP hwaits hq := ⟨hP.1.endRequest (hq trivial) hwaits o l false, hP.2⟩
  endsAfter o l hQ hwaits hq := hQ.keep (fun ht => ht.endRequest (hq trivial) hwaits o l false) (.endRequest o l false)
  returned {s h} hP hp :=
    ⟨State.undecided.congr (s := s.suspend h) (hP.1.keep (hP.1.1.suspendParked hp) (.toHead _))
      (.of_parts rfl rfl rfl rfl) (.of_channels rfl), hP.2⟩
  marker p hP := hP.1.beginMarker p
  segment hP _ hp := State.undecided.beginItem (hP.1.recordFit _) rfl rfl
    (fun h hm hd => by
      cases hm
      have hwithin := State.planned_within hp
      exact ⟨hd, Nat.le_refl _, hwithin⟩) nofun nofun
  telex hP hm hp := State.undecided.startTelex hP.1 hm (State.planned_within hp)
  relay hP hq := State.undecided.startRelay hP.1 hq
  bulletin hP _ hq hready := State.undecided.startBulletin hP.1 (hq trivial) hready
  idle hP := State.undecided.begin_blank hP.1 ⟨rfl, rfl⟩ rfl rfl (iff_of_true hP.1.2.1 nofun)
  unkey hP := State.undecided.unkey hP.1
  offline hP := State.undecided.reachOffline hP.1

theorem State.settling.decisionPoint {cut g : Option Closes} (hs : State.settling c cut g s) :
    (s.decisionPoint c cut).trafficOk := (State.settling_deciding c cut).decisionPoint hs

/-- The item in progress has ended. -/
theorem State.settling.noItem {cut g : Option Closes} (hs : State.settling c cut g s) :
    State.settling c cut g (s.modChan c fun ch => { ch with item := .noItem }) := by
  have hother (d : ChannelNo) (hd : d ≠ c) : (s.modChan c fun ch => { ch with item := .noItem }).chan d = s.chan d :=
    (State.chan_modChan ..).trans (if_neg hd)
  refine ⟨⟨?_, ?_, fun d hd => ?_⟩, hs.2⟩
  · rw [State.items_of_others (s := s) fun d hd => by rw [hother d hd]]
    exact hs.1.1.congr (.modChan (f := fun ch => { ch with item := .noItem }))
  · rw [State.chan_modChan, if_pos rfl]
    exact hs.1.2.1
  · rw [hother d hd]
    exact hs.1.2.2 d hd

/-- A channel that is not keyed comes on the air with nothing to settle. -/
theorem State.trafficOk.settling_keyed (hs : s.trafficOk) (hoff : (s.chan c).state.keyed = false) :
    State.settling c none none (s.keyed c) := by
  have hitem : (s.chan c).item = .noItem := by
    by_contra hno
    rw [(hs.keyedOk c).2 hno] at hoff
    cases hoff
  have hother (d : ChannelNo) (hd : d ≠ c) : (s.keyed c).chan d = s.chan d := (State.chan_modChan ..).trans (if_neg hd)
  refine ⟨⟨?_, ?_, fun d hd => ?_⟩, .inl rfl⟩
  · rw [State.items_of_others (s := s) fun d hd => by rw [hother d hd]]
    have hidle := hs.traffic.reitem (c := c) (i := .idle) (by rw [State.items, hitem]; rfl) (by rw [State.items, hitem]; rfl)
      nofun nofun
    exact hidle.congr (.modChan (f := fun ch => { ch with
      state := .onAir, lineCase := .unknown, symbolEnd := s.clock.elapsed + ch.settings.period, idleSince := none
      item := .noItem }))
  · rw [State.keyed, State.chan_modChan, if_pos rfl]
    rfl
  · rw [hother d hd]
    exact hs.keyedOk d

/-- A change of a channel that is not keyed, and stays so. -/
theorem State.trafficOk.modChan_off {f : Channel → Channel} (hs : s.trafficOk)
    (hf : (f (s.chan c)).traffic = (s.chan c).traffic) (hitem : (f (s.chan c)).item = (s.chan c).item)
    (hold : (s.chan c).state.keyed = false) (hnew : (f (s.chan c)).state.keyed = false) : (s.modChan c f).trafficOk := by
  have hitems : (s.modChan c f).items = s.items := by
    funext d
    rw [State.items, State.chan_modChan]
    split
    · next hd => rw [hitem, hd]; rfl
    · rfl
  refine State.Traffic.trafficOk ?_ fun d => ?_
  · rw [hitems]
    exact hs.traffic.congr (.modChan hf)
  · rw [State.chan_modChan]
    split
    · next hd =>
      have hk := hs.keyedOk c
      rw [hold] at hk
      rw [hnew, hitem]
      exact hk
    · exact hs.keyedOk d

theorem State.trafficOk.emit (hs : s.trafficOk) (e : Event) (ch : Option ChannelNo) (fs : List Field) :
    (s.emit e ch fs).trafficOk := hs.keep (fun ht => ht.congr (.of_parts rfl rfl rfl rfl)) (.of_channels rfl)

theorem State.trafficOk.keyUp (hs : s.trafficOk) (hstandby : (s.chan c).state = .standby) : (s.keyUp c).trafficOk := by
  have hwaits : (s.modChan c fun ch => { ch with state := .keyUp, keyRise := s.clock.elapsed }).trafficOk :=
    hs.modChan_off rfl rfl (by rw [hstandby]; rfl) rfl
  refine (State.settling_deciding c none).keyUp (g := none) (hwaits.settling_keyed ?_) (fun e ch fs ht => ht.emit e ch fs) hwaits
  rw [State.chan_modChan, if_pos rfl]
  rfl

/-- The judging of key-up causes keeps the laws of the traffic. -/
theorem State.trafficOk.judgeKeyUp (hs : s.trafficOk) (cs : List ChannelNo) : (s.judgeKeyUp cs).trafficOk :=
  State.judgeWithin_induction (R := State.trafficOk) (fun ht hstandby => ht.keyUp hstandby) _ cs hs

/-! ### Cut requests -/

/-- An item in progress is replaced by one with the same message and the same request. -/
theorem State.trafficOk.reitem {f : Channel → Channel} (hs : s.trafficOk) (hf : (f (s.chan c)).traffic = (s.chan c).traffic)
    (hstate : (f (s.chan c)).state = (s.chan c).state) (hm : (f (s.chan c)).item.message = (s.chan c).item.message)
    (hair : (f (s.chan c)).item.onAirRequest = (s.chan c).item.onAirRequest)
    (hsuits : ∀ h, (f (s.chan c)).item.message = some h → (s.chan c).item.suits (s.desc h) → (f (s.chan c)).item.suits (s.desc h))
    (hrelay : ∀ h, (f (s.chan c)).item = .relay h → (s.chan c).item = .relay h)
    (hno : (f (s.chan c)).item = .noItem ↔ (s.chan c).item = .noItem) : (s.modChan c f).trafficOk := by
  have hitems : (s.modChan c f).items = Function.update s.items c (f (s.chan c)).item := by
    funext d
    rw [State.items, State.chan_modChan]
    by_cases hd : d = c
    · rw [if_pos hd, hd, Function.update_self]
    · rw [if_neg hd, Function.update_of_ne hd]
      rfl
  refine State.Traffic.trafficOk ?_ fun d => ?_
  · rw [hitems]
    exact (hs.traffic.reitem hm hair hsuits hrelay).congr (.modChan hf)
  · rw [State.chan_modChan]
    split
    · rw [hstate, hs.keyedOk c, ne_eq, ne_eq, hno]
    · exact hs.keyedOk d

/-- R125. A cut keeps the planned end beyond the resume point and within the text. -/
theorem cutSegment_within {symbol : Nat → Nat} {L x e : Nat} {cut : Option Nat} (he : x < e ∧ e ≤ L) :
    x < (cutSegment symbol L x e cut).1 ∧ (cutSegment symbol L x e cut).1 ≤ L := by
  unfold cutSegment
  split
  · next b hb =>
    split
    · next hbe =>
      have hmem := List.mem_of_find?_eq_some hb
      rw [List.mem_range'] at hmem
      obtain ⟨n, -, rfl⟩ := hmem
      exact ⟨by omega, hbe.le.trans he.2⟩
    · exact he
  · exact he

theorem State.trafficOk.cutTelex (hs : s.trafficOk) : (s.cutTelex c).trafficOk := by
  unfold State.cutTelex
  split
  · next h start e cut hitem =>
    refine hs.reitem rfl rfl (by rw [hitem]; rfl) (by rw [hitem]; rfl) (fun g hm hd => ?_) nofun (by rw [hitem]; simp)
    cases hm
    rw [hitem] at hd
    obtain ⟨hcls, hstart, he⟩ := hd
    exact ⟨hcls, hstart, cutSegment_within he⟩
  · next h cost keyed e cut hitem =>
    refine hs.reitem rfl rfl (by rw [hitem]; rfl) (by rw [hitem]; rfl) (fun g hm hd => ?_) nofun (by rw [hitem]; simp)
    cases hm
    rw [hitem] at hd
    obtain ⟨hcls, he⟩ := hd
    exact ⟨hcls, cutSegment_within he⟩
  all_goals exact hs

theorem State.trafficOk.cutBulletin (hs : s.trafficOk) : (s.cutBulletin c).trafficOk := by
  unfold State.cutBulletin
  split
  · next slot due a pos hitem =>
    exact hs.reitem rfl rfl (by rw [hitem]; rfl) (by rw [hitem]; rfl) nofun nofun (by rw [hitem]; simp)
  all_goals exact hs

theorem State.trafficOk.relayReady (hs : s.trafficOk) : (s.relayReady c).trafficOk := by
  unfold State.relayReady
  split
  · exact hs.cutTelex.cutBulletin
  · exact hs

theorem State.trafficOk.cancelActive (hs : s.trafficOk) : (s.cancelActive c h).trafficOk := by
  unfold State.cancelActive
  split
  · next g p keyed hitem =>
    split
    · next he =>
      subst he
      refine hs.reitem rfl rfl (by rw [hitem]; rfl) (by rw [hitem]; rfl) (fun g hm hd => ?_) nofun (by rw [hitem]; simp)
      rw [hitem] at hd
      exact hd
    · exact hs
  · split
    · exact hs.cutTelex
    · exact hs
  · split
    · exact hs.cutTelex
    · exact hs
  all_goals exact hs

end

end Sys2Proof.Machine
end

section
/-! A segment that begins is planned in time and goes to no ship held (R112, R119), whatever else is decided in the same
step. -/

namespace Sys2Proof.Machine

/-! ### What begins, and what a beginning segment has to meet -/

/-- No segment begins from the one item of a channel to the other (R112). -/
def Item.leadsTo (old : Item) : Item → Prop
  | .header h _ _ _ _ => ∃ k n e cut, old = .header h k n e cut
  | .segment h r _ _ => (∃ k n e cut, old = .header h k n e cut) ∨ ∃ e cut, old = .segment h r e cut
  | .noItem | .idle | .marker _ _ _ | .relay _ | .bulletin _ _ _ _ _ => True

/-- An item stands at the first symbol of a segment: of its header, or of its text from `r` on. -/
def Item.starts (it : Item) (r : Nat) (h : Handle) (header : Option Nat) (e : Nat) : Prop :=
  match header with
  | some cost => ∃ cut, it = .header h cost 0 e cut
  | none => ∃ cut, it = .segment h r e cut

/-- R112 and R119. The ship of a message is not held, and a segment of it to `e` ends, with its marker, in time. -/
def State.timely (s : State) (c : ChannelNo) (h : Handle) (header : Option Nat) (e : Nat) : Prop :=
  (∀ r ∈ (s.chan c).holds, r.ship ≠ (s.desc h).dest)
  ∧ ∀ due, s.nextBulletin c = some due →
    s.now + (s.chan c).settings.guard + (s.chan c).settings.period * (header.getD 0 + (e - (s.desc h).resume)
      + shiftCount (if header.isSome then .figures else (s.chan c).lineCase)
        ((List.range' (s.desc h).resume (e - (s.desc h).resume)).map (s.textSymbol h))
      + if e = (s.desc h).length then 0 else 3) ≤ due

/-- What a channel begins is timely. -/
def State.planOk (s : State) (c : ChannelNo) : Prop :=
  ∀ h header e, (s.chan c).item.starts (s.desc h).resume h header e → s.timely c h header e

/-- Each channel begins no segment from one state to the next, or a timely one. -/
def State.begun (s t : State) : Prop := ∀ d, (s.chan d).item.leadsTo (t.chan d).item ∨ t.planOk d

section
variable {s t u : State} {A : ChannelNo → Prop} {c d : ChannelNo} {h : Handle} {header : Option Nat} {e : Nat}
  {i j k : Item}

theorem Item.leadsTo_refl (i : Item) : i.leadsTo i := by
  cases i with
  | header h k n e cut => exact ⟨k, n, e, cut, rfl⟩
  | segment h r e cut => exact .inr ⟨e, cut, rfl⟩
  | _ => trivial

theorem Item.leadsTo_trans (hi : i.leadsTo j) (hj : j.leadsTo k) : i.leadsTo k := by
  cases k with
  | header h _ _ _ _ =>
    obtain ⟨k, n, e, cut, rfl⟩ := hj
    exact hi
  | segment h r _ _ =>
    rcases hj with ⟨k, n, e, cut, rfl⟩ | ⟨e, cut, rfl⟩
    · exact .inl hi
    · exact hi
  | _ => trivial

theorem State.begins_starts (hb : s.begins t c h header e) : (t.chan c).item.starts (t.desc h).resume h header e := by
  obtain ⟨-, hb⟩ := hb
  cases header with
  | some cost => exact hb
  | none => exact hb.1

theorem State.not_begins (hled : (s.chan c).item.leadsTo (t.chan c).item) : ¬s.begins t c h header e := by
  rintro ⟨hno, hb⟩
  cases header with
  | some cost =>
    obtain ⟨cut, hit⟩ := hb
    rw [hit] at hled
    obtain ⟨k, n, e', cut', hold⟩ := hled
    exact hno k n e' cut' hold
  | none =>
    obtain ⟨⟨cut, hit⟩, hfresh⟩ := hb
    rw [hit] at hled
    rcases hled with ⟨k, n, e', cut', hold⟩ | ⟨e', cut', hold⟩
    · exact hno k n e' cut' hold
    · exact hfresh e' cut' hold

theorem State.begun.timely (hs : s.begun t) (hb : s.begins t c h header e) : t.timely c h header e := by
  rcases hs c with hled | hok
  · exact absurd hb (State.not_begins hled)
  · exact hok h header e (State.begins_starts hb)

/-- The message of an item that begins a segment. -/
theorem Item.message_of_starts {r : Nat} (hi : i.starts r h header e) : i.message = some h := by
  cases header with
  | some cost =>
    obtain ⟨cut, rfl⟩ := hi
    rfl
  | none =>
    obtain ⟨cut, rfl⟩ := hi
    rfl

/-- An item that keys no text of its slot begins nothing. -/
theorem State.planOk_of_item (hitem : ∀ r h header e, ¬(s.chan c).item.starts r h header e) : s.planOk c :=
  fun h header e hs => absurd hs (hitem _ h header e)

/-! ### The earliest bulletin known -/

/-- R115. A bulletin of the channel is announced for a time: by a WAITING request, or by an entry that names the channel. -/
def State.announces (s : State) (c : ChannelNo) (m : Nat) : Prop :=
  (∃ q ∈ (s.chan c).requests, q.state = .waiting ∧ q.due = m) ∨ ∃ i, (s.slot i).names c = true ∧ (s.slot i).nextDue = some m

theorem minOpt_eq_none_iff {a b : Option Nat} : minOpt a b = none ↔ a = none ∧ b = none := by
  cases a <;> cases b <;> simp [minOpt]

theorem State.announces_of_nextBulletin {m : Nat} (hm : s.nextBulletin c = some m) : s.announces c m :=
  (State.nextBulletin_eq_some_iff.1 hm).1.imp_right fun hocc => (State.nextOccurrence_eq_some_iff.1 hocc).1

theorem State.nextOccurrence_of_names {i : SlotNo} {m : Nat} (hi : (s.slot i).names c = true)
    (hm : (s.slot i).nextDue = some m) : ∃ n, n ≤ m ∧ s.nextOccurrence c = some n := by
  cases hn : s.nextOccurrence c with
  | some n => exact ⟨n, (State.nextOccurrence_eq_some_iff.1 hn).2 i m hi hm, rfl⟩
  | none =>
    have hmem : m ∈ (s.slots.toList.filter (·.names c)).filterMap (·.nextDue) := by
      rw [toList_eq_map_vget]
      simp only [List.mem_filterMap, List.mem_filter, List.mem_map, List.mem_finRange, true_and]
      exact ⟨s.slot i, ⟨⟨i, rfl⟩, hi⟩, hm⟩
    rw [earliestOf_eq_none_iff.1 hn] at hmem
    cases hmem

/-- R115. S_n is no later than what is announced. -/
theorem State.nextBulletin_of_announces {m : Nat} (hm : s.announces c m) : ∃ n, n ≤ m ∧ s.nextBulletin c = some n := by
  obtain ⟨k, hk, hdue⟩ : ∃ k, k ≤ m ∧ s.bulletinDue c k := by
    rcases hm with hq | ⟨i, hi, hm⟩
    · exact ⟨m, Nat.le_refl m, .inl hq⟩
    · obtain ⟨n, hn, hocc⟩ := State.nextOccurrence_of_names hi hm
      exact ⟨n, hn, .inr hocc⟩
  cases hn : s.nextBulletin c with
  | some n => exact ⟨n, ((State.nextBulletin_eq_some_iff.1 hn).2 k hdue).trans hk, rfl⟩
  | none =>
    obtain ⟨hreq, hocc⟩ := minOpt_eq_none_iff.1 hn
    rcases hdue with ⟨q, hq, hwaits, -⟩ | hsome
    · have hmem : q.due ∈ ((s.chan c).requests.filter fun q => decide (q.state = .waiting)).map (·.due) :=
        List.mem_map_of_mem (List.mem_filter.2 ⟨hq, decide_eq_true hwaits⟩)
      rw [earliestOf_eq_none_iff.1 hreq] at hmem
      cases hmem
    · rw [hocc] at hsome
      cases hsome

/-- What decisions leave of a state announces no bulletin for an earlier time. -/
theorem State.Steady.announces (hst : s.Steady A t) {m : Nat} (hm : t.announces c m) : ∃ n, n ≤ m ∧ s.announces c n := by
  have hnamed {i : SlotNo} {n : Nat} (hn : (s.slot i).reached s.now n) (hin : inSet (s.slot i).channels c = true) :
      ∃ k, k ≤ n ∧ s.announces c k := by
    obtain ⟨hstate, first, k, hfirst, rfl, -⟩ := hn
    exact ⟨first, Nat.le_add_right .., .inr ⟨i, by simp [Slot.names, hstate, hin], hfirst⟩⟩
  rcases hm with ⟨q, hq, hwaits, rfl⟩ | ⟨i, hi, hm⟩
  · rcases hst.placed c q hq hwaits with hold | ⟨i, n, hn, hin, rfl⟩
    · exact ⟨q.due, Nat.le_refl _, .inl ⟨q, hold, hwaits, rfl⟩⟩
    · exact hnamed hn hin
  · obtain ⟨k, hk, -⟩ := hst.slot i
    rw [hk] at hi hm
    obtain ⟨first, hfirst, rfl⟩ := Option.map_eq_some_iff.1 hm
    exact ⟨first, Nat.le_add_right .., .inr ⟨i, hi, hfirst⟩⟩

theorem State.Steady.nextBulletin (hst : s.Steady A t) {m : Nat} (hm : t.nextBulletin c = some m) :
    ∃ n, n ≤ m ∧ s.nextBulletin c = some n := by
  obtain ⟨k, hk, hs⟩ := hst.announces (State.announces_of_nextBulletin hm)
  obtain ⟨n, hn, hs⟩ := State.nextBulletin_of_announces hs
  exact ⟨n, hn.trans hk, hs⟩

/-- What the plans of a channel read has not changed, the messages apart, and no bulletin has come nearer. -/
structure State.Undisturbed (c : ChannelNo) (s t : State) : Prop where
  now : t.now = s.now
  cells : t.store.cells = s.store.cells
  holds : (t.chan c).holds = (s.chan c).holds
  settings : (t.chan c).settings = (s.chan c).settings
  line : (t.chan c).lineCase = (s.chan c).lineCase
  bulletin : ∀ m, t.nextBulletin c = some m → ∃ n, n ≤ m ∧ s.nextBulletin c = some n

theorem State.Steady.undisturbed (hst : s.Steady A t) (hcells : t.store.cells = s.store.cells)
    (hline : (t.chan c).lineCase = (s.chan c).lineCase) : State.Undisturbed c s t := by
  obtain ⟨-, -, hholds, hset⟩ := hst.watch c
  exact ⟨by rw [State.now, hst.clock, State.now], hcells, hholds, hset, hline, fun m hm => hst.nextBulletin hm⟩

theorem State.Undisturbed.of_same (hclock : t.clock = s.clock) (hcells : t.store.cells = s.store.cells)
    (hslots : t.slots = s.slots) (hchan : (t.chan c).holds = (s.chan c).holds ∧ (t.chan c).settings = (s.chan c).settings
      ∧ (t.chan c).lineCase = (s.chan c).lineCase ∧ (t.chan c).requests = (s.chan c).requests) :
    State.Undisturbed c s t := by
  obtain ⟨hholds, hset, hline, hrequests⟩ := hchan
  refine ⟨by rw [State.now, hclock, State.now], hcells, hholds, hset, hline, fun m hm => ⟨m, Nat.le_refl m, ?_⟩⟩
  rwa [State.nextBulletin, State.nextOccurrence, hrequests, hslots] at hm

/-- A timely segment stays timely while its message stays. -/
theorem State.timely.keep (hs : s.timely c h header e) (hu : State.Undisturbed c s t)
    (hd : (t.desc h).dest = (s.desc h).dest ∧ (t.desc h).resume = (s.desc h).resume ∧ (t.desc h).length = (s.desc h).length
      ∧ (t.desc h).chain = (s.desc h).chain) : t.timely c h header e := by
  obtain ⟨hdest, hresume, hlength, hchain⟩ := hd
  have htext : t.textSymbol h = s.textSymbol h := by
    funext i
    rw [State.textSymbol, hchain, hu.cells]
    rfl
  obtain ⟨hfree, hfits⟩ := hs
  refine ⟨by rw [hu.holds, hdest]; exact hfree, fun due hdue => ?_⟩
  obtain ⟨n, hle, hn⟩ := hu.bulletin due hdue
  rw [hu.now, hu.settings, hresume, hlength, hu.line, htext]
  exact (hfits n hn).trans hle

theorem State.planOk.keep (hs : s.planOk c) (hu : State.Undisturbed c s t) (hitem : (t.chan c).item = (s.chan c).item)
    (hdesc : ∀ h, (s.chan c).item.message = some h → t.desc h = s.desc h) : t.planOk c := by
  intro h header e hstarts
  have hd := hdesc h (hitem ▸ Item.message_of_starts hstarts)
  rw [hitem, hd] at hstarts
  exact (hs h header e hstarts).keep hu (by rw [hd]; exact ⟨rfl, rfl, rfl, rfl⟩)

end

end Sys2Proof.Machine
end

section
/-! Whatever a decision point begins is timely, and nothing that another channel keys is touched by it. -/

namespace Sys2Proof.Machine

/-- Apart from channel `c` and its messages, nothing that is keyed has changed. -/
structure State.Local (c : ChannelNo) (s t : State) : Prop where
  cells : t.store.cells = s.store.cells
  chan : ∀ d, d ≠ c → (t.chan d).item = (s.chan d).item ∧ (t.chan d).lineCase = (s.chan d).lineCase
  desc : ∀ h, (s.desc h).channel ≠ c → t.desc h = s.desc h

section
variable {s t u : State} {c d : ChannelNo} {h : Handle} {q : Request} {cut g : Option Closes}

theorem State.Local.refl (c : ChannelNo) (s : State) : State.Local c s s := ⟨rfl, fun _ _ => ⟨rfl, rfl⟩, fun _ _ => rfl⟩

theorem State.Local.trans (hs : State.Local c s t) (ht : State.Local c t u) : State.Local c s u := by
  refine ⟨ht.cells.trans hs.cells, fun d hd => ?_, fun h hh => ?_⟩
  · exact ⟨(ht.chan d hd).1.trans (hs.chan d hd).1, (ht.chan d hd).2.trans (hs.chan d hd).2⟩
  · have hfirst := hs.desc h hh
    exact (ht.desc h (by rwa [hfirst])).trans hfirst

theorem State.Local.of_parts (hcells : t.store.cells = s.store.cells) (hchannels : t.channels = s.channels)
    (hdescs : t.descs = s.descs) : State.Local c s t := by
  refine ⟨hcells, fun d _ => ?_, fun h _ => congrArg (vget · h) hdescs⟩
  rw [show t.chan d = s.chan d from congrArg (vget · d) hchannels]
  exact ⟨rfl, rfl⟩

/-- The notices and channel `c` itself. -/
theorem State.Local.setChan_outbox (o : List Notice) (x : Channel) : State.Local c s (State.setChan { s with outbox := o } c x) := by
  refine ⟨rfl, fun d hd => ?_, fun _ _ => rfl⟩
  rw [State.chan_setChan, if_neg hd]
  exact ⟨rfl, rfl⟩

theorem State.Local.setChan (x : Channel) : State.Local c s (s.setChan c x) := .setChan_outbox s.outbox x

theorem State.Local.modChan (f : Channel → Channel) : State.Local c s (s.modChan c f) := .setChan _

theorem State.Local.setDesc (x : Descriptor) (hc : (s.desc h).channel = c) : State.Local c s (s.setDesc h x) := by
  refine ⟨rfl, fun _ _ => ⟨rfl, rfl⟩, fun g hg => (State.desc_setDesc ..).trans (if_neg ?_)⟩
  rintro rfl
  exact hg hc

theorem State.Local.toHead (f : Descriptor → Descriptor) (hc : (s.desc h).channel = c) : State.Local c s (s.toHead h f) := by
  rw [State.toHead_eq]
  subst hc
  exact (State.Local.setDesc _ rfl).trans (.setChan _)

/-- A channel whose item and line case stay. -/
theorem State.Local.setOther {x : Channel} (o : List Notice)
    (hx : x.item = (s.chan d).item ∧ x.lineCase = (s.chan d).lineCase) :
    State.Local c s (State.setChan { s with outbox := o } d x) := by
  refine ⟨rfl, fun b _ => ?_, fun _ _ => rfl⟩
  rw [State.chan_setChan]
  split
  · next hb => exact hb ▸ hx
  · exact ⟨rfl, rfl⟩

theorem State.Local.recordOutcome (o : BulletinOutcome) (l : Option Nat) : State.Local c s (s.recordOutcome d q o l false) := by
  rw [State.recordOutcome_eq]
  exact .setOther _ ⟨rfl, rfl⟩

theorem State.Local.placeRequest (j : SlotNo) (due : Nat) : State.Local c s (s.placeRequest j due d) := by
  unfold State.placeRequest
  dsimp only
  split_ifs
  · exact .recordOutcome _ _
  · exact .refl c s
  · exact .recordOutcome _ _
  · exact .setOther s.outbox ⟨rfl, rfl⟩

theorem State.Local.takeOccurrence (j : SlotNo) : State.Local c s (s.takeOccurrence j) := by
  unfold State.takeOccurrence
  split
  · exact .refl c s
  · next due _ =>
    exact State.Local.trans (List.foldlRecOn (motive := fun t : State => State.Local c s t) _ _ (.refl c s)
      fun (t : State) ht d _ => ht.trans (.placeRequest j due)) (.of_parts rfl rfl rfl)

theorem State.Local.endRequest (o : BulletinOutcome) (l : Option Nat) : State.Local c s (s.endRequest c q o l false) := by
  rw [State.endRequest_eq]
  exact .setChan_outbox _ _

theorem State.Local.startTelex {f : FitRecord} {e : Nat} {fresh : Bool} (hc : (s.desc h).channel = c) :
    State.Local c s ((s.recordFit c f).startTelex c h e fresh) := by
  by_cases hres : (s.desc h).resuming = true
  · rw [State.startTelex_of_resuming hres]
    exact (State.Local.setDesc _ hc).trans (.setChan_outbox _ _)
  · rw [State.startTelex_of_new hres]
    exact (State.Local.setDesc _ hc).trans (.setChan _)

theorem State.Local.beginItem (it : Item) : State.Local c s (s.beginItem c it) := .modChan _

theorem State.Local.enterArea (a : AreaNo) : State.Local c s (s.enterArea a) := .of_parts rfl rfl rfl

theorem State.Local.startBulletin : State.Local c s (s.startBulletin c q) := by
  unfold State.startBulletin State.modRequest
  exact ((State.Local.modChan _).trans (.enterArea _)).trans (.beginItem _)

theorem State.Local.reachOffline (hparked : ∀ h, s.parkedMessage c = some h → (s.desc h).channel = c) :
    State.Local c s (s.reachOffline c) := by
  obtain ⟨ns, st, heq, -⟩ := s.reachOffline_eq c
  have hclosed : State.Local c (s.switchedOff c) ((s.switchedOff c).closeParked c) := by
    cases hp : (s.switchedOff c).parkedMessage c with
    | none =>
      rw [State.closeParked_of_none hp]
      exact .refl _ _
    | some h =>
      rw [State.closeParked_of_some hp]
      obtain ⟨hactive, hstate⟩ := State.parkedMessage_eq_some_iff.1 hp
      rw [State.switchedOff, State.chan_setChan, if_pos rfl] at hactive
      exact State.Local.trans (t := (s.switchedOff c).suspend h)
        (.toHead _ (hparked h (State.parkedMessage_eq_some_iff.2 ⟨hactive, hstate⟩))) (.of_parts rfl rfl rfl)
  rw [heq]
  exact (State.Local.trans (.setChan _) hclosed).trans (.setChan_outbox _ _)

/-! ### What a plan promises -/

/-- R119. A planned segment is timely where its message, the line and the bulletins are those of the plan. -/
theorem State.timely_of_planned {header : Option Nat} {e : Nat} {lc : LineCase} (hfree : ∀ r ∈ (s.chan c).holds, r.ship ≠ (s.desc h).dest)
    (hp : (s.fitTest c h s.now header.isSome lc).planned = some e) (hcost : ∀ cost, header = some cost → cost = headerCost lc)
    (hline : header = none → lc = (s.chan c).lineCase) : s.timely c h header e := by
  refine ⟨hfree, fun due hdue => ?_⟩
  have hfits := State.planned_ends_in_time hp hdue
  rw [Nat.mul_comm] at hfits
  cases header with
  | none =>
    rw [← hline rfl]
    exact hfits
  | some cost =>
    rw [hcost cost rfl]
    exact hfits

/-! ### What a decision point begins -/

/-- From the start `s` of a decision of `c` to a state within it. -/
def State.within (c : ChannelNo) (s t : State) : Prop := State.Local c s t ∧ s.Steady (· = c) t

theorem State.within.refl (c : ChannelNo) (s : State) : State.within c s s := ⟨.refl c s, .refl _ s⟩

theorem State.planOk_of_header {cost n e : Nat} {k : Option Nat} (hitem : (s.chan c).item = .header h cost n e k)
    (ht : s.timely c h (some cost) e) : s.planOk c := by
  intro h' header e' hstarts
  rw [hitem] at hstarts
  cases header with
  | some cost' =>
    obtain ⟨cut', he⟩ := hstarts
    cases he
    exact ht
  | none =>
    obtain ⟨cut', he⟩ := hstarts
    cases he

theorem State.planOk_of_segment {r e : Nat} {k : Option Nat} (hitem : (s.chan c).item = .segment h r e k)
    (ht : s.timely c h none e) : s.planOk c := by
  intro h' header e' hstarts
  rw [hitem] at hstarts
  cases header with
  | some cost' =>
    obtain ⟨cut', he⟩ := hstarts
    cases he
  | none =>
    obtain ⟨cut', he⟩ := hstarts
    cases he
    exact ht

/-- An item with no text of the slot to key. -/
def Item.textless (i : Item) : Prop := ∀ r h header e, ¬i.starts r h header e

theorem Item.textless_of_message {i : Item} (hi : i.message = none) : i.textless := fun r h header e hs => by
  rw [Item.message_of_starts hs] at hi
  cases hi

theorem Item.textless_marker (w : Closes) (p : Purpose) (n : Nat) : (Item.marker w p n).textless := fun r h header e hs => by
  cases header <;> obtain ⟨cut, he⟩ := hs <;> cases he

theorem Item.textless_relay (h : Handle) : (Item.relay h).textless := fun r h header e hs => by
  cases header <;> obtain ⟨cut, he⟩ := hs <;> cases he

theorem State.planOk_of_textless {i : Item} (hitem : (s.chan c).item = i) (hi : i.textless) : s.planOk c :=
  State.planOk_of_item fun r h header e => hitem ▸ hi r h header e

theorem State.item_beginItem (it : Item) : ((s.beginItem c it).chan c).item = it := by
  rw [State.beginItem, State.chan_modChan, if_pos rfl]

/-- R94. A request that ends leaves what the channel keys. -/
theorem State.planOk.endRequest (hs : s.planOk c) (o : BulletinOutcome) (l : Option Nat) :
    (s.endRequest c q o l false).planOk c := by
  have hkept : (s.endRequest c q o l false).store.cells = s.store.cells
      ∧ ((s.endRequest c q o l false).chan c).item = (s.chan c).item
      ∧ ((s.endRequest c q o l false).chan c).lineCase = (s.chan c).lineCase
      ∧ ∀ h, (s.endRequest c q o l false).desc h = s.desc h := by
    rw [State.endRequest_eq, State.chan_setChan, if_pos rfl]
    exact ⟨rfl, rfl, rfl, fun _ => rfl⟩
  obtain ⟨hcells, hitem, hline, hdesc⟩ := hkept
  have hst : s.Steady (· = c) (s.endRequest c q o l false) := State.Steady.endRequest (A := (· = c)) rfl q o l
  exact hs.keep (hst.undisturbed hcells hline) hitem fun h _ => hdesc h

/-- R111. A candidate goes to no ship held. -/
theorem State.free_of_candidate {fresh : Bool} (hm : s.candidate c h fresh) :
    ∀ r ∈ (s.chan c).holds, r.ship ≠ (s.desc h).dest := by
  cases fresh with
  | false =>
    intro r hr he
    have hheld := hm.2
    rw [Bool.eq_false_iff, Ne, Channel.isHeld_iff] at hheld
    exact hheld ⟨r, hr, he⟩
  | true =>
    have hfree {q : List Handle} (hq : s.oldestEligible c q = some h) : ∀ r ∈ (s.chan c).holds, r.ship ≠ (s.desc h).dest := by
      obtain ⟨ps, qs, -, -, hno⟩ := State.oldestEligible_eq_some_iff.1 hq
      exact fun r hr he => hno ⟨r, hr, he⟩
    have hnew : s.chooseNew c = some h := hm.2
    rcases State.chooseNew_eq_some_iff.1 hnew with hq | hq | hq
    · exact hfree hq.2
    · exact hfree hq.2
    · exact hfree hq.2.2

/-- R114. A candidate whose plan fits begins a timely segment. -/
theorem State.planOk_startTelex {fresh : Bool} {e : Nat} (hm : s.candidate c h fresh)
    (hp : (s.fitTest c h s.now (s.desc h).resuming (s.chan c).lineCase).planned = some e) (f : FitRecord) :
    ((s.recordFit c f).startTelex c h e fresh).planOk c := by
  have hst : s.Steady (· = c) ((s.recordFit c f).startTelex c h e fresh) :=
    State.Steady.startTelex (A := (· = c)) rfl hm
  have hdesc : (s.setDesc h { s.desc h with state := .active }).desc h = { s.desc h with state := .active } :=
    (State.desc_setDesc ..).trans (if_pos rfl)
  have hkept := And.intro (congrArg Descriptor.dest hdesc) (And.intro (congrArg Descriptor.resume hdesc)
    (And.intro (congrArg Descriptor.length hdesc) (congrArg Descriptor.chain hdesc)))
  have hfree := State.free_of_candidate hm
  have hline : (s.taker c h fresh).lineCase = (s.chan c).lineCase := by cases fresh <;> rfl
  by_cases hres : (s.desc h).resuming = true
  · rw [hres] at hp
    have htimely : s.timely c h (some (headerCost (s.chan c).lineCase)) e :=
      State.timely_of_planned (lc := (s.chan c).lineCase) hfree hp (fun cost hc => (Option.some.inj hc).symm) nofun
    rw [State.startTelex_of_resuming hres] at hst ⊢
    refine State.planOk_of_header (by rw [State.chan_setChan, if_pos rfl]) (htimely.keep (hst.undisturbed rfl ?_) hkept)
    rw [State.chan_setChan, if_pos rfl]
    exact hline
  · rw [Bool.not_eq_true] at hres
    rw [hres] at hp
    have htimely : s.timely c h none e := State.timely_of_planned (lc := (s.chan c).lineCase) hfree hp nofun fun _ => rfl
    rw [State.startTelex_of_new (by rw [hres]; decide)] at hst ⊢
    refine State.planOk_of_segment (by rw [State.chan_setChan, if_pos rfl]) (htimely.keep (hst.undisturbed rfl ?_) hkept)
    rw [State.chan_setChan, if_pos rfl]
    exact hline

/-- R112. An unfinished message whose plan fits goes on with a timely segment. -/
theorem State.planOk_segment {e : Nat} (hfree : (s.chan c).isHeld (s.desc h).dest = false)
    (hp : (s.fitTest c h s.now false (s.chan c).lineCase).planned = some e) (f : FitRecord) :
    ((s.recordFit c f).beginItem c (.segment h (s.desc h).resume e none)).planOk c := by
  have hst : s.Steady (· = c) ((s.recordFit c f).beginItem c (.segment h (s.desc h).resume e none)) :=
    (State.Steady.modChan (A := (· = c)) rfl (f := fun ch => { ch with lastFit := some f })).trans
      (.beginItem (A := (· = c)) rfl _)
  have hno : ∀ r ∈ (s.chan c).holds, r.ship ≠ (s.desc h).dest := fun r hr he => by
    rw [Bool.eq_false_iff, Ne, Channel.isHeld_iff] at hfree
    exact hfree ⟨r, hr, he⟩
  have htimely : s.timely c h none e := State.timely_of_planned (lc := (s.chan c).lineCase) hno hp nofun fun _ => rfl
  refine State.planOk_of_segment (State.item_beginItem _) (htimely.keep (hst.undisturbed rfl ?_) ⟨rfl, rfl, rfl, rfl⟩)
  rw [State.beginItem, State.chan_modChan, if_pos rfl, State.recordFit, State.chan_modChan, if_pos rfl]

/-- What a decision point has kept when it has chosen. -/
def State.chosen (c : ChannelNo) (s t : State) : Prop := t.trafficOk ∧ State.within c s t ∧ t.planOk c

theorem State.settling.channel_parked (hs : State.settling c cut g t) (hp : t.parkedMessage c = some h) :
    (t.desc h).channel = c := (hs.1.1.parked hp).1

/-- The head relay of a channel is the channel's own. -/
theorem State.Traffic.channel_head {it : ChannelNo → Item} {hs' : List Handle} (hs : s.Traffic it)
    (hq : (s.chan c).relayQ = h :: hs') : (s.desc h).channel = c := by
  have hmem : (s.chan c).has h (.queue .relay) := by
    show h ∈ (s.chan c).relayQ
    rw [hq]
    exact List.mem_cons_self ..
  exact ((hs.messages.listed c _ h).1 hmem).1

theorem State.steady_deciding (c : ChannelNo) (cut : Option Closes) (s : State) :
    State.Deciding c False cut (fun _ t => s.Steady (· = c) t) fun t => s.Steady (· = c) t :=
  State.Steady.deciding (A := (· = c)) rfl cut s

theorem State.Local.startRelay (hc : (s.desc h).channel = c) : State.Local c s (s.startRelay c h) :=
  (State.Local.setDesc _ hc).trans (.beginItem _)

theorem State.Local.unkey : State.Local c s (s.unkey c) := by
  have hoff : State.Local c s (s.modChan c fun ch => { ch with state := .standby, item := .noItem, idleSince := none }) :=
    .modChan _
  exact hoff.trans (.of_parts rfl rfl rfl)

theorem State.item_reachOffline : ((s.reachOffline c).chan c).item = .noItem := by
  obtain ⟨-, ⟨st, hrest⟩, -⟩ := s.reachOffline_closed c
  exact (congrArg Channel.item hrest :)

theorem State.item_modChan (f : Channel → Channel) : ((s.modChan c f).chan c).item = (f (s.chan c)).item := by
  rw [State.chan_modChan, if_pos rfl]

theorem State.item_unkey : ((s.unkey c).chan c).item = .noItem :=
  State.item_modChan fun ch => { ch with state := .standby, item := .noItem, idleSince := none }

/-- Every choice of a decision point of `c` begins at most a timely segment, and touches the traffic of `c` alone. -/
theorem State.chosen_deciding (c : ChannelNo) (cut : Option Closes) (s : State) :
    State.Deciding c True cut (fun g t => State.settling c cut g t ∧ State.within c s t) (State.chosen c s) where
  distinct hD _ _ hP := (State.settling_deciding c cut).distinct hD hP.1
  distinctAfter hD _ hQ := (State.settling_deciding c cut).distinctAfter hD hQ.1
  drawn hP := ⟨(State.settling_deciding c cut).drawn hP.1, hP.2.1.trans (.of_parts rfl rfl rfl),
    (State.steady_deciding c cut s).drawn (g := none) hP.2.2⟩
  take {_ _ j} hP hdue := ⟨(State.settling_deciding c cut).take hP.1 hdue, hP.2.1.trans (.takeOccurrence j),
    (State.steady_deciding c cut s).take (g := none) hP.2.2 hdue⟩
  unfinished hP hu := ⟨(State.settling_deciding c cut).unfinished hP.1 hu, hP.2⟩
  finished hP hu := ⟨(State.settling_deciding c cut).finished hP.1 hu, hP.2⟩
  record f hP := ⟨(State.settling_deciding c cut).record f hP.1, hP.2.1.trans (.modChan _),
    (State.steady_deciding c cut s).record (g := none) f hP.2.2⟩
  ends o l hP hwaits hq := ⟨(State.settling_deciding c cut).ends o l hP.1 hwaits hq, hP.2.1.trans (.endRequest o l),
    (State.steady_deciding c cut s).ends o l hP.2.2 hwaits nofun⟩
  endsAfter o l hQ hwaits hq := ⟨(State.settling_deciding c cut).endsAfter o l hQ.1 hwaits hq,
    ⟨hQ.2.1.1.trans (.endRequest o l), (State.steady_deciding c cut s).endsAfter o l hQ.2.1.2 hwaits nofun⟩,
    hQ.2.2.endRequest o l⟩
  returned hP hp := ⟨(State.settling_deciding c cut).returned hP.1 hp,
    hP.2.1.trans ((State.Local.toHead _ (hP.1.channel_parked hp)).trans (.of_parts rfl rfl rfl)),
    (State.steady_deciding c cut s).returned hP.2.2 hp⟩
  marker {_ w} p hP := ⟨(State.settling_deciding c cut).marker p hP.1,
    ⟨hP.2.1.trans (.beginItem _), (State.steady_deciding c cut s).marker p hP.2.2⟩,
    State.planOk_of_textless (State.item_beginItem _) (Item.textless_marker w p 0)⟩
  segment hP hfree hp := ⟨(State.settling_deciding c cut).segment hP.1 hfree hp,
    ⟨hP.2.1.trans ((State.Local.modChan _).trans (.beginItem _)), (State.steady_deciding c cut s).segment hP.2.2 hfree hp⟩,
    State.planOk_segment hfree hp _⟩
  telex hP hm hp := ⟨(State.settling_deciding c cut).telex hP.1 hm hp,
    ⟨hP.2.1.trans (.startTelex (hP.1.1.1.candidate hm).1), (State.steady_deciding c cut s).telex hP.2.2 hm hp⟩,
    State.planOk_startTelex hm hp _⟩
  relay {_ h _} hP hq := ⟨(State.settling_deciding c cut).relay hP.1 hq,
    ⟨hP.2.1.trans (.startRelay (hP.1.1.1.channel_head hq)), (State.steady_deciding c cut s).relay hP.2.2 hq⟩,
    State.planOk_of_textless (State.item_beginItem _) (Item.textless_relay h)⟩
  bulletin hP hwaits hq hready := ⟨(State.settling_deciding c cut).bulletin hP.1 hwaits hq hready,
    ⟨hP.2.1.trans .startBulletin, (State.steady_deciding c cut s).bulletin hP.2.2 hwaits nofun hready⟩,
    State.planOk_of_textless (State.item_beginItem _) (Item.textless_of_message rfl)⟩
  idle hP := ⟨(State.settling_deciding c cut).idle hP.1,
    ⟨hP.2.1.trans (.modChan _), (State.steady_deciding c cut s).idle hP.2.2⟩,
    State.planOk_of_textless (State.item_modChan _) (Item.textless_of_message rfl)⟩
  unkey hP := ⟨(State.settling_deciding c cut).unkey hP.1,
    ⟨hP.2.1.trans .unkey, (State.steady_deciding c cut s).unkey hP.2.2⟩,
    State.planOk_of_textless State.item_unkey (Item.textless_of_message rfl)⟩
  offline hP := ⟨(State.settling_deciding c cut).offline hP.1,
    ⟨hP.2.1.trans (.reachOffline fun _ hp => hP.1.channel_parked hp), (State.steady_deciding c cut s).offline hP.2.2⟩,
    State.planOk_of_textless State.item_reachOffline (Item.textless_of_message rfl)⟩

end

end Sys2Proof.Machine
end

section
/-! What each command and each event begins (R112, R119). -/

namespace Sys2Proof.Machine

section
variable {s t u : State} {c d : ChannelNo} {h : Handle} {q : Request} {cut g : Option Closes}

/-! ### No segment begins -/

/-- No channel begins a segment from one state to the next. -/
def State.leadsTo (s t : State) : Prop := ∀ d, (s.chan d).item.leadsTo (t.chan d).item

theorem State.leadsTo.trans (hs : s.leadsTo t) (ht : t.leadsTo u) : s.leadsTo u := fun d => Item.leadsTo_trans (hs d) (ht d)

theorem State.SameAir.leadsTo (h : s.SameAir t) : s.leadsTo t := fun d => by
  rw [(h d).1]
  exact Item.leadsTo_refl _

theorem State.leadsTo.begun (h : s.leadsTo t) : s.begun t := fun d => .inl (h d)

/-- The items of the others stay, and one channel's leads on. -/
theorem State.leadsTo_of_others (hothers : ∀ d, d ≠ c → (t.chan d).item = (s.chan d).item)
    (hc : (s.chan c).item.leadsTo (t.chan c).item) : s.leadsTo t := fun d => by
  by_cases hd : d = c
  · exact hd ▸ hc
  · rw [hothers d hd]
    exact Item.leadsTo_refl _

theorem State.leadsTo_modChan {f : Channel → Channel} (hf : (s.chan c).item.leadsTo (f (s.chan c)).item) :
    s.leadsTo (s.modChan c f) := by
  refine State.leadsTo_of_others (c := c) (fun d hd => ?_) ?_
  · rw [State.chan_modChan, if_neg hd]
  · rw [State.chan_modChan, if_pos rfl]
    exact hf

/-! ### Decisions -/

/-- What a key-up of a STANDBY channel has begun. -/
theorem State.trafficOk.keyUp_chosen (hs : s.trafficOk) (hstandby : (s.chan c).state = .standby) :
    State.chosen c s (s.keyUp c) := by
  have hitem : (s.chan c).item = .noItem := by
    by_contra hno
    have hk := (hs.keyedOk c).2 hno
    rw [hstandby] at hk
    cases hk
  have hwaits : (s.modChan c fun ch => { ch with state := .keyUp, keyRise := s.clock.elapsed }).trafficOk :=
    hs.modChan_off rfl rfl (by rw [hstandby]; rfl) rfl
  have hstart : State.within c s (s.modChan c fun ch => { ch with state := .keyUp, keyRise := s.clock.elapsed }) :=
    ⟨.modChan _, State.Steady.modChan (A := (· = c)) rfl⟩
  obtain ⟨v, hv⟩ : ∃ v, v = s.modChan c fun ch => { ch with state := .keyUp, keyRise := s.clock.elapsed } := ⟨_, rfl⟩
  have hitem' : (v.chan c).item = .noItem := by rw [hv, State.item_modChan]; exact hitem
  have hoff : (v.chan c).state.keyed = false := by rw [hv, State.chan_modChan, if_pos rfl]; rfl
  refine (State.chosen_deciding c none s).keyUp (g := none) ?_ (fun e ch fs ht => ?_) ?_
  · rw [← hv] at hwaits hstart ⊢
    exact ⟨hwaits.settling_keyed hoff, hstart.1.trans (.modChan _), hstart.2.trans (State.Steady.modChan (A := (· = c)) rfl)⟩
  · exact ⟨ht.1.emit e ch fs, ⟨ht.2.1.1.trans (.of_parts rfl rfl rfl), ht.2.1.2.trans (.outbox _)⟩,
      ht.2.2.keep (.of_same rfl rfl rfl ⟨rfl, rfl, rfl, rfl⟩) rfl fun _ _ => rfl⟩
  · rw [← hv] at hwaits hstart ⊢
    exact ⟨hwaits, hstart, State.planOk_of_textless hitem' (Item.textless_of_message rfl)⟩

/-- A decision of one channel leaves what the others have begun. -/
theorem State.begun.chosen (hb : s.begun t) (ht : t.trafficOk) (hu : State.chosen c t u) : s.begun u := fun d => by
  obtain ⟨-, ⟨hlocal, hst⟩, hplan⟩ := hu
  by_cases hd : d = c
  · exact .inr (hd ▸ hplan)
  · obtain ⟨hitem, hline⟩ := hlocal.chan d hd
    refine (hb d).imp (fun hled => by rwa [hitem]) fun hok => hok.keep (hst.undisturbed hlocal.cells hline) hitem fun h hm => ?_
    exact hlocal.desc h fun he => hd (((ht.traffic.messages.aired d h).1 hm).1.symm.trans he)

/-- R138. The judging of key-up causes begins timely segments alone. -/
theorem State.begun.judgeKeyUp (hb : s.begun t) (ht : t.trafficOk) (cs : List ChannelNo) : s.begun (t.judgeKeyUp cs) :=
  (State.judgeWithin_induction (R := fun u => u.trafficOk ∧ s.begun u)
    (fun hu hstandby => ⟨hu.1.keyUp hstandby, hu.2.chosen hu.1 (hu.1.keyUp_chosen hstandby)⟩) _ cs ⟨ht, hb⟩).2

/-- A change of a channel that the plans do not read. -/
theorem State.begun.modRx (hb : s.begun t) (f : RxCounts → RxCounts) : s.begun (t.modRx c f) := fun d => by
  have hkept : ((t.modRx c f).chan d).holds = (t.chan d).holds ∧ ((t.modRx c f).chan d).settings = (t.chan d).settings
      ∧ ((t.modRx c f).chan d).lineCase = (t.chan d).lineCase ∧ ((t.modRx c f).chan d).requests = (t.chan d).requests
      ∧ ((t.modRx c f).chan d).item = (t.chan d).item := by
    rw [State.modRx, State.chan_modChan]
    split
    · next hd => exact hd ▸ ⟨rfl, rfl, rfl, rfl, rfl⟩
    · exact ⟨rfl, rfl, rfl, rfl, rfl⟩
  obtain ⟨hholds, hset, hline, hrequests, hitem⟩ := hkept
  exact (hb d).imp (fun hled => by rwa [hitem]) fun hok =>
    hok.keep (.of_same rfl rfl rfl ⟨hholds, hset, hline, hrequests⟩) hitem fun _ _ => rfl

/-! ### The laws and what begins, together -/

/-- The laws of the traffic are kept, and what begins is timely. -/
def State.goes (s t : State) : Prop := t.trafficOk ∧ s.begun t

theorem State.SameAir.goes (hair : s.SameAir t) (ht : t.goes u) : s.goes u :=
  ⟨ht.1, fun d => by rw [← (hair d).1]; exact ht.2 d⟩

theorem State.goes.judgeKeyUp (hs : s.goes t) (cs : List ChannelNo) : s.goes (t.judgeKeyUp cs) :=
  ⟨hs.1.judgeKeyUp cs, hs.2.judgeKeyUp hs.1 cs⟩

/-- A decision that leaves the other channels' items. -/
theorem State.chosen.goes (hu : State.chosen c t u) (hothers : ∀ d, d ≠ c → (t.chan d).item = (s.chan d).item) : s.goes u :=
  ⟨hu.1, fun d => by
    by_cases hd : d = c
    · exact .inr (hd ▸ hu.2.2)
    · refine .inl ?_
      rw [(hu.2.1.1.chan d hd).1, hothers d hd]
      exact Item.leadsTo_refl _⟩

/-- The item in progress has ended. -/
theorem State.settling.itemEnds (hs : State.settling c cut g s) : s.goes (s.itemEnds c cut) :=
  State.chosen.goes ((State.chosen_deciding c cut _).decisionPoint (g := g) ⟨hs.noItem, .refl c _⟩) fun d hd => by
    rw [State.chan_modChan, if_neg hd]

theorem State.goes.outbox (hs : s.goes t) (ns : List Notice) : s.goes { t with outbox := ns } :=
  ⟨hs.1.keep (fun ht => ht.congr (.of_parts rfl rfl rfl rfl)) (.of_channels rfl), fun d => (hs.2 d).imp id fun hok =>
    hok.keep (.of_same rfl rfl rfl ⟨rfl, rfl, rfl, rfl⟩) rfl fun _ _ => rfl⟩

theorem State.goes.emit (hs : s.goes t) (e : Event) (ch : Option ChannelNo) (fs : List Field) : s.goes (t.emit e ch fs) :=
  hs.outbox _

/-- A channel that is not keyed comes on the air. -/
theorem State.trafficOk.enterOnAir (hs : s.trafficOk) (hoff : (s.chan c).state.keyed = false) : s.goes (s.enterOnAir c) := by
  obtain ⟨u, hu⟩ : ∃ u, u = s.keyed c := ⟨_, rfl⟩
  have hsettling : State.settling c none none u := hu ▸ hs.settling_keyed hoff
  have hothers (d : ChannelNo) (hd : d ≠ c) : (u.chan d).item = (s.chan d).item := by
    rw [hu, State.keyed, State.chan_modChan, if_neg hd]
  unfold State.enterOnAir
  rw [← hu]
  exact (((State.chosen_deciding c none u).decisionPoint (g := none) ⟨hsettling, .refl c u⟩).goes hothers).emit _ _ _

/-- What changes no item begins nothing. -/
theorem State.trafficOk.goes (ht : t.trafficOk) (hair : s.SameAir t) : s.goes t := ⟨ht, hair.leadsTo.begun⟩

/-- A change of what is not on the air. -/
theorem State.trafficOk.keep_goes (hs : s.trafficOk) (ht : s.Traffic s.items → t.Traffic s.items) (hair : s.SameAir t) :
    s.goes t := (hs.keep ht hair).goes hair

theorem State.leadsTo.goes (hled : s.leadsTo t) (ht : t.goes u) : s.goes u :=
  ⟨ht.1, fun d => (ht.2 d).imp (Item.leadsTo_trans (hled d)) id⟩

/-! ### Cut requests begin nothing -/

theorem State.leadsTo_cutTelex : s.leadsTo (s.cutTelex c) := by
  unfold State.cutTelex
  split
  · next hitem => exact State.leadsTo_modChan (hitem ▸ .inr ⟨_, _, rfl⟩)
  · next hitem => exact State.leadsTo_modChan (hitem ▸ ⟨_, _, _, _, rfl⟩)
  all_goals exact (State.SameAir.refl s).leadsTo

theorem State.leadsTo_cutBulletin : s.leadsTo (s.cutBulletin c) := by
  unfold State.cutBulletin
  split
  · exact State.leadsTo_modChan trivial
  all_goals exact (State.SameAir.refl s).leadsTo

theorem State.leadsTo_relayReady : s.leadsTo (s.relayReady c) := by
  unfold State.relayReady
  split
  · exact State.leadsTo_cutTelex.trans State.leadsTo_cutBulletin
  · exact (State.SameAir.refl s).leadsTo

theorem State.leadsTo_cancelActive : s.leadsTo (s.cancelActive c h) := by
  have hsame : s.leadsTo s := (State.SameAir.refl s).leadsTo
  unfold State.cancelActive
  split
  · split
    · exact State.leadsTo_modChan trivial
    · exact hsame
  · split
    · exact State.leadsTo_cutTelex
    · exact hsame
  · split
    · exact State.leadsTo_cutTelex
    · exact hsame
  all_goals exact hsame

end

end Sys2Proof.Machine
end

section
/-! The completion of a line symbol keeps the laws of the traffic: a text symbol, the end of a message, of a marker and of
a bulletin (sections 5.3, 7.4 to 7.6 and 8.8). -/

namespace Sys2Proof.Machine

section
variable {s t : State} {c : ChannelNo} {h : Handle} {q : Request} {it : ChannelNo → Item} {i v : Item}

theorem State.trafficOk.undecided (hs : s.trafficOk) (hk : (s.chan c).state.keyed = true) :
    s.undecided c (s.chan c).item := by
  refine ⟨?_, hk, fun d _ => hs.keyedOk d⟩
  rw [show (s.chan c).item = s.items c from rfl, Function.update_eq_self]
  exact hs.traffic

theorem State.trafficOk.judgeBoundary (hs : s.trafficOk) : (s.judgeBoundary c).trafficOk :=
  (State.settling_deciding c none).judgeBoundary hs

/-- What is to settle may be kept in mind as another item with the same message and request. -/
theorem State.undecided.recast (hs : s.undecided c v) (hm : i.message = v.message) (hair : i.onAirRequest = v.onAirRequest)
    (hsuits : ∀ h, i.message = some h → v.suits (s.desc h) → i.suits (s.desc h)) (hrelay : ∀ h, i = .relay h → v = .relay h) :
    s.undecided c i := by
  have hnew := hs.1.reitem (c := c) (i := i) (by rwa [Function.update_self]) (by rwa [Function.update_self])
    (fun h hm' hv => hsuits h hm' (by rwa [Function.update_self] at hv))
    (fun h hr => by rw [Function.update_self]; exact hrelay h hr)
  rw [Function.update_idem] at hnew
  exact ⟨hnew, hs.2⟩

theorem State.SameAir.judgeBoundary : s.SameAir (s.judgeBoundary c) := by
  unfold State.judgeBoundary
  split
  · exact List.foldlRecOn (motive := fun t : State => s.SameAir t) _ _ (.refl s)
      fun (t : State) ht q _ => ht.trans (.endRequest _ _ _)
  · exact .refl s

theorem State.undecided.itemGoesOn (hs : s.undecided c v) (hm : i.message = v.message) (hair : i.onAirRequest = v.onAirRequest)
    (hsuits : ∀ h, i.message = some h → v.suits (s.desc h) → i.suits (s.desc h)) (hrelay : ∀ h, i = .relay h → v = .relay h)
    (hi : i ≠ .noItem) (hled : (s.chan c).item.leadsTo i) : s.goes (s.itemGoesOn c i) := by
  refine ⟨(hs.began (f := fun ch => { ch with item := i }) rfl rfl rfl hm hair hsuits hrelay hi).judgeBoundary, ?_⟩
  have hgoing : s.leadsTo (s.modChan c fun ch => { ch with item := i }) := State.leadsTo_modChan hled
  exact (hgoing.trans State.SameAir.judgeBoundary.leadsTo).begun

/-- The channel's own message has left the air, and nothing is left to settle. -/
theorem State.undecided.leaves (hs : s.undecided c v) (hv : v.message = some h)
    (ht : t.Traffic fun d => (Function.update s.items c v d).left h) (hair : s.SameAir t) : t.undecided c .idle := by
  refine hs.keep ?_ hair
  have hleft : (fun d => (Function.update s.items c v d).left h) = Function.update s.items c .idle := by
    funext d
    by_cases hd : d = c
    · rw [hd, Function.update_self, Function.update_self]
      exact if_pos hv
    · rw [Function.update_of_ne hd, Function.update_of_ne hd]
      refine Item.left_of_ne fun hm => hd ?_
      have hown := (hs.1.messages.aired c h).1 (by rw [Function.update_self]; exact hv)
      have hother := (hs.1.messages.aired d h).1 (by rw [Function.update_of_ne hd]; exact hm)
      exact hother.1.symm.trans hown.1
  rwa [hleft] at ht

theorem State.undecided.itemEnds (hs : t.undecided c .idle) (hair : s.SameAir t) : s.goes (t.itemEnds c none) :=
  hair.goes (State.settling.itemEnds (g := none) ⟨hs, .inl rfl⟩)

/-- The channel's own message, as its item tells. -/
theorem State.undecided.own (hs : s.undecided c v) (hv : v.message = some h) :
    (s.desc h).channel = c ∧ (s.desc h).state = .active ∧ v.suits (s.desc h) := by
  have haired := (hs.1.messages.aired c h).1 (by rw [Function.update_self]; exact hv)
  have hsuits := hs.1.messages.suits c h (by rw [Function.update_self]; exact hv)
  rw [Function.update_self] at hsuits
  exact ⟨haired.1, haired.2, hsuits⟩

/-! ### A text symbol -/

/-- R62, R121. What a text symbol changes is the resume point alone, but for the counts. -/
theorem State.SameTraffic.textSymbolDone (start : Nat) :
    (s.setDesc h { s.desc h with resume := (s.desc h).resume + 1 }).SameTraffic (s.textSymbolDone c h start) := by
  have hdesc (n : Nat → Nat) : (s.setDesc h { s.desc h with resume := (s.desc h).resume + 1 }).SameTraffic
      (s.modDesc h fun d => { d with
        resume := d.resume + 1, segments := n d.segments, firstKeyed := some (d.firstKeyed.getD s.now) }) := by
    refine ⟨fun g => ?_, fun _ => rfl, fun _ => rfl, rfl⟩
    rw [State.desc_modDesc, State.desc_setDesc]
    split
    · rfl
    · rfl
  unfold State.textSymbolDone
  dsimp only
  split
  · exact (hdesc (satSucc max16)).trans (.modStats _)
  · exact hdesc id

theorem State.SameAir.textSymbolDone (start : Nat) : s.SameAir (s.textSymbolDone c h start) := by
  unfold State.textSymbolDone
  dsimp only
  split
  · exact (State.SameAir.of_channels rfl).trans
      (.modChan (f := fun ch => { ch with stats := { ch.stats with segments := satSucc max32 ch.stats.segments } }))
  · exact .of_channels rfl

theorem State.desc_textSymbolDone (start : Nat) : ∃ n k, (s.textSymbolDone c h start).desc h
    = { s.desc h with resume := (s.desc h).resume + 1, segments := n, firstKeyed := k } := by
  unfold State.textSymbolDone
  dsimp only
  split
  · exact ⟨_, _, (State.desc_setDesc ..).trans (if_pos rfl)⟩
  · exact ⟨_, _, (State.desc_setDesc ..).trans (if_pos rfl)⟩

/-- A text symbol leaves the message to settle, or on the air. -/
theorem State.undecided.textSymbolDone {w : Item} (hs : s.undecided c v) (hv : v.message = some h) (hw : w.message = some h)
    (hsuits : w.suits { s.desc h with resume := (s.desc h).resume + 1 }) (hlong : (s.desc h).resume < (s.desc h).length)
    (hrelay : w = .relay h → v = .relay h) (start : Nat) : (s.textSymbolDone c h start).undecided c w := by
  obtain ⟨hc, hactive, -⟩ := hs.own hv
  obtain ⟨hstates, -, -, hlen, -⟩ := hs.1.messages.lawful h
  have hset := hs.1.setDesc_on_air (c := c) (h := h) (i := w) (d' := { s.desc h with resume := (s.desc h).resume + 1 })
    (.inr (by rw [Function.update_self]; exact hv)) (by rw [Function.update_self]; exact Item.onAirRequest_of_message hv) hw hc
    (by rw [hactive]; decide) (fun d p => by cases p <;> exact Iff.rfl) hsuits ⟨hc, rfl, hactive⟩
    ⟨hstates, fun he => absurd (hactive.symm.trans he) (by decide), hlong, hlen, fun _ _ => Nat.zero_lt_of_lt hlong⟩
    fun he => hs.1.messages.heads c h (by rw [Function.update_self]; exact hrelay he)
  rw [Function.update_idem] at hset
  exact hs.keep (hset.congr (.textSymbolDone start)) (.textSymbolDone start)

/-! ### The end of a message -/

theorem State.SameTraffic.doneCounted : s.SameTraffic (s.doneCounted c h) :=
  (State.SameTraffic.setDesc (d' := { s.desc h with doneTime := some s.now })).trans
    (.setChan (x := { s.chan c with stats := (s.chan c).stats.countDone (s.desc h).length }))

theorem State.SameAir.doneCounted : s.SameAir (s.doneCounted c h) :=
  (State.SameAir.of_channels rfl).trans
    (.setChan (s := s.setDesc h _) (x := { s.chan c with stats := (s.chan c).stats.countDone (s.desc h).length }))

theorem State.SameAir.toSent : s.SameAir (s.toSent h) := fun d => by
  rw [State.toSent_eq, State.chan_setChan]
  split
  · next hd =>
    rw [hd]
    exact ⟨rfl, rfl⟩
  · exact ⟨rfl, rfl⟩

theorem State.SameAir.messageEnds : s.SameAir (s.messageEnds c h) := by
  rw [State.messageEnds_eq]
  split
  · exact State.SameAir.doneCounted.trans (.freeWith _ _)
  · split
    · exact State.SameAir.doneCounted.trans (.freeWith _ _)
    · exact State.SameAir.doneCounted.trans (State.SameAir.toSent.trans (.of_channels rfl))

/-- R67. The last text symbol of a message of the slot has completed. -/
theorem State.Traffic.messageEnds (hs : s.Traffic it) (hactive : (s.desc h).state = .active) (hcls : (s.desc h).cls ≠ .relay) :
    (s.messageEnds c h).Traffic fun d => (it d).left h := by
  have hcounted : (s.doneCounted c h).Traffic it := hs.congr .doneCounted
  have hstate : ((s.doneCounted c h).desc h).state = .active := by
    rw [State.desc_doneCounted]
    exact hactive
  have hloading : ((s.doneCounted c h).desc h).state ≠ .loading := by
    rw [hstate]
    decide
  rw [State.messageEnds_eq]
  split
  · exact hcounted.freeWith hloading _ _
  · split
    · exact hcounted.freeWith hloading _ _
    · refine (hcounted.toSent hstate ?_).congr (.of_parts rfl rfl rfl rfl)
      rw [State.desc_doneCounted]
      exact hcls

/-- A message freed from a state that differs in the message alone. -/
theorem State.SameTraffic.freeMessage (hdesc : ∀ g, g ≠ h → (t.desc g).traffic = (s.desc g).traffic)
    (hc : (t.desc h).channel = (s.desc h).channel) (hchan : ∀ d, (t.chan d).traffic = (s.chan d).traffic)
    (harea : ∀ a, t.area a = s.area a) (hload : t.loadUnit.current = s.loadUnit.current) :
    (s.freeMessage h).SameTraffic (t.freeMessage h) := by
  refine ⟨fun g => ?_, fun d => ?_, harea, hload⟩
  · rw [State.desc_freeMessage, State.desc_freeMessage]
    split
    · rfl
    · next hg => exact hdesc g hg
  · have hdetach (u : State) : (u.freeMessage h).chan d = if d = (u.desc h).channel then (u.chan (u.desc h).channel).detach h
        else u.chan d := by
      show (u.detach h).chan d = _
      exact State.chan_modChan ..
    rw [hdetach, hdetach, hc]
    split
    · exact (congrArg (fun ch : Channel => (ch.detach h).traffic) (hchan (s.desc h).channel) :)
    · exact hchan d

/-- R67. A relay keyed to its end is freed. -/
theorem State.Traffic.messageEnds_relay (hs : s.Traffic it) (hactive : (s.desc h).state = .active)
    (hcls : (s.desc h).cls = .relay) (start : Nat) :
    ((s.textSymbolDone c h start).messageEnds c h).Traffic fun d => (it d).left h := by
  have hfree := hs.freeMessage (h := h) (by rw [hactive]; decide)
  obtain ⟨u, hu⟩ : ∃ u, u = (s.textSymbolDone c h start).doneCounted c h := ⟨_, rfl⟩
  obtain ⟨n, k, hdone⟩ := State.desc_textSymbolDone (s := s) (c := c) (h := h) start
  have hsame : (s.setDesc h { s.desc h with resume := (s.desc h).resume + 1 }).SameTraffic u := by
    rw [hu]
    exact (State.SameTraffic.textSymbolDone start).trans .doneCounted
  have hown : (u.desc h).channel = (s.desc h).channel := by
    rw [hu, State.desc_doneCounted, hdone]
  have hfreed : (s.freeMessage h).SameTraffic (u.freeMessage h) :=
    .freeMessage (fun g hg => (hsame.desc g).trans (by rw [State.desc_setDesc, if_neg hg])) hown hsame.chan hsame.area hsame.load
  have hwith (e : Event) (fs : List Field) : (u.freeWith h e fs).Traffic fun d => (it d).left h :=
    State.Traffic.rejudgeGrant (s := (u.freeMessage h).emit e (some (u.desc h).channel) (u.messageFields h ++ fs))
      ((hfree.congr hfreed).congr (.of_parts rfl rfl rfl rfl))
  rw [State.messageEnds_eq, ← hu]
  split
  · exact hwith _ _
  · rw [if_pos (.inl (by rw [hdone]; exact hcls))]
    exact hwith _ _

end

end Sys2Proof.Machine
end

section
/-! The completion of a line symbol, item by item, and the breaking off of a channel (sections 7.1, 8.5 to 8.7). -/

namespace Sys2Proof.Machine

section
variable {s t : State} {c : ChannelNo} {h : Handle} {q : Request} {it : ChannelNo → Item} {i v : Item}

theorem State.SameAir.modStats (f : Stats → Stats) : s.SameAir (s.modStats c f) :=
  .modChan (f := fun ch => { ch with stats := f ch.stats })

theorem State.undecided.modStats (hs : s.undecided c v) (f : Stats → Stats) : (s.modStats c f).undecided c v :=
  hs.congr (.modStats f) (.modStats f)

/-! ### The items -/

/-- R124. A marker that closes a message completes. -/
theorem State.undecided.markerEnds_message {p : Purpose} {keyed : Nat} (hs : s.undecided c (.marker (.message h) p keyed)) :
    s.goes ((s.markerEnds c (.message h) p).itemEnds c none) := by
  obtain ⟨hc, hactive, hcls⟩ := hs.own (h := h) rfl
  have hlive : (s.desc h).state ∉ [.free, .loading] := by rw [hactive]; decide
  have hsuspended : ((s.suspend h)).undecided c .idle := hs.leaves rfl (hs.1.suspend hlive hcls) (.toHead _)
  cases p with
  | park reason =>
    have hparked : ((s.setDesc h { s.desc h with state := .parked })).undecided c .idle :=
      hs.leaves rfl (hs.1.park hactive hcls) (.of_channels rfl)
    exact State.undecided.itemEnds (hparked.congr (.of_parts rfl rfl rfl rfl) (.of_channels rfl)) (.of_channels rfl)
  | hold =>
    exact State.undecided.itemEnds (hsuspended.congr (.of_parts rfl rfl rfl rfl) (.of_channels rfl))
      (State.SameAir.trans (t := s.suspend h) (.toHead _) (.of_channels rfl))
  | close =>
    exact State.undecided.itemEnds (hsuspended.congr (.of_parts rfl rfl rfl rfl) (.of_channels rfl))
      (State.SameAir.trans (t := s.suspend h) (.toHead _) (.of_channels rfl))
  | cancel =>
    exact State.undecided.itemEnds (hs.leaves rfl (hs.1.freeWith (by rw [hactive]; decide) _ _) (.freeWith _ _))
      (.freeWith _ _)
  | bulletinCut =>
    exact State.settling.itemEnds (g := some (.message h)) ⟨hs.recast rfl rfl (fun _ _ hd => hd) nofun, .inr ⟨h, rfl⟩⟩

theorem State.SameAir.returnRequest (x : SlotNo × Nat × AreaNo) : s.SameAir (s.returnRequest c x.1 x.2.1 x.2.2) :=
  (State.SameAir.modChan (f := fun ch => { ch with
    requests := ch.requests.map fun q => if q.isFor x.1 x.2.1 then
      { q with state := .waiting, restarts := satSucc max8 q.restarts } else q })).trans (.of_channels rfl)

theorem State.SameAir.bulletinEnds (slot : SlotNo) (due : Nat) (a : AreaNo) : s.SameAir (s.bulletinEnds c slot due a) := by
  unfold State.bulletinEnds
  dsimp only
  split
  · exact State.SameAir.trans (.of_channels rfl) (.endRequest _ _ _)
  · exact .of_channels rfl

/-- The channel's own request is on the air no longer. -/
theorem State.undecided.settled (hs : s.undecided c v) (ht : t.Traffic (Function.update (Function.update s.items c v) c .idle))
    (hair : s.SameAir t) : t.undecided c .idle := by
  rw [Function.update_idem] at ht
  exact hs.keep ht hair

/-- R97, R127. A marker that closes a bulletin completes. -/
theorem State.undecided.markerEnds_request {p : Purpose} {keyed : Nat} {slot : SlotNo} {due : Nat} {a : AreaNo}
    (hs : s.undecided c (.marker (.request slot due a) p keyed)) :
    s.goes ((s.markerEnds c (.request slot due a) p).itemEnds c none) :=
  State.undecided.itemEnds (hs.settled (hs.1.returnRequest (x := (slot, due, a)) (by rw [Function.update_self]; rfl)
    ⟨rfl, rfl⟩) (.returnRequest (slot, due, a))) (.returnRequest (slot, due, a))

/-- R121, R122. A symbol of a segment. -/
theorem State.undecided.segmentSymbolDone {start e : Nat} {cut : Option Nat} (hs : s.undecided c (.segment h start e cut))
    (hitem : (s.chan c).item = .segment h start e cut) : s.goes (s.segmentSymbolDone c h start e cut) := by
  obtain ⟨hc, hactive, hcls, hstart, hlo, hhi⟩ := hs.own (h := h) rfl
  obtain ⟨u, hu⟩ : ∃ u, u = s.textSymbolDone c h start := ⟨_, rfl⟩
  obtain ⟨n, k, hdone⟩ := State.desc_textSymbolDone (s := s) (c := c) (h := h) start
  have hair : s.SameAir u := hu ▸ .textSymbolDone start
  have hsegment : u.SameAir (u.segmentEnds c (u.desc h).dest) := .modChan
  rw [← hu] at hdone
  have hmessage : u.undecided c (unsettled (some (.message h))) := by
    rw [hu]
    exact hs.textSymbolDone (w := unsettled (some (.message h))) rfl rfl hcls (hlo.trans_le hhi) nofun start
  have hended : ((u.segmentEnds c (u.desc h).dest)).undecided c (unsettled (some (.message h))) :=
    hmessage.congr .modChan hsegment
  have hstate : (u.desc h).state = .active := by rw [hdone]; exact hactive
  have hnorelay : (u.desc h).cls ≠ .relay := by rw [hdone]; exact hcls
  unfold State.segmentSymbolDone
  rw [← hu]
  dsimp only
  split
  · exact State.undecided.itemEnds (hended.leaves rfl (hended.1.messageEnds hstate hnorelay) .messageEnds)
      (hair.trans (hsegment.trans .messageEnds))
  · next hmore =>
    split
    · exact (hair.trans hsegment).goes (State.settling.itemEnds (g := some (.message h)) ⟨hended, .inr ⟨h, rfl⟩⟩)
    · next hgoes =>
      refine hair.goes (hmessage.itemGoesOn rfl rfl (fun g hm _ => ?_) nofun nofun ?_)
      · cases hm
        rw [hdone] at hgoes ⊢
        exact ⟨hcls, by show start ≤ (s.desc h).resume + 1; omega, Nat.lt_of_not_le hgoes, hhi⟩
      · rw [(hair c).1, hitem]
        exact Item.leadsTo_refl _

/-- R108. A symbol of a relay. -/
theorem State.undecided.relaySymbolDone (hs : s.undecided c (.relay h)) : s.goes (s.relaySymbolDone c h) := by
  obtain ⟨hc, hactive, hcls, hlong⟩ := hs.own (h := h) rfl
  obtain ⟨n, k, hdone⟩ := State.desc_textSymbolDone (s := s) (c := c) (h := h) 0
  unfold State.relaySymbolDone
  dsimp only
  split
  · exact State.undecided.itemEnds (hs.leaves rfl (hs.1.messageEnds_relay hactive hcls 0)
      ((State.SameAir.textSymbolDone 0).trans .messageEnds)) ((State.SameAir.textSymbolDone 0).trans .messageEnds)
  · next hmore =>
    rw [hdone] at hmore
    have hless : (s.desc h).resume + 1 < (s.desc h).length := by
      have hne : (s.desc h).resume + 1 ≠ (s.desc h).length := hmore
      omega
    exact (State.SameAir.textSymbolDone 0).goes (State.undecided.itemGoesOn (hs.textSymbolDone (w := .relay h) rfl rfl
      ⟨hcls, hless⟩ hlong (fun _ => rfl) 0) rfl rfl (fun _ _ hd => hd) (fun _ hr => hr) nofun trivial)

/-- R96, R127, R131. A symbol of a bulletin. -/
theorem State.undecided.bulletinSymbolDone {slot : SlotNo} {due pos : Nat} {a : AreaNo} {cut : Option Nat}
    (hs : s.undecided c (.bulletin slot due a pos cut)) : s.goes (s.bulletinSymbolDone c slot due a pos cut) := by
  unfold State.bulletinSymbolDone
  split
  · exact State.undecided.itemEnds (hs.settled (hs.1.bulletinEnds (x := (slot, due, a)) (by rw [Function.update_self]; rfl)
      ⟨rfl, rfl⟩) (.bulletinEnds slot due a)) (.bulletinEnds slot due a)
  · split
    · exact State.settling.itemEnds (g := some (.request slot due a)) ⟨hs.recast rfl rfl nofun nofun, .inl rfl⟩
    · exact hs.itemGoesOn rfl rfl nofun nofun nofun trivial

theorem State.undecided.itemSymbolDone (hs : s.undecided c (s.chan c).item) (hok : s.trafficOk) :
    s.goes (s.itemSymbolDone c) := by
  unfold State.itemSymbolDone
  split
  · exact ⟨hok, (State.SameAir.refl s).leadsTo.begun⟩
  · next hitem =>
    rw [hitem] at hs
    exact State.undecided.itemEnds (hs.modStats _) (.modStats _)
  · next h cost keyed e cut hitem =>
    have hled (k n : Nat) (e' : Nat) (cut' : Option Nat) : (s.chan c).item.leadsTo (.header h k n e' cut') :=
      hitem ▸ ⟨cost, keyed, e, cut, rfl⟩
    have htext : (s.chan c).item.leadsTo (.segment h (s.desc h).resume e cut) := hitem ▸ .inl ⟨cost, keyed, e, cut, rfl⟩
    rw [hitem] at hs
    split
    · exact hs.itemGoesOn rfl rfl (fun _ _ hd => hd) nofun nofun (hled ..)
    · refine hs.itemGoesOn rfl rfl (fun g hm hd => ?_) nofun nofun htext
      cases hm
      exact ⟨hd.1, Nat.le_refl _, hd.2⟩
  · next what p keyed hitem =>
    rw [hitem] at hs
    split
    · exact hs.itemGoesOn (by cases what <;> rfl) (by cases what <;> rfl) (fun _ _ hd => hd) nofun nofun trivial
    · have hcounted := hs.modStats fun t => { t with markers := satSucc max32 t.markers }
      refine State.SameAir.goes (t := s.modStats c fun t => { t with markers := satSucc max32 t.markers }) (.modStats _) ?_
      cases what with
      | message h => exact hcounted.markerEnds_message
      | request slot due a => exact hcounted.markerEnds_request
  · next h start e cut hitem =>
    rw [hitem] at hs
    exact hs.segmentSymbolDone hitem
  · next h hitem =>
    rw [hitem] at hs
    exact hs.relaySymbolDone
  · next slot due a pos cut hitem =>
    rw [hitem] at hs
    exact hs.bulletinSymbolDone

/-- R19. A shift is counted, and changes the line case. -/
theorem State.trafficOk.shiftCounted (hs : s.trafficOk) (sh : Nat) : (s.modChan c fun ch => { ch with
    lineCase := caseAfterShift ch.lineCase sh
    stats := { ch.stats with shifts := satSucc max32 ch.stats.shifts } }).trafficOk :=
  hs.keep (fun ht => ht.congr .setChan) .setChan

/-- R18. A line symbol completes. -/
theorem State.trafficOk.symbolCompletes (hs : s.trafficOk) (hk : (s.chan c).state.keyed = true) :
    s.goes (s.symbolCompletes c) := by
  have hcount : s.SameTraffic (s.countLine c) ∧ s.SameAir (s.countLine c) := by
    unfold State.countLine
    split
    · exact ⟨.modStats _, .modStats _⟩
    · exact ⟨(State.SameTraffic.modStats _).trans (.emit ..), State.SameAir.trans (t := s.modStats c fun t => { t with
        lineSymbols := 0 }) (.modStats _) (.of_channels rfl)⟩
  have hcounted : s.SameTraffic ((s.countLine c).nextPeriod c) ∧ s.SameAir ((s.countLine c).nextPeriod c) :=
    ⟨hcount.1.trans (.modChan (f := fun ch => { ch with symbolEnd := ch.symbolEnd + ch.settings.period })),
      hcount.2.trans (.modChan (f := fun ch => { ch with
      symbolEnd := ch.symbolEnd + ch.settings.period }))⟩
  have hok := hs.keep (fun ht => ht.congr hcounted.1) hcounted.2
  unfold State.symbolCompletes
  dsimp only
  split
  · exact ⟨hs, (State.SameAir.refl s).leadsTo.begun⟩
  · refine hcounted.2.goes ?_
    split
    · next sh _ =>
      have hshifted : ((s.countLine c).nextPeriod c).SameAir (((s.countLine c).nextPeriod c).shiftDone c sh) :=
        State.SameAir.trans .setChan .judgeBoundary
      exact ⟨State.trafficOk.judgeBoundary (hok.shiftCounted sh), hshifted.leadsTo.begun⟩
    · exact State.undecided.itemSymbolDone (hok.undecided (by rw [(hcounted.2 c).2]; exact hk)) hok

end

end Sys2Proof.Machine
end

section
/-! A channel that is broken off by a fault, a close or a reset keeps the laws of the traffic (sections 8.5 to 8.7). -/

namespace Sys2Proof.Machine

section
variable {s t : State} {c : ChannelNo} {g h : Handle} {q : Request} {it : ChannelNo → Item} {i v : Item}

/-- A channel off the air, with no item. -/
theorem State.trafficOk.offAir (hs : s.trafficOk) (ht : t.Traffic (Function.update s.items c .idle))
    (hothers : ∀ d, d ≠ c → (t.chan d).item = (s.chan d).item ∧ (t.chan d).state = (s.chan d).state)
    (hitem : (t.chan c).item = .noItem) (hstate : (t.chan c).state.keyed = false) : s.goes t := by
  have hled : s.leadsTo t := State.leadsTo_of_others (fun d hd => (hothers d hd).1) (hitem ▸ trivial)
  have hnone := ht.reitem (c := c) (i := .noItem) (by rw [Function.update_self]; rfl) (by rw [Function.update_self]; rfl)
    nofun nofun
  rw [Function.update_idem, ← State.items_of_others fun d hd => (hothers d hd).1, ← hitem,
    show (t.chan c).item = t.items c from rfl, Function.update_eq_self] at hnone
  refine ⟨hnone.trafficOk fun d => ?_, hled.begun⟩
  by_cases hd : d = c
  · rw [hd, hitem, hstate]
    exact iff_of_false nofun fun hno => hno rfl
  · rw [(hothers d hd).1, (hothers d hd).2]
    exact hs.keyedOk d

theorem State.SameAir.forSome {α : Type} {f : State → α → State} (hf : ∀ (t : State) x, t.SameAir (f t x)) (x : Option α) :
    s.SameAir (s.forSome x f) := by
  cases x with
  | none => exact .refl s
  | some x => exact hf s x

theorem State.SameAir.suspend (s : State) (h : Handle) : s.SameAir (s.suspend h) := .toHead _

theorem State.SameAir.requeueReady (s : State) (h : Handle) : s.SameAir (s.requeueReady h) := .toHead _

theorem State.SameAir.freeCancelled (s : State) (h : Handle) : s.SameAir (s.freeCancelled h) := .freeWith _ _

theorem State.SameAir.returnSome (x : Option (SlotNo × Nat × AreaNo)) :
    s.SameAir (s.forSome x fun t q => t.returnRequest c q.1 q.2.1 q.2.2) := by
  cases x with
  | none => exact .refl s
  | some x => exact .returnRequest x

theorem State.SameAir.faultReturns (s t : State) (c : ChannelNo) : t.SameAir (s.faultReturns t c) := by
  unfold State.faultReturns
  exact ((State.SameAir.forSome State.SameAir.suspend _).trans (.forSome State.SameAir.requeueReady _)).trans (.returnSome _)

theorem State.SameAir.resetMessages (s t : State) (c : ChannelNo) : t.SameAir (s.resetMessages t c) := by
  have hsuspend (u : State) (h : Handle) : u.SameAir ((u.suspend h).suspendedNotice h .reset) :=
    (State.SameAir.suspend u h).trans (.of_channels rfl)
  unfold State.resetMessages
  exact ((State.SameAir.forSome (f := fun u h => (u.suspend h).suspendedNotice h .reset) hsuspend _).trans
    (.forSome State.SameAir.freeCancelled _)).trans (.forSome State.SameAir.requeueReady _)

/-- A message of a channel leaves the air of that channel alone. -/
theorem State.Messages.left_own (hs : s.Messages it) (hc : (s.desc h).channel = c) :
    (fun d => (it d).left h) = Function.update it c ((it c).left h) := by
  funext d
  by_cases hd : d = c
  · rw [hd, Function.update_self]
  · rw [Function.update_of_ne hd]
    exact Item.left_of_ne fun hm => hd (((hs.aired d h).1 hm).1.symm.trans hc)

theorem Item.left_message (hv : v.message = some h) : v.left h = .idle := if_pos hv

/-- The items once the channel's own message has left the air. -/
theorem State.Traffic.left_update (hs : s.Traffic (Function.update it c v)) (hv : v.message = some h)
    (ht : t.Traffic fun d => (Function.update it c v d).left h) : t.Traffic (Function.update it c .idle) := by
  have haired := (hs.messages.aired c h).1 (by rw [Function.update_self]; exact hv)
  rw [hs.messages.left_own haired.1, Function.update_idem, Function.update_self, Item.left_message hv] at ht
  exact ht

/-! ### What a channel's item returns -/

theorem Item.relayHandle_of_slotMessage (hv : v.slotMessage = some h) : v.relayHandle = none ∧ v.onAirRequest = none := by
  cases v with
  | marker what p keyed => cases what with
    | message => exact ⟨rfl, rfl⟩
    | request => cases hv
  | relay => cases hv
  | bulletin => cases hv
  | _ => exact ⟨rfl, rfl⟩

/-- R82. A relay being keyed returns READY. -/
theorem State.Traffic.requeueRelay (hs : s.Traffic (Function.update it c (.relay h))) :
    (s.requeueReady h).Traffic (Function.update it c .idle) := by
  have haired := (hs.messages.aired c h).1 (by rw [Function.update_self]; rfl)
  exact hs.left_update rfl (hs.requeueReady (by rw [haired.2]; decide) fun _ => haired.2)

/-- R97, R142. What the item of a channel returns, no message of the slot being on the air. -/
theorem State.Traffic.returned (hs : s.Traffic (Function.update it c v)) (hno : v.slotMessage = none) :
    ((s.forSome v.relayHandle State.requeueReady).forSome v.onAirRequest fun t q =>
      t.returnRequest c q.1 q.2.1 q.2.2).Traffic (Function.update it c .idle) := by
  have hrequest (x : SlotNo × Nat × AreaNo) (hx : v.onAirRequest = some x) :
      (s.returnRequest c x.1 x.2.1 x.2.2).Traffic (Function.update it c .idle) := by
    have hback := hs.returnRequest (c := c) (x := x) (i := .idle) (by rw [Function.update_self]; exact hx) ⟨rfl, rfl⟩
    rwa [Function.update_idem] at hback
  cases v with
  | noItem =>
    refine hs.recast fun d => ?_
    by_cases hd : d = c
    · rw [hd, Function.update_self, Function.update_self]
      exact .inr ⟨⟨rfl, rfl⟩, rfl, rfl⟩
    · rw [Function.update_of_ne hd, Function.update_of_ne hd]
      exact .inl rfl
  | idle => exact hs
  | relay h => exact hs.requeueRelay
  | bulletin slot due a pos cut => exact hrequest (slot, due, a) rfl
  | marker what p keyed =>
    cases what with
    | message => cases hno
    | request slot due a => exact hrequest (slot, due, a) rfl
  | header => cases hno
  | segment => cases hno

/-! ### The message of the slot -/

/-- R121. The message of the slot that is ACTIVE is the item's, and any other there is PARKED. -/
theorem State.trafficOk.slot_cases (hs : s.trafficOk) (c : ChannelNo) :
    (∃ h, (s.chan c).item.slotMessage = some h ∧ (s.chan c).active = some h ∧ (s.desc h).state = .active
      ∧ (s.desc h).channel = c ∧ (s.desc h).cls ≠ .relay)
    ∨ (s.chan c).item.slotMessage = none ∧ ((s.chan c).active = none
      ∨ ∃ h, (s.chan c).active = some h ∧ (s.desc h).state = .parked ∧ (s.desc h).cls ≠ .relay) := by
  obtain ⟨-, hown, -⟩ := hs.2.1 c
  have hslot := hs.1.2.1 c
  cases hm : (s.chan c).item.slotMessage with
  | some h =>
    obtain ⟨hactive, hstate⟩ := (hown h).1 hm
    obtain ⟨hc, hcls, -⟩ := (hslot h).1 hactive
    exact .inl ⟨h, rfl, hactive, hstate, hc, hcls⟩
  | none =>
    refine .inr ⟨rfl, ?_⟩
    cases ha : (s.chan c).active with
    | none => exact .inl rfl
    | some h =>
      obtain ⟨-, hcls, hstate⟩ := (hslot h).1 ha
      refine .inr ⟨h, rfl, hstate.resolve_left fun he => ?_, hcls⟩
      have hitem := (hown h).2 ⟨ha, he⟩
      rw [hm] at hitem
      cases hitem

theorem Item.message_of_slotMessage (hv : v.slotMessage = some h) : v.message = some h := Item.message_eq_some.2 (.inl hv)

/-- What a fault returns keeps the laws, from a state that has the traffic of one that keeps them. -/
theorem State.trafficOk.faultReturns (hs : s.trafficOk) (hsame : s.SameTraffic t) (hdesc : t.desc = s.desc) (fs : List Field) :
    (((s.faultReturns t c).emit .fault (some c) fs).forSome (s.cancelledInSlot c) State.freeCancelled).Traffic
      (Function.update s.items c .idle) := by
  have ht : t.Traffic (Function.update s.items c (s.chan c).item) := by
    rw [show (s.chan c).item = s.items c from rfl, Function.update_eq_self]
    exact hs.traffic.congr hsame
  have hemit (u : State) (hu : u.Traffic (Function.update s.items c .idle)) :
      (u.emit .fault (some c) fs).Traffic (Function.update s.items c .idle) := hu.congr (.emit ..)
  unfold State.faultReturns
  rcases hs.slot_cases c with ⟨h, hm, hactive, hstate, hc, hcls⟩ | ⟨hm, hactive | ⟨h, hactive, hstate, hcls⟩⟩
  · obtain ⟨hrelay, hair⟩ := Item.relayHandle_of_slotMessage hm
    rw [hrelay, hair]
    by_cases hcancel : (s.desc h).state = .active ∧ (s.desc h).cancelRequested = true
    · obtain ⟨hfreed, hkept⟩ := (State.inSlot_of_some hactive).1 hcancel
      rw [hfreed, hkept]
      have hold : t.Traffic (Function.update s.items c (s.chan c).item) := ht
      have hnotice : (t.emit .fault (some c) fs).Traffic (Function.update s.items c (s.chan c).item) := hold.congr (.emit ..)
      exact hnotice.left_update (Item.message_of_slotMessage hm) (hnotice.freeWith (by
        show (t.desc h).state ≠ _; rw [hdesc, hstate]; decide) _ _)
    · obtain ⟨hfreed, hkept⟩ := (State.inSlot_of_some hactive).2 hcancel
      rw [hfreed, hkept]
      exact hemit _ (ht.left_update (Item.message_of_slotMessage hm) (ht.suspend (by rw [hdesc, hstate]; decide)
        (by rw [hdesc]; exact hcls)))
  · obtain ⟨hfreed, hkept⟩ := State.inSlot_of_none hactive
    rw [hfreed, hkept]
    exact hemit _ (ht.returned hm)
  · obtain ⟨hfreed, hkept⟩ := (State.inSlot_of_some hactive).2 (by rw [hstate]; simp)
    rw [hfreed, hkept]
    have hback := ht.suspend (h := h) (by rw [hdesc, hstate]; decide) (by rw [hdesc]; exact hcls)
    rw [ht.messages.left_eq (by rw [hdesc, hstate]; decide)] at hback
    exact hemit _ (hback.returned hm)

/-- R141, R142. A fault keeps the laws. -/
theorem State.trafficOk.faultChannel (hs : s.trafficOk) (ready : Bool) (reason : FaultReason) :
    s.goes ((s.setReady c ready).faultChannel c reason) := by
  have hhere : s.SameTraffic (s.faultedHere c ready reason) := .setChan
  have hchan (d : ChannelNo) : (s.faultedHere c ready reason).chan d = if d = c then
      (s.faultedHere c ready reason).chan c else s.chan d := by
    split
    · next hd => rw [hd]
    · next hd => exact (State.chan_setChan ..).trans (if_neg hd)
  have hself : ((s.faultedHere c ready reason).chan c).item = .noItem
      ∧ ((s.faultedHere c ready reason).chan c).state = .faulted := by
    rw [State.faultedHere, State.chan_setChan, if_pos rfl]
    exact ⟨rfl, rfl⟩
  rw [show s.setReady c ready = s.setChan c { s.chan c with ready := ready } from rfl, State.faultChannel_eq]
  obtain ⟨fs, hfs⟩ : ∃ fs : List Field, fs = [.num 1 reason.code, .num 1 (s.chan c).item.code,
      .opt 1 ((s.chan c).active.map Fin.val), .opt 2 ((s.chan c).active.map fun h => (s.desc h).resume),
      .opt 1 ((s.chan c).item.relayHandle.map Fin.val), .opt 1 ((s.chan c).item.onAirRequest.map fun q => q.1.val),
      .opt 6 ((s.chan c).item.onAirRequest.map fun q => q.2.1)] := ⟨_, rfl⟩
  rw [← hfs]
  have hair : (s.faultedHere c ready reason).SameAir (((s.faultReturns (s.faultedHere c ready reason) c).emit .fault (some c)
      fs).forSome (s.cancelledInSlot c) State.freeCancelled) :=
    ((State.SameAir.faultReturns _ _ _).trans (.of_channels rfl)).trans (.forSome State.SameAir.freeCancelled _)
  refine hs.offAir (hs.faultReturns hhere rfl fs) (fun d hd => ?_) ?_ ?_
  · rw [(hair d).1, (hair d).2, hchan, if_neg hd]
    exact ⟨rfl, rfl⟩
  · rw [(hair c).1]
    exact hself.1
  · rw [(hair c).2, hself.2]
    rfl

/-! ### A reset -/

/-- R146 steps 1 to 3. What a reset returns of the messages leaves at most a request on the air. -/
theorem State.trafficOk.resetMessages (hs : s.trafficOk) (hsame : s.SameTraffic t) (hdesc : t.desc = s.desc) :
    ∃ w : Item, (s.resetMessages t c).Traffic (Function.update s.items c w)
      ∧ w.onAirRequest = (s.chan c).item.onAirRequest ∧ w.message = none := by
  have hold : t.Traffic (Function.update s.items c (s.chan c).item) := by
    rw [show (s.chan c).item = s.items c from rfl, Function.update_eq_self]
    exact hs.traffic.congr hsame
  have hnotice {u : State} {it : ChannelNo → Item} (hu : u.Traffic it) (h : Handle) :
      (u.suspendedNotice h .reset).Traffic it := hu.congr (.of_parts rfl rfl rfl rfl)
  unfold State.resetMessages
  rcases hs.slot_cases c with ⟨h, hm, hactive, hstate, hc, hcls⟩ | ⟨hm, hparked⟩
  · obtain ⟨hrelay, honAir⟩ := Item.relayHandle_of_slotMessage hm
    rw [hrelay, honAir]
    refine ⟨.idle, ?_, rfl, rfl⟩
    by_cases hcancel : (s.desc h).state = .active ∧ (s.desc h).cancelRequested = true
    · obtain ⟨hfreed, hkept⟩ := (State.inSlot_of_some hactive).1 hcancel
      rw [hfreed, hkept]
      exact hold.left_update (Item.message_of_slotMessage hm) (hold.freeWith (by rw [hdesc, hstate]; decide) _ _)
    · obtain ⟨hfreed, hkept⟩ := (State.inSlot_of_some hactive).2 hcancel
      rw [hfreed, hkept]
      exact hnotice (hold.left_update (Item.message_of_slotMessage hm)
        (hold.suspend (by rw [hdesc, hstate]; decide) (by rw [hdesc]; exact hcls))) h
  · have hslot : ((t.forSome (s.suspendedInSlot c) fun s h => (s.suspend h).suspendedNotice h .reset).forSome
        (s.cancelledInSlot c) State.freeCancelled).Traffic (Function.update s.items c (s.chan c).item) := by
      rcases hparked with hactive | ⟨h, hactive, hstate, hcls⟩
      · obtain ⟨hfreed, hkept⟩ := State.inSlot_of_none hactive
        rw [hfreed, hkept]
        exact hold
      · obtain ⟨hfreed, hkept⟩ := (State.inSlot_of_some hactive).2 (by rw [hstate]; simp)
        rw [hfreed, hkept]
        have hback := hold.suspend (h := h) (by rw [hdesc, hstate]; decide) (by rw [hdesc]; exact hcls)
        rw [hold.messages.left_eq (by rw [hdesc, hstate]; decide)] at hback
        exact hnotice hback h
    generalize (t.forSome (s.suspendedInSlot c) fun s h => (s.suspend h).suspendedNotice h .reset).forSome
        (s.cancelledInSlot c) State.freeCancelled = r at hslot ⊢
    cases hrelay : (s.chan c).item.relayHandle with
    | none =>
      refine ⟨_, hslot, rfl, ?_⟩
      cases hmessage : (s.chan c).item.message with
      | none => rfl
      | some h =>
        rcases Item.message_eq_some.1 hmessage with hno | hno
        · rw [hm] at hno
          cases hno
        · rw [hno] at hrelay
          cases hrelay
    | some h =>
      have hitem := Item.relayHandle_eq_some.1 hrelay
      rw [hitem] at hslot ⊢
      exact ⟨.idle, hslot.requeueRelay, rfl, rfl⟩

/-- R146 step 4. A reset leaves the area on air, and ends every request of the channel. -/
theorem State.Traffic.resetRequests {w : Item} {u : State} (hw : u.Traffic (Function.update it c w)) (hm : w.message = none)
    (hdesc : ∀ h, t.desc h = u.desc h) (hmail : ∀ d, (t.chan d).mail = (u.chan d).mail)
    (hrequests : ∀ d, (t.chan d).requests
      = if d = c then (u.chan c).requests.filter fun _ => false else (u.chan d).requests)
    (hload : t.loadUnit.current = u.loadUnit.current)
    (harea : ∀ a, t.area a = (u.forSome w.onAirRequest fun s q => s.leaveArea q.2.2).area a) :
    t.Traffic (Function.update it c .idle) := by
  cases hx : w.onAirRequest with
  | none =>
    rw [hx] at harea
    have hblank := hw.recast (it' := Function.update it c .idle) fun d => by
      by_cases hd : d = c
      · rw [hd, Function.update_self, Function.update_self]
        exact .inr ⟨⟨hm, hx⟩, rfl, rfl⟩
      · rw [Function.update_of_ne hd, Function.update_of_ne hd]
        exact .inl rfl
    refine hblank.keep (c := c) hdesc hmail hrequests hload harea fun q hq hon => ?_
    have hkey := (hblank.bulletins.onAir c q hq).1 hon
    rw [Function.update_self] at hkey
    cases hkey
  | some x =>
    rw [hx] at harea
    have hleft := hw.leave (c := c) (x := x) (i := .idle) (t := t) (by rw [Function.update_self, hx])
      ⟨rfl, rfl⟩ hdesc hmail hrequests hload harea fun _ _ _ => rfl
    rwa [Function.update_idem] at hleft

theorem State.leaving_keeps (u : State) (x : Option (SlotNo × Nat × AreaNo)) :
    (u.forSome x fun s q => s.leaveArea q.2.2).channels = u.channels
      ∧ (u.forSome x fun s q => s.leaveArea q.2.2).descs = u.descs
      ∧ (u.forSome x fun s q => s.leaveArea q.2.2).loadUnit = u.loadUnit := by
  cases x <;> exact ⟨rfl, rfl, rfl⟩

/-- R146. A channel off the air whose requests have all ended. -/
theorem State.trafficOk.resetChannel {w : Item} {r u : State} {x : Channel} (hs : s.trafficOk)
    (hw : u.Traffic (Function.update s.items c w)) (hm : w.message = none)
    (hreturns : r = u.forSome w.onAirRequest fun s q => s.leaveArea q.2.2)
    (hx : x.mail = (r.chan c).mail ∧ x.requests = [] ∧ x.item = .noItem ∧ x.state = .offline)
    (hair : ∀ d, d ≠ c → (u.chan d).item = (s.chan d).item ∧ (u.chan d).state = (s.chan d).state) :
    s.goes (r.setChan c x) := by
  obtain ⟨hmail, hrequests, hitem, hstate⟩ := hx
  obtain ⟨hchannels, hdescs, hload⟩ : r.channels = u.channels ∧ r.descs = u.descs ∧ r.loadUnit = u.loadUnit := by
    rw [hreturns]
    exact u.leaving_keeps _
  have hchan (d : ChannelNo) : r.chan d = u.chan d := congrArg (vget · d) hchannels
  have hafter (d : ChannelNo) : (r.setChan c x).chan d = if d = c then x else u.chan d := by
    rw [State.chan_setChan, hchan]
  have htraffic : (r.setChan c x).Traffic (Function.update s.items c .idle) := by
    refine hw.resetRequests hm (fun h => congrArg (vget · h) hdescs) (fun d => ?_) (fun d => ?_)
      (congrArg LoadUnit.current hload) fun a => by rw [← hreturns]; rfl
    · rw [hafter]
      split
      · next hd => rw [hd, hmail, hchan]
      · rfl
    · rw [hafter, List.filter_false]
      split
      · exact hrequests
      · rfl
  refine hs.offAir htraffic (fun d hd => ?_) ?_ ?_
  · rw [hafter, if_neg hd]
    exact hair d hd
  · rw [hafter, if_pos rfl]
    exact hitem
  · rw [hafter, if_pos rfl, hstate]
    rfl

/-- R146. A reset keeps the laws. -/
theorem State.trafficOk.resetPort (hs : s.trafficOk) : s.goes (s.resetPort c) := by
  obtain ⟨ns, heq, -⟩ := s.resetPort_eq c
  obtain ⟨t, ht⟩ : ∃ t, t = s.resetHere c := ⟨_, rfl⟩
  have hchan (d : ChannelNo) : t.chan d = if d = c then t.chan c else s.chan d := by
    split
    · next hd => rw [hd]
    · next hd => rw [ht]; exact (State.chan_setChan ..).trans (if_neg hd)
  have hself : (t.chan c).item = .noItem ∧ (t.chan c).state = .offline := by
    rw [ht, State.resetHere, State.chan_setChan, if_pos rfl]
    exact ⟨rfl, rfl⟩
  obtain ⟨w, hw, hrequest, hm⟩ := hs.resetMessages (c := c) (t := t) (by rw [ht]; exact .setChan) (by rw [ht]; rfl)
  have hair := State.SameAir.resetMessages s t c
  rw [← ht] at heq
  obtain ⟨r, hr⟩ : ∃ r, r = s.resetReturns t c := ⟨_, rfl⟩
  rw [← hr] at heq
  unfold State.resetReturns at hr
  rw [← hrequest] at hr
  obtain ⟨u, hu⟩ : ∃ u, u = s.resetMessages t c := ⟨_, rfl⟩
  rw [← hu] at hw hair hr
  have hchannels : r.chan c = u.chan c := by
    rw [hr]
    exact congrArg (vget · c) (u.leaving_keeps _).1
  obtain ⟨v, hv⟩ : ∃ v, v = r.setChan c { r.chan c with
      requests := [], parser := Parser.reset, holds := [], latch := none, rx := RxCounts.reset, stats := Stats.reset } := ⟨_, rfl⟩
  have hdone : s.goes v := by
    rw [hv]
    refine hs.resetChannel hw hm hr ⟨rfl, rfl, ?_, ?_⟩ fun d hd => ?_
    · exact (congrArg Channel.item hchannels).trans ((hair c).1.trans hself.1)
    · exact (congrArg Channel.state hchannels).trans ((hair c).2.trans hself.2)
    · rw [(hair d).1, (hair d).2, hchan, if_neg hd]
      exact ⟨rfl, rfl⟩
  have hlast := hdone.outbox (r.outbox ++ ns)
  rw [hv] at hlast
  rwa [heq]

/-- R144. A close keeps the laws. -/
theorem State.trafficOk.closePort (hs : s.trafficOk) : s.goes (s.closePort c) := by
  have hsame : s.goes s := hs.goes (.refl s)
  have hoff (hk : (s.chan c).state.keyed = false) : s.goes (s.reachOffline c) := by
    have hitem : (s.chan c).item = .noItem := by
      by_contra hno
      rw [(hs.keyedOk c).2 hno] at hk
      cases hk
    have hidle := hs.traffic.reitem (c := c) (i := .idle) (by rw [State.items, hitem]; rfl) (by rw [State.items, hitem]; rfl)
      nofun nofun
    obtain ⟨-, ⟨st, hrest⟩, -⟩ := s.reachOffline_closed c
    have hafter : ((s.reachOffline c).chan c).state = .offline := (congrArg Channel.state hrest :)
    refine hs.offAir (hidle.reachOffline (by rw [Function.update_self]; exact ⟨rfl, rfl⟩))
      (fun d hd => State.chan_reachOffline d hd) (congrArg Channel.item hrest :) ?_
    rw [hafter]
    rfl
  unfold State.closePort
  split
  · exact hsame
  · exact hsame
  · next hstate => exact hoff (by rw [hstate]; rfl)
  · next hstate => exact hoff (by rw [hstate]; rfl)
  · next hstate => exact hoff (by rw [hstate]; rfl)
  · next hstate =>
    have hled : s.leadsTo (s.modChan c fun ch => { ch with state := .closing }) :=
      State.leadsTo_modChan (Item.leadsTo_refl _)
    refine ⟨State.trafficOk.cutTelex (s := s.modChan c fun ch => { ch with state := .closing }) ?_,
      (hled.trans State.leadsTo_cutTelex).begun⟩
    have hkeyed := (hs.undecided (c := c) (by rw [hstate]; rfl))
    have hself : (s.modChan c fun ch => { ch with state := .closing }).chan c = { s.chan c with state := .closing } :=
      (State.chan_modChan ..).trans (if_pos rfl)
    refine hkeyed.begins (hkeyed.1.congr (.modChan (f := fun ch => { ch with state := .closing }))) (fun d hd => ?_)
      (by rw [hself]) ?_
    · rw [State.chan_modChan, if_neg hd]
      exact ⟨rfl, rfl⟩
    · rw [hself]
      exact iff_of_true rfl ((hs.keyedOk c).1 (by rw [hstate]; rfl))

end

end Sys2Proof.Machine
end

section
/-! The open load keeps the laws of the traffic: its declaration, the text that it takes, and its end (chapter 4), with the
areas that it fills (chapter 3). -/

namespace Sys2Proof.Machine

section
variable {s t : State} {it : ChannelNo → Item} {h g : Handle} {c : ChannelNo} {a : AreaNo} {l m : OpenLoad} {d' : Descriptor}
  {x : Area}

/-! ### With and without a load -/

theorem State.Loads.not_loading (hs : s.Loads) (hnone : s.loadUnit.current = none) (g : Handle) :
    (s.desc g).state ≠ .loading := fun hg => by
  obtain ⟨l, hl, -⟩ := (hs.telex _ g).2 ⟨rfl, hg⟩
  rw [hnone] at hl
  cases hl

theorem State.Loads.no_area (hs : s.Loads) (hnone : s.loadUnit.current = none) (b : AreaNo) : (s.area b).state ≠ .loading :=
  fun hb => by
  obtain ⟨l, hl, -⟩ := (hs.bulletin b).2 hb
  rw [hnone] at hl
  cases hl

/-- The message of the open load is the one that is LOADING. -/
theorem State.Loads.loading_iff (hs : s.Loads) (hl : s.loadUnit.current = some l) :
    (s.desc g).state = .loading ↔ l.target = .telex g (s.desc g).channel := by
  constructor
  · intro hg
    obtain ⟨l', hl', ht⟩ := (hs.telex _ g).2 ⟨rfl, hg⟩
    obtain rfl := Option.some.inj (hl.symm.trans hl')
    exact ht
  · intro ht
    exact ((hs.telex _ g).1 ⟨l, hl, ht⟩).2

/-- The area of the open load is the one that is LOADING. -/
theorem State.Loads.area_iff (hs : s.Loads) (hl : s.loadUnit.current = some l) :
    (s.area a).state = .loading ↔ l.target = .bulletin a := by
  constructor
  · intro ha
    obtain ⟨l', hl', ht⟩ := (hs.bulletin a).2 ha
    obtain rfl := Option.some.inj (hl.symm.trans hl')
    exact ht
  · intro ht
    exact (hs.bulletin a).1 ⟨l, hl, ht⟩

/-- No load, and nothing LOADING. -/
theorem State.Loads.of_none (hload : t.loadUnit.current = none) (hdesc : ∀ g, (t.desc g).state ≠ .loading)
    (harea : ∀ b, (t.area b).state ≠ .loading) : t.Loads := by
  refine ⟨fun d g => iff_of_false ?_ fun hg => hdesc g hg.2, fun b => iff_of_false ?_ (harea b), fun l hl => ?_⟩
  · rintro ⟨l, hl, -⟩
    rw [hload] at hl
    cases hl
  · rintro ⟨l, hl, -⟩
    rw [hload] at hl
    cases hl
  · rw [hload] at hl
    cases hl

/-- A load, and its target alone LOADING. -/
theorem State.Loads.of_some (hload : t.loadUnit.current = some l)
    (hdesc : ∀ g, (t.desc g).state = .loading ↔ l.target = .telex g (t.desc g).channel)
    (hhome : ∀ g d, l.target = .telex g d → (t.desc g).channel = d)
    (harea : ∀ b, (t.area b).state = .loading ↔ l.target = .bulletin b) (hcredit : t.loadOk) : t.Loads := by
  refine ⟨fun d g => ⟨?_, ?_⟩, fun b => ⟨?_, fun hb => ⟨l, hload, (harea b).1 hb⟩⟩, hcredit⟩
  · rintro ⟨l', hl', ht⟩
    obtain rfl := Option.some.inj (hload.symm.trans hl')
    have hd := hhome g d ht
    exact ⟨hd, (hdesc g).2 (hd ▸ ht)⟩
  · rintro ⟨rfl, hg⟩
    exact ⟨l, hload, (hdesc g).1 hg⟩
  · rintro ⟨l', hl', ht⟩
    obtain rfl := Option.some.inj (hload.symm.trans hl')
    exact (harea b).2 ht

/-! ### An area, and a message of no list -/

/-- A change of an area that no item keys. -/
theorem State.Bulletins.setArea (hs : s.Bulletins it) (hair : (s.area a).onAir = 0) (hx : x.onAir = 0)
    (hchan : ∀ c, t.chan c = s.chan c) (harea : ∀ b, t.area b = if b = a then x else s.area b) : t.Bulletins it := by
  refine ⟨fun c => by rw [hchan]; exact hs.onAir c, fun c => by rw [hchan]; exact hs.asked c, fun c => by
    rw [hchan]; exact hs.ordered c, fun b => ?_, fun b => ?_⟩
  · rw [harea, ← hs.count]
    split
    · next hb => rw [hx, hb, hair]
    · rfl
  · rw [harea]
    split
    · exact fun hpos => absurd hpos (by omega)
    · exact hs.ready b

/-- R33. A LOADING area is not keyed. -/
theorem State.Bulletins.off_air (hs : s.Bulletins it) (ha : (s.area a).state ≠ .ready) : (s.area a).onAir = 0 := by
  by_contra hno
  exact ha (hs.ready a (Nat.pos_of_ne_zero hno))

/-- A message that was in no list and comes to none. -/
theorem State.Messages.unlisted (hs : s.Messages it) (hold : (s.desc h).state ∈ [.free, .loading])
    (hnew : d'.state ∈ [.free, .loading]) (hlawful : d'.lawful) (hunique : d'.state ≠ .free → s.unique h d')
    (hdesc : ∀ g, t.desc g = if g = h then d' else s.desc g) (hchan : ∀ c, t.chan c = s.chan c) : t.Messages it := by
  have hnowhere {d : Descriptor} (hd : d.state ∈ [.free, .loading]) (c : ChannelNo) (p : Place) : ¬d.isIn c p := by
    simp only [List.mem_cons, List.not_mem_nil, or_false] at hd
    cases p <;> rcases hd with hd | hd <;> simp [Descriptor.isIn, hd]
  have hidle {d : Descriptor} (hd : d.state ∈ [.free, .loading]) : d.state ≠ .active := fun he => by
    rw [he] at hd
    simp at hd
  have hno (c : ChannelNo) : (it c).message ≠ some h := fun hm => hidle hold ((hs.aired c h).1 hm).2
  refine hs.step hdesc (fun c p g => ?_) (fun c => by rw [hchan]; exact hs.orderly c) hlawful hunique (fun _ _ _ _ => rfl)
    (fun c => iff_of_false (hno c) fun he => hidle hnew he.2) (fun c hm => absurd hm (hno c)) fun c g => by
      rw [hchan]; exact hs.heads c g
  rw [hchan]
  split
  · next hg =>
    rw [hs.listed, hg]
    exact iff_of_false (hnowhere hold c p) (hnowhere hnew c p)
  · exact Iff.rfl

/-! ### The areas (R30, R31) -/

/-- R30, R31, R33. An area that is neither keyed nor loaded is written. -/
theorem State.Traffic.setArea (hs : s.Traffic it) (hbusy : s.areaBusy a = false) (hx : x.onAir = 0)
    (hstate : x.state ≠ .loading) : (s.setArea a x).Traffic it := by
  unfold State.areaBusy at hbusy
  simp only [Bool.or_eq_false_iff, decide_eq_false_iff_not, Nat.not_lt, Nat.le_zero] at hbusy
  obtain ⟨hair, hload⟩ := hbusy
  have hno (l : OpenLoad) (hl : s.loadUnit.current = some l) : l.target ≠ .bulletin a := by
    simpa [State.isLoading, hl] using hload
  refine ⟨hs.messages.congr (fun _ => rfl) fun _ => rfl, ⟨hs.loads.telex, fun b => ?_, fun l hl => ?_⟩,
    hs.bulletins.setArea hair hx (fun _ => rfl) fun b => State.area_setArea ..⟩
  · rw [State.area_setArea]
    split
    · next hb =>
      refine iff_of_false ?_ hstate
      rintro ⟨l, hl, ht⟩
      exact hno l hl (hb ▸ ht)
    · exact hs.loads.bulletin b
  · obtain ⟨hcredit, hcount, htelex, hbulletin⟩ := hs.loads.credit l hl
    refine ⟨hcredit, hcount, htelex, fun b hb => ?_⟩
    rw [State.area_setArea, if_neg fun he : b = a => hno l hl (he ▸ hb)]
    exact hbulletin b hb

/-! ### A load is opened (R47, R49) -/

/-- R47. The descriptor of a declaration is filled and its load opened. -/
theorem State.Traffic.declared (hs : s.Traffic it) (d : Declaration) (hload : s.loadUnit.current = none)
    (hdup : s.duplicate c d.number = false) (hfree : (s.desc h).state = .free) :
    ((s.modDesc h (d.descriptor c)).setLoad (some (d.load h c))).Traffic it := by
  have hdesc (g : Handle) : ((s.modDesc h (d.descriptor c)).setLoad (some (d.load h c))).desc g
      = if g = h then d.descriptor c (s.desc h) else s.desc g := State.desc_modDesc ..
  have hchain := (hs.messages.lawful h).2.1 hfree
  refine ⟨hs.messages.unlisted (by simp [hfree]) (by simp [Declaration.descriptor])
    ⟨fun _ => by simp [Declaration.descriptor], fun hno => absurd hno (by simp [Declaration.descriptor]), Nat.le_refl _,
      Nat.zero_le _, fun _ hno => absurd rfl hno⟩
    (fun _ g hne hg hc hn => ?_) hdesc fun _ => rfl, ?_, hs.bulletins.congr (fun _ => rfl) (fun _ => rfl) fun _ => rfl⟩
  · rw [Bool.eq_false_iff, Ne, State.duplicate_iff] at hdup
    exact hdup ⟨g, hg, hc, hn⟩
  · refine .of_some rfl (fun g => ?_) (fun g e ht => ?_) (fun b => ?_) fun l hl => ?_
    · rw [hdesc]
      split
      · next hg =>
        rw [hg]
        exact iff_of_true rfl rfl
      · next hg =>
        refine iff_of_false (hs.loads.not_loading hload g) fun ht => ?_
        exact hg (LoadTarget.telex.inj ht).1.symm
    · obtain ⟨hg, hd⟩ := LoadTarget.telex.inj ht
      rw [hdesc, if_pos hg.symm]
      exact hd
    · exact iff_of_false (hs.loads.no_area hload b) nofun
    · obtain rfl := Option.some.inj hl
      refine ⟨Nat.zero_le _, rfl, fun g e ht => ?_, nofun⟩
      rw [hdesc, if_pos (LoadTarget.telex.inj ht).1.symm]
      refine ⟨Nat.min_le_right .., nofun, ?_, rfl⟩
      show (s.desc h).chain.length = _
      rw [hchain]
      exact (by decide : ([] : List BlockNo).length = ceilDiv (0 + 0) 64)

theorem State.Traffic.applyDeclare (hs : s.Traffic it) (d : Declaration) (hload : s.loadUnit.current = none)
    (hdup : s.duplicate c d.number = false) (hfree : s.lowestFree = some h) : (s.applyDeclare d h c).Traffic it := by
  have hstate : (s.desc h).state = .free := by
    have hp := List.find?_some hfree
    simpa using hp
  exact (hs.declared d hload hdup hstate).judgeGrant (l := d.load h c) rfl rfl false

/-- R49. An area begins to be loaded. -/
theorem State.Traffic.applyOpen (hs : s.Traffic it) (n : Nat) (hload : s.loadUnit.current = none)
    (hair : (s.area a).onAir = 0) : (s.applyOpen a n).Traffic it := by
  have harea (b : AreaNo) : (s.applyOpen a n).area b = if b = a then { s.area a with state := .loading, length := 0 }
      else s.area b := State.area_setArea ..
  refine ⟨hs.messages.congr (fun _ => rfl) fun _ => rfl, ?_,
    hs.bulletins.setArea (x := { s.area a with state := .loading, length := 0 }) hair hair (fun _ => rfl) harea⟩
  refine .of_some rfl (fun g => iff_of_false (hs.loads.not_loading hload g) nofun) nofun (fun b => ?_) fun l hl => ?_
  · rw [harea]
    split
    · next hb => exact iff_of_true rfl (hb ▸ rfl)
    · next hb => exact iff_of_false (hs.loads.no_area hload b) fun ht => hb (LoadTarget.bulletin.inj ht).symm
  · obtain rfl := Option.some.inj hl
    refine ⟨by simp, rfl, nofun, fun b hb => ?_⟩
    rw [harea, if_pos (LoadTarget.bulletin.inj hb).symm]

/-! ### A TEXT is taken (R54) -/

theorem cleaned_isSome (b : Nat) : (cleaned b).isSome = !isStripped b := by
  unfold cleaned
  unfold isStripped
  split_ifs with hb hs
  · simpa using (by omega : b < 4 ∨ 6 < b)
  · simpa using (by omega : 4 ≤ b ∧ b ≤ 6)
  · simpa using (by omega : b < 4 ∨ 6 < b)

/-- R54 step 1. What is received is stored or stripped. -/
theorem stored_add_stripped (address : Nat → Nat) (cells : Memory) (n : Nat) (bs : List Byte) :
    (storeText address cells n bs).2 + bs.countP (fun b => isStripped b.toNat) = n + bs.length := by
  rw [storeText_length, Nat.add_assoc]
  refine congrArg (n + ·) ?_
  have hsplit := List.length_eq_countP_add_countP (fun b : Byte => isStripped b.toNat) (l := bs)
  rw [hsplit, Nat.add_comm]
  refine congrArg (_ + ·) (List.countP_congr fun b _ => ?_)
  rw [cleaned_isSome]
  simp

/-- R54. The text that the load takes keeps the laws. -/
theorem State.Traffic.takeText (hs : s.Traffic it) (hl : s.loadUnit.current = some l) {bs : List Byte}
    (hcredit : bs.length ≤ l.outstanding) : (s.takeText l bs).Traffic it := by
  obtain ⟨hwithin, hcount, htelex, hbulletin⟩ := hs.loads.credit l hl
  have hstored := stored_add_stripped (s.targetAddress l.target) s.store.cells l.stored bs
  have hgrows : l.stored ≤ (storeText (s.targetAddress l.target) s.store.cells l.stored bs).2 := by
    rw [storeText_length]
    exact Nat.le_add_right ..
  generalize hr : (storeText (s.targetAddress l.target) s.store.cells l.stored bs).2 = r at hstored hgrows
  have hafter : (l.after r bs).target = l.target ∧ (l.after r bs).received + (l.after r bs).outstanding
      = l.received + l.outstanding ∧ (l.after r bs).stored + (l.after r bs).stripped = (l.after r bs).received := by
    refine ⟨rfl, ?_, ?_⟩
    · show l.received + bs.length + (l.outstanding - bs.length) = _
      omega
    · show r + (l.stripped + _) = l.received + bs.length
      omega
  obtain ⟨htarget, hsum, htaken⟩ := hafter
  cases ht : l.target with
  | telex h c =>
    obtain ⟨hclamped, hwaiting, hchain, hlength⟩ := htelex h c ht
    obtain ⟨hc, hloading⟩ := (hs.loads.telex c h).1 ⟨l, hl, ht⟩
    obtain ⟨hrelay, -, hresume, -, -⟩ := hs.messages.lawful h
    obtain ⟨u, hu⟩ : ∃ u, u = s.takeText l bs := ⟨_, rfl⟩
    have hdesc (g : Handle) : u.desc g = if g = h then { s.desc h with
        length := r
        stripped := l.stripped + (bs.filter fun b => decide (4 ≤ b.toNat ∧ b.toNat ≤ 6)).length
        substituted := l.substituted + (bs.filter fun b => decide (64 ≤ b.toNat)).length } else s.desc g := by
      rw [hu, State.takeText_telex ht, ← hr]
      exact State.desc_setDesc ..
    have hload : u.loadUnit.current = some (l.after r bs) := by
      rw [hu, State.takeText_telex ht, hr]
      rfl
    have hrest : u.channels = s.channels ∧ u.store.areas = s.store.areas := by
      rw [hu, State.takeText_telex ht]
      exact ⟨rfl, rfl⟩
    rw [← hu]
    have hchan (d : ChannelNo) : u.chan d = s.chan d := congrArg (vget · d) hrest.1
    have harea (b : AreaNo) : u.area b = s.area b := congrArg (vget · b) hrest.2
    refine ⟨hs.messages.unlisted (d' := { s.desc h with length := r, stripped := _, substituted := _ }) (by simp [hloading])
      (by simp [hloading])
      ⟨hrelay, fun hno => absurd (hloading.symm.trans hno) nofun, ?_, ?_, fun _ hno => absurd hloading hno⟩
      (fun _ => hs.messages.unique_of (by rw [hloading]; decide) rfl rfl) hdesc hchan, ?_,
      hs.bulletins.congr (fun d => by rw [hchan]) harea fun _ => rfl⟩
    · exact hresume.trans (hlength ▸ hgrows)
    · show r ≤ 8192
      have hle : (l.after r bs).received + (l.after r bs).outstanding ≤ 8192 := hsum ▸ hwithin.trans hclamped
      show r ≤ 8192
      have hr' : (l.after r bs).stored = r := rfl
      omega
    · refine .of_some hload (fun g => ?_) (fun g e hg => ?_) (fun b => ?_) fun l' hl' => ?_
      · rw [hdesc, htarget]
        split
        · next hg =>
          rw [hg]
          exact hs.loads.loading_iff hl
        · exact hs.loads.loading_iff hl
      · have hg' := hg
        rw [htarget, ht] at hg'
        obtain ⟨rfl, rfl⟩ := LoadTarget.telex.inj hg'
        rw [hdesc, if_pos rfl]
        exact hc
      · rw [harea, htarget]
        exact hs.loads.area_iff hl
      · obtain rfl := Option.some.inj (hload.symm.trans hl')
        refine ⟨hsum ▸ hwithin, htaken, fun g e hg => ?_, fun b hb => absurd (ht.symm.trans hb) nofun⟩
        obtain ⟨rfl, rfl⟩ := LoadTarget.telex.inj (ht.symm.trans hg)
        rw [hdesc, if_pos rfl, hsum]
        refine ⟨hclamped, fun hw => ?_, hchain, rfl⟩
        show l.outstanding - bs.length = 0
        rw [hwaiting hw, Nat.zero_sub]
  | bulletin a =>
    have hstate : (s.area a).state = .loading := (hs.loads.area_iff hl).2 ht
    obtain ⟨u, hu⟩ : ∃ u, u = s.takeText l bs := ⟨_, rfl⟩
    have harea (b : AreaNo) : u.area b = if b = a then { s.area a with length := r } else s.area b := by
      rw [hu, State.takeText_bulletin ht, ← hr]
      exact State.area_setArea ..
    have hload : u.loadUnit.current = some (l.after r bs) := by
      rw [hu, State.takeText_bulletin ht, hr]
      rfl
    have hrest : u.channels = s.channels ∧ u.descs = s.descs := by
      rw [hu, State.takeText_bulletin ht]
      exact ⟨rfl, rfl⟩
    rw [← hu]
    have hchan (d : ChannelNo) : u.chan d = s.chan d := congrArg (vget · d) hrest.1
    have hdesc (g : Handle) : u.desc g = s.desc g := congrArg (vget · g) hrest.2
    have hair := hs.bulletins.off_air (a := a) (by rw [hstate]; decide)
    refine ⟨hs.messages.congr (fun g => by rw [hdesc]) fun d => by rw [hchan], ?_, hs.bulletins.setArea
      (x := { s.area a with length := r }) hair hair hchan harea⟩
    refine .of_some hload (fun g => ?_) (fun g e hg => absurd (ht.symm.trans hg) nofun) (fun b => ?_) fun l' hl' => ?_
    · rw [hdesc, htarget]
      exact hs.loads.loading_iff hl
    · rw [harea, htarget]
      split
      · next hb =>
        rw [hb]
        exact hs.loads.area_iff hl
      · exact hs.loads.area_iff hl
    · obtain rfl := Option.some.inj (hload.symm.trans hl')
      refine ⟨hsum ▸ hwithin, htaken, fun g e hg => absurd (ht.symm.trans hg) nofun, fun b hb => ?_⟩
      obtain rfl := LoadTarget.bulletin.inj (ht.symm.trans hb)
      rw [harea, if_pos rfl]
      rfl

end

end Sys2Proof.Machine
end

section
/-! The end of a load keeps the laws of the traffic (sections 4.6 and 4.7). -/

namespace Sys2Proof.Machine

section
variable {s t : State} {it : ChannelNo → Item} {h g : Handle} {c : ChannelNo} {a : AreaNo} {l m : OpenLoad} {d' : Descriptor}
  {x : Area}

theorem State.Messages.loading_unlisted (hs : s.Messages it) (hloading : (s.desc h).state = .loading) (c : ChannelNo)
    (p : Place) : ¬(s.chan c).has h p := by
  rw [hs.listed]
  cases p <;> simp [Descriptor.isIn, hloading]

/-- R55 steps 1 and 2. The message of the load, its trailing blocks given back, at the tail of its queue. -/
def State.loaded (s : State) (h : Handle) : State := ((s.trimChain h).toTail h).setLoad none

theorem State.desc_loaded (g : Handle) : (s.loaded h).desc g = if g = h then { s.desc h with
    state := .ready
    resume := 0
    chain := (s.desc h).chain.take (ceilDiv (s.desc h).length 64) } else s.desc g := by
  have htrim (g : Handle) : (s.trimChain h).desc g = if g = h then { s.desc h with
      chain := (s.desc h).chain.take (ceilDiv (s.desc h).length 64) } else s.desc g := State.desc_modDesc ..
  show ((s.trimChain h).modDesc h fun d => { d with state := .ready, resume := 0 }).desc g = _
  rw [State.desc_modDesc, htrim, htrim, if_pos rfl]
  split
  · rfl
  · rfl

theorem State.chan_loaded (d : ChannelNo) : (s.loaded h).chan d = if d = (s.desc h).channel then
    (s.chan d).setQueue (s.desc h).cls ((s.chan d).queue (s.desc h).cls ++ [h]) else s.chan d := by
  have htrim : (s.trimChain h).desc h = { s.desc h with
      chain := (s.desc h).chain.take (ceilDiv (s.desc h).length 64) } := (State.desc_modDesc ..).trans (if_pos rfl)
  show (((s.trimChain h).modDesc h fun d => { d with state := .ready, resume := 0 }).modChan ((s.trimChain h).desc h).channel
    fun ch => ch.setQueue ((s.trimChain h).desc h).cls (ch.queue ((s.trimChain h).desc h).cls ++ [h])).chan d = _
  rw [State.chan_modChan, htrim]
  split
  · next hd => rw [hd]; rfl
  · rfl

theorem State.Traffic.loaded (hs : s.Traffic it) (hl : s.loadUnit.current = some l) (ht : l.target = .telex h c)
    (htext : 0 < l.stored) : (s.loaded h).Traffic it := by
  obtain ⟨-, -, htelex, -⟩ := hs.loads.credit l hl
  obtain ⟨-, -, -, hlength⟩ := htelex h c ht
  have hloading : (s.desc h).state = .loading := ((hs.loads.telex c h).1 ⟨l, hl, ht⟩).2
  obtain ⟨hrelay, -, hresume, hlen, -⟩ := hs.messages.lawful h
  have hno := hs.messages.loading_unlisted hloading
  have hidle : (s.desc h).state ≠ .active := by rw [hloading]; decide
  have hcls (c : ChannelNo) : ((s.chan c).setQueue (s.desc h).cls ((s.chan c).queue (s.desc h).cls ++ [h])).requests
      = (s.chan c).requests := by cases (s.desc h).cls <;> rfl
  refine ⟨?_, .of_none rfl (fun g => ?_) fun b => ?_, hs.bulletins.congr (fun d => ?_) (fun _ => rfl) fun _ => rfl⟩
  · rw [← hs.messages.left_eq hidle]
    refine hs.messages.moved (N := (· = .queue (s.desc h).cls)) (fun g => State.desc_loaded g) (fun d => ?_)
      (x := (s.chan (s.desc h).channel).setQueue (s.desc h).cls ((s.chan (s.desc h).channel).queue (s.desc h).cls ++ [h]))
      (fun g p => ?_) (Channel.orderly_setQueue (hs.messages.orderly _) ?_) (fun d p => ?_) nofun
      ⟨fun _ => by simp, nofun, Nat.zero_le _, hlen, fun _ _ => hlength ▸ htext⟩
      (fun _ => hs.messages.unique_of (by rw [hloading]; decide) rfl rfl) fun g hne hit => ?_
    · rw [State.chan_loaded]
      split
      · next hd => rw [hd]
      · rfl
    · rw [Channel.has_detach, Channel.has_setQueue_of_mem (h := h) (by simp [or_comm])]
      by_cases hg : g = h
      · simp [hg, hno]
      · simp [hg]
    · have hmem : h ∉ (s.chan (s.desc h).channel).queue (s.desc h).cls := hno _ (.queue _)
      refine List.nodup_append.2 ⟨(hs.messages.orderly _).1 _, List.nodup_singleton h, fun x hx y hy he => hmem ?_⟩
      rwa [he, List.mem_singleton.1 hy] at hx
    · cases p <;> simp [Descriptor.isIn, eq_comm]
    · have hhead := hs.messages.heads _ g hit
      cases hk : (s.desc h).cls with
      | relay =>
        show ((s.chan (s.desc h).channel).relayQ ++ [h]).head? = some g
        rw [List.head?_append, hhead]
        rfl
      | _ => exact hhead
  · rw [State.desc_loaded]
    split
    · nofun
    · next hg =>
      rw [Ne, hs.loads.loading_iff hl, ht]
      exact fun he => hg (LoadTarget.telex.inj he).1.symm
  · rw [Ne, show (s.loaded h).area b = s.area b from rfl, hs.loads.area_iff hl, ht]
    nofun
  · rw [State.chan_loaded]
    split
    · exact hcls d
    · rfl

theorem State.SameAir.loaded : s.SameAir (s.loaded h) := fun d => by
  rw [State.chan_loaded]
  split
  · cases (s.desc h).cls <;> exact ⟨rfl, rfl⟩
  · exact ⟨rfl, rfl⟩

/-- R56, R59. The load ends without its message. -/
theorem State.Traffic.unloaded (hs : s.Traffic it) (hl : s.loadUnit.current = some l) (ht : l.target = .telex h c)
    (hdesc : t.descs = (s.freeMessage h).descs) (hchannels : t.channels = (s.freeMessage h).channels)
    (hareas : t.store.areas = s.store.areas) (hload : t.loadUnit.current = none) : t.Traffic it := by
  have hloading : (s.desc h).state = .loading := ((hs.loads.telex c h).1 ⟨l, hl, ht⟩).2
  have hmessages := hs.messages.freeMessage (h := h)
  rw [hs.messages.left_eq (by rw [hloading]; decide)] at hmessages
  have hd (g : Handle) : t.desc g = (s.freeMessage h).desc g := congrArg (vget · g) hdesc
  have hc (d : ChannelNo) : t.chan d = (s.freeMessage h).chan d := congrArg (vget · d) hchannels
  have ha (b : AreaNo) : t.area b = s.area b := congrArg (vget · b) hareas
  refine ⟨hmessages.congr (fun g => by rw [hd]) fun d => by rw [hc], .of_none hload (fun g => ?_) fun b => ?_,
    hs.bulletins.congr (fun d => ?_) ha fun _ => rfl⟩
  · rw [hd, State.desc_freeMessage]
    split
    · nofun
    · next hg =>
      rw [Ne, hs.loads.loading_iff hl, ht]
      exact fun he => hg (LoadTarget.telex.inj he).1.symm
  · rw [Ne, ha, hs.loads.area_iff hl, ht]
    nofun
  · rw [hc]
    exact (congrArg Channel.requests State.rest_freeMessage :)

/-- R57, R59. The load of an area ends. -/
theorem State.Traffic.areaLoaded (hs : s.Traffic it) (hl : s.loadUnit.current = some l) (ht : l.target = .bulletin a)
    (hx : x.onAir = (s.area a).onAir) (hstate : x.state ≠ .loading) : ((s.setArea a x).setLoad none).Traffic it := by
  have hloading : (s.area a).state = .loading := (hs.loads.area_iff hl).2 ht
  have hair := hs.bulletins.off_air (a := a) (by rw [hloading]; decide)
  refine ⟨hs.messages.congr (fun _ => rfl) fun _ => rfl, .of_none rfl (fun g => ?_) fun b => ?_,
    hs.bulletins.setArea hair (hx.trans hair) (fun _ => rfl) fun b => State.area_setArea ..⟩
  · rw [Ne, show ((s.setArea a x).setLoad none).desc g = s.desc g from rfl, hs.loads.loading_iff hl, ht]
    nofun
  · rw [Ne, show ((s.setArea a x).setLoad none).area b = if b = a then x else s.area b from State.area_setArea ..]
    split
    · exact hstate
    · next hb =>
      rw [hs.loads.area_iff hl, ht]
      exact fun he => hb (LoadTarget.bulletin.inj he).symm

/-! ### The steps of a load -/

/-- R75, R81. An expired message is freed. -/
theorem State.trafficOk.expire (hs : s.trafficOk) (he : s.expired h = true) : (s.expire h).trafficOk := by
  obtain ⟨-, -, hready, -⟩ := State.expired_iff.1 he
  refine hs.keep (fun ht => ?_) (.freeWith _ _)
  have hfreed := ht.freeWith (h := h) (by rw [hready]; decide) .expired [.time ((s.desc h).expiry.getD 0)]
  rwa [ht.messages.left_eq (by rw [hready]; decide)] at hfreed

theorem State.loadNotice_eq (outcome number : Nat) : ∃ ch fs, s.loadNotice l outcome number = s.emit .load ch fs := by
  unfold State.loadNotice
  dsimp only
  split <;> exact ⟨_, _, rfl⟩

theorem State.SameAir.loadNotice (outcome number : Nat) : s.SameAir (s.loadNotice l outcome number) := by
  obtain ⟨ch, fs, hn⟩ := s.loadNotice_eq (l := l) outcome number
  rw [hn]
  exact .of_channels rfl

theorem State.trafficOk.loadNotice (hs : s.trafficOk) (outcome number : Nat) : (s.loadNotice l outcome number).trafficOk := by
  obtain ⟨ch, fs, hn⟩ := s.loadNotice_eq (l := l) outcome number
  rw [hn]
  exact hs.emit _ _ _

theorem State.trafficOk.completeTelex (hs : s.trafficOk) (hl : s.loadUnit.current = some l) (ht : l.target = .telex h c)
    (htext : 0 < l.stored) : s.goes (s.completeTelex l h c) := by
  have hloaded : (s.loaded h).trafficOk := hs.keep (fun hold => hold.loaded hl ht htext) .loaded
  obtain ⟨u, hu⟩ : ∃ u, u = (s.loaded h).loadNotice l 0 (s.desc h).number := ⟨_, rfl⟩
  have hnoticed : u.trafficOk := hu ▸ hloaded.loadNotice ..
  have hair : s.leadsTo u := hu ▸ (State.SameAir.loaded.trans (.loadNotice _ _)).leadsTo
  obtain ⟨v, hv⟩ : ∃ v, v = if (s.desc h).cls = .relay then u.relayReady c else u := ⟨_, rfl⟩
  have hcut : v.trafficOk ∧ s.leadsTo v := by
    rw [hv]
    split
    · exact ⟨hnoticed.relayReady, hair.trans State.leadsTo_relayReady⟩
    · exact ⟨hnoticed, hair⟩
  have hheq : s.completeTelex l h c = (if v.expired h then v.expire h else v).judgeKeyUp [c] := by rw [hv, hu]; rfl
  rw [hheq]
  refine State.goes.judgeKeyUp ?_ _
  split
  · next he => exact ⟨hcut.1.expire he, (hcut.2.trans (State.SameAir.freeWith _ _).leadsTo).begun⟩
  · exact ⟨hcut.1, hcut.2.begun⟩

theorem State.trafficOk.completeLoad (hs : s.trafficOk) (hl : s.loadUnit.current = some l) : s.goes (s.completeLoad l) := by
  cases ht : l.target with
  | telex h c =>
    by_cases htext : 0 < l.stored
    · rw [State.completeLoad_text ht htext]
      exact hs.completeTelex hl ht htext
    · rw [State.completeLoad_empty ht (by omega)]
      exact hs.keep_goes (fun hold => hold.unloaded hl ht rfl rfl rfl rfl)
        (State.SameAir.trans (t := s.freeMessage h) .freeMessage (.of_channels rfl))
  | bulletin a =>
    rw [State.completeLoad_bulletin ht]
    have hdone := hs.keep_goes (fun hold => hold.areaLoaded hl ht
      (x := { s.area a with state := if 0 < l.stored then .ready else .empty }) rfl (by dsimp only; split <;> decide))
      (.of_channels rfl)
    exact hdone.emit _ _ _

/-- R59. A load is abandoned. -/
theorem State.trafficOk.abandon (hs : s.trafficOk) (hl : s.loadUnit.current = some l) : s.goes (s.abandon l) := by
  unfold State.abandon
  split
  · next h c ht =>
    have hnone : ((s.setLoad none).freeMessage h).loadUnit.current = none := rfl
    rw [State.freeSilent, State.rejudgeGrant_of_none hnone]
    exact hs.keep_goes (fun hold => hold.unloaded hl ht rfl rfl rfl rfl)
      (State.SameAir.trans (t := s.freeMessage h) .freeMessage (.of_channels rfl))
  · next a ht =>
    exact hs.keep_goes (fun hold => hold.areaLoaded hl ht (x := { s.area a with state := .empty, length := 0 }) rfl nofun)
      (.of_channels rfl)

theorem State.takeText_load (s : State) (l : OpenLoad) (bs : List Byte) :
    ∃ r, (s.takeText l bs).loadUnit.current = some (l.after r bs) ∧ (s.takeText l bs).channels = s.channels := by
  refine ⟨(storeText (s.targetAddress l.target) s.store.cells l.stored bs).2, ?_⟩
  cases ht : l.target with
  | telex h c =>
    rw [State.takeText_telex ht, ht]
    exact ⟨rfl, rfl⟩
  | bulletin a =>
    rw [State.takeText_bulletin ht, ht]
    exact ⟨rfl, rfl⟩

theorem State.channels_judgeGrant (notify : Bool) : (s.judgeGrant notify).channels = s.channels := by
  unfold State.judgeGrant
  split
  · rfl
  · split
    · rfl
    · dsimp only
      split_ifs <;> rfl

/-- R54. A TEXT keeps the laws. -/
theorem State.trafficOk.text (hs : s.trafficOk) (hl : s.loadUnit.current = some l) {bs : List Byte}
    (hcredit : bs.length ≤ l.outstanding) : s.goes (s.takeText l bs).afterText := by
  obtain ⟨r, hload, hchannels⟩ := s.takeText_load l bs
  have htaken : (s.takeText l bs).trafficOk := hs.keep (fun hold => hold.takeText hl hcredit) (.of_channels hchannels)
  have hair : s.SameAir (s.takeText l bs) := .of_channels hchannels
  generalize s.takeText l bs = u at hload htaken hair
  by_cases hall : (l.after r bs).received = (l.after r bs).clamped
  · rw [State.afterText_of_all hload hall]
    exact hair.goes (htaken.completeLoad hload)
  · rw [State.afterText_of_more hload hall]
    split
    · next hspent =>
      exact hair.goes (htaken.keep_goes (fun hold => hold.judgeGrant hload hspent true) (.of_channels (State.channels_judgeGrant true)))
    · exact htaken.goes hair

end

end Sys2Proof.Machine
end

section
/-! Every accepted command and every event keeps the laws of the traffic. -/

namespace Sys2Proof.Machine

section
variable {s t : State} {it : ChannelNo → Item} {h g : Handle} {c : ChannelNo} {q : Request}

/-- A state with the same traffic and the same items. -/
theorem State.trafficOk.same (hs : s.trafficOk) (hsame : s.SameTraffic t) (hair : s.SameAir t) : t.trafficOk :=
  hs.keep (fun ht => ht.congr hsame) hair

theorem State.trafficOk.of_parts (hs : s.trafficOk) (hdescs : t.descs = s.descs) (hchannels : t.channels = s.channels)
    (hareas : t.store.areas = s.store.areas) (hload : t.loadUnit.current = s.loadUnit.current) : t.trafficOk :=
  hs.same (.of_parts hdescs hchannels hareas hload) (.of_channels hchannels)

/-- A change of a channel apart from its traffic, its item and its state. -/
theorem State.trafficOk.modChan {f : Channel → Channel} (hs : s.trafficOk)
    (hf : (f (s.chan c)).traffic = (s.chan c).traffic := by exact rfl)
    (hair : (f (s.chan c)).item = (s.chan c).item ∧ (f (s.chan c)).state = (s.chan c).state := by exact ⟨rfl, rfl⟩) :
    (s.modChan c f).trafficOk := hs.same (.modChan hf) (.modChan hair)

theorem State.trafficOk.rejudgeGrant (hs : s.trafficOk) : s.rejudgeGrant.trafficOk :=
  hs.keep (fun ht => ht.rejudgeGrant) (.of_channels State.channels_rejudgeGrant)

/-! ### Messages -/

/-- R72, R76. A message that is not on the air is freed. -/
theorem State.trafficOk.freeWith (hs : s.trafficOk) (hidle : (s.desc h).state ∉ [.active, .loading]) (e : Event)
    (fs : List Field) : (s.freeWith h e fs).trafficOk := by
  simp only [List.mem_cons, List.not_mem_nil, or_false, not_or] at hidle
  refine hs.keep (fun ht => ?_) (.freeWith _ _)
  have hfreed := ht.freeWith hidle.2 e fs
  rwa [ht.messages.left_eq hidle.1] at hfreed

theorem State.SameAir.freeSilent : s.SameAir (s.freeSilent h) :=
  State.SameAir.freeMessage.trans (.of_channels State.channels_rejudgeGrant)

theorem State.trafficOk.freeSilent (hs : s.trafficOk) (hidle : (s.desc h).state ∉ [.active, .loading]) :
    (s.freeSilent h).trafficOk := by
  simp only [List.mem_cons, List.not_mem_nil, or_false, not_or] at hidle
  refine hs.keep (fun ht => ?_) .freeSilent
  have hfreed := ht.freeSilent hidle.2
  rwa [ht.messages.left_eq hidle.1] at hfreed

/-- R73, R78. A sent message returns to the head of its queue. -/
theorem State.trafficOk.requeueSent (hs : s.trafficOk) (hsent : (s.desc h).state ∈ [.awaitAck, .unconfirmed]) :
    (s.requeueReady h).trafficOk := by
  have hcls : (s.desc h).cls ≠ .relay := fun he => by
    have hno := (hs.traffic.messages.lawful h).1 he
    simp only [List.mem_cons, List.not_mem_nil, or_false] at hsent hno
    exact hno (.inr (.inr hsent))
  have hstate : (s.desc h).state ∉ [.free, .loading] ∧ (s.desc h).state ≠ .active := by
    simp only [List.mem_cons, List.not_mem_nil, or_false] at hsent
    rcases hsent with he | he <;> simp [he]
  refine hs.keep (fun ht => ?_) (.requeueReady _ _)
  have hback := ht.requeueReady hstate.1 fun he => absurd he hcls
  rwa [ht.messages.left_eq hstate.2] at hback

/-- R76. A cancel is requested. -/
theorem State.trafficOk.cancelLater (hs : s.trafficOk) : s.goes (s.cancelLater h) := by
  unfold State.cancelLater
  split
  · exact hs.goes (.refl s)
  · exact ⟨State.trafficOk.cancelActive (hs.same (.setDesc rfl) (.of_channels rfl)), State.leadsTo_cancelActive.begun⟩

/-! ### Occurrences and deadlines -/

theorem State.trafficOk.takeOccurrence (hs : s.trafficOk) (i : SlotNo) : (s.takeOccurrence i).trafficOk :=
  hs.keep (fun ht => ht.takeOccurrence i) (.takeOccurrence i)

theorem State.trafficOk.takeOccurrences (hs : s.trafficOk) (is : List SlotNo) : (s.takeOccurrences is).trafficOk :=
  List.foldlRecOn (motive := fun t : State => t.trafficOk) _ State.takeOccurrence (hs.of_parts (t := s.drawn) rfl rfl rfl rfl)
    fun _ ht i _ => ht.takeOccurrence i

theorem State.trafficOk.endBroken (hs : s.trafficOk) (hq : q ∈ (s.chan c).requests) (hwaits : q.state = .waiting)
    (quiet : Bool) : (s.endBroken c q quiet).trafficOk :=
  hs.keep (fun ht => ht.endRequest hq hwaits _ _ _) (.endRequest _ _ _)

/-- R93, R102. The requests whose deadline is passed end. -/
theorem State.trafficOk.endPassed (hs : s.trafficOk) (c : ChannelNo) : (s.endPassed c).trafficOk := by
  obtain ⟨ns, st, heq⟩ := s.endPassed_eq c
  rw [heq]
  refine hs.keep (fun ht => ?_) (State.SameAir.trans (t := s.setChan c { s.chan c with requests := s.unpassed c, stats := st })
    .setChan (.of_channels rfl))
  refine ht.keep (c := c) (f := fun p => ((s.chan c).requests.filter (s.deadlinePassed c)).all fun q =>
    !p.isFor q.slot q.due) (fun _ => rfl) (fun d => ?_) (fun d => ?_) rfl (fun _ => rfl)
    fun p hp hair => ?_
  · rw [State.chan_setChan]
    split
    · next hd => rw [hd]; rfl
    · rfl
  · rw [State.chan_setChan]
    split <;> rfl
  · rw [List.all_eq_true]
    intro q hq
    obtain ⟨hmem, hpassed⟩ := List.mem_filter.1 hq
    rw [Bool.not_eq_true', Bool.eq_false_iff]
    intro hfor
    obtain ⟨-, hwaits, -⟩ := State.deadlinePassed_iff.1 hpassed
    rw [← Request.eq_of_ordered (ht.bulletins.ordered c).2 hp hmem hfor, hair] at hwaits
    cases hwaits

/-! ### The clock is set (R10) -/

theorem State.state_expire (g : Handle) : ((s.expire h).desc g).state = if g = h then .free else (s.desc g).state := by
  obtain ⟨bs, hd⟩ := State.desc_rejudgeGrant (s := (s.freeMessage h).emit .expired (some (s.desc h).channel)
    (s.messageFields h ++ [.time ((s.desc h).expiry.getD 0)])) g
  refine (congrArg Descriptor.state hd).trans ?_
  show ((s.freeMessage h).desc g).state = _
  rw [State.desc_freeMessage]
  split <;> rfl

/-- Every message that has expired is READY, or free by now. -/
def State.expiring (s t : State) : Prop := ∀ g, s.expired g = true → (t.desc g).state ∈ [.ready, .free]

theorem State.trafficOk.expireAll (hs : s.trafficOk) : s.expireAll.trafficOk := by
  have hinit : s.drawn.trafficOk ∧ s.expiring s.drawn := by
    refine ⟨hs.of_parts rfl rfl rfl rfl, fun g hg => ?_⟩
    obtain ⟨-, -, hready, -⟩ := State.expired_iff.1 hg
    exact List.mem_cons.2 (.inl hready)
  refine (List.foldlRecOn (motive := fun t : State => t.trafficOk ∧ s.expiring t) _ State.expire hinit
    fun t ht h hh => ?_).1
  obtain ⟨hok, hstates⟩ := ht
  have hstate := hstates h (List.mem_filter.1 (mem_freeOrder.1 hh)).2
  refine ⟨hok.freeWith ?_ _ _, fun g hg => ?_⟩
  · simp only [List.mem_cons, List.not_mem_nil, or_false] at hstate
    rcases hstate with he | he <;> simp [he]
  · rw [State.state_expire]
    split
    · simp
    · exact hstates g hg

theorem State.SameAir.endPassed (c : ChannelNo) : s.SameAir (s.endPassed c) := by
  obtain ⟨ns, st, heq⟩ := s.endPassed_eq c
  rw [heq]
  exact State.SameAir.trans (t := s.setChan c { s.chan c with requests := s.unpassed c, stats := st }) .setChan
    (.of_channels rfl)

theorem State.SameAir.expireAll : s.SameAir s.expireAll :=
  List.foldlRecOn (motive := fun t : State => s.SameAir t) _ State.expire (.of_channels (t := s.drawn) rfl)
    fun _ ht _ _ => ht.trans (.freeWith _ _)

theorem State.SameAir.takeOccurrences (is : List SlotNo) : s.SameAir (s.takeOccurrences is) :=
  List.foldlRecOn (motive := fun t : State => s.SameAir t) _ State.takeOccurrence (.of_channels (t := s.drawn) rfl)
    fun _ ht i _ => ht.trans (.takeOccurrence i)

theorem State.trafficOk.applyClock (hs : s.trafficOk) (day ms : Nat) : s.goes (s.applyClock day ms) := by
  have hset : (s.clockSet day ms).trafficOk ∧ s.SameAir (s.clockSet day ms) := by
    unfold State.clockSet State.stopAtEnd
    split
    · exact ⟨hs.of_parts rfl rfl rfl rfl, .of_channels rfl⟩
    · exact ⟨hs.of_parts rfl rfl rfl rfl, .of_channels rfl⟩
  obtain ⟨hended, hair⟩ : (allChannels.foldl State.endPassed (s.clockSet day ms).expireAll).trafficOk
      ∧ s.SameAir (allChannels.foldl State.endPassed (s.clockSet day ms).expireAll) :=
    List.foldlRecOn (motive := fun t : State => t.trafficOk ∧ s.SameAir t) _ State.endPassed
      ⟨hset.1.expireAll, hset.2.trans .expireAll⟩ fun _ ht c _ => ⟨ht.1.endPassed c, ht.2.trans (.endPassed c)⟩
  rw [State.applyClock_eq]
  exact ((hended.takeOccurrences _).goes (hair.trans (.takeOccurrences _))).judgeKeyUp _

/-! ### Received calls (sections 9.2 and 9.3) -/

theorem State.trafficOk.modRx (hs : s.trafficOk) (f : RxCounts → RxCounts) : (s.modRx c f).trafficOk :=
  hs.modChan (f := fun ch => { ch with rx := f ch.rx })

theorem State.trafficOk.dropHold (hs : s.trafficOk) (ship : Nat) : (s.dropHold c ship).trafficOk :=
  hs.modChan (f := fun ch => { ch with holds := ch.holds.filter (·.ship ≠ ship) })

theorem State.SameAir.modRx (f : RxCounts → RxCounts) : s.SameAir (s.modRx c f) := .modChan (f := fun ch => { ch with rx := f ch.rx })

theorem State.SameAir.emit (e : Event) (ch : Option ChannelNo) (fs : List Field) : s.SameAir (s.emit e ch fs) := .of_channels rfl

theorem State.SameAir.dropHold (ship : Nat) : s.SameAir (s.dropHold c ship) :=
  .modChan (f := fun ch => { ch with holds := ch.holds.filter (·.ship ≠ ship) })

theorem State.goes.modRx (hs : s.goes t) (f : RxCounts → RxCounts) : s.goes (t.modRx c f) := ⟨hs.1.modRx f, hs.2.modRx f⟩

theorem State.trafficOk.holdCall (hs : s.trafficOk) (ship n : Nat) : s.goes (s.holdCall c ship n) := by
  have hcounted : (s.countHold c).trafficOk := hs.modRx _
  have hair : s.SameAir (s.countHold c) := .modRx _
  unfold State.holdCall
  dsimp only
  split
  · split
    · exact State.goes.judgeKeyUp (((hcounted.dropHold ship).goes (hair.trans (.dropHold ship))).emit _ _ _) _
    · refine State.goes.emit (State.trafficOk.goes ?_ ?_) _ _ _
      · exact hcounted.modChan (f := fun ch => { ch with
          holds := ch.holds.map fun r => if r.ship = ship then r.reload n s.clock.elapsed else r })
      · exact hair.trans .modChan
  · split_ifs
    · exact hcounted.goes hair
    · refine State.goes.judgeKeyUp (State.goes.emit (State.trafficOk.goes ?_ ?_) _ _ _) _
      · exact hcounted.modChan (f := fun ch => { ch with holds := ch.holds ++ [s.newHold c ship n] })
      · exact hair.trans .modChan
    · exact ((hs.goes (.refl s)).modRx _).emit _ _ _

theorem State.trafficOk.repeatMessage (hs : s.trafficOk) (hsent : (s.desc h).state ∈ [.awaitAck, .unconfirmed]) :
    s.goes (s.repeatMessage c h) := by
  have hback := hs.requeueSent hsent
  have hair : s.SameAir (s.requeueReady h) := .requeueReady _ _
  unfold State.repeatMessage
  dsimp only
  split
  · refine hair.goes ?_
    generalize s.requeueReady h = u at hback
    have hcounted : (u.modDesc h fun d => { d with repeats := d.repeats + 1 }).trafficOk :=
      hback.same (.setDesc rfl) (.of_channels rfl)
    have hgoes : u.goes (u.modDesc h fun d => { d with repeats := d.repeats + 1 }) := hcounted.goes (.of_channels rfl)
    exact (hgoes.emit _ _ _).judgeKeyUp _
  · exact (hs.goes (.refl s)).emit _ _ _

theorem State.trafficOk.deliverCall (hs : s.trafficOk) (f : CallForm) (ship n : Nat) : s.goes (s.deliverCall c f ship n) := by
  have hunmatched : s.goes (s.unmatchedCall c f ship n) := ((hs.goes (.refl s)).modRx _).emit _ _ _
  unfold State.deliverCall
  split
  · exact hunmatched
  · split
    · exact hunmatched
    · next h hm =>
      obtain ⟨-, hstate, -⟩ := State.matchSent_some hm
      have hsent : (s.desc h).state ∈ [.awaitAck, .unconfirmed] := by simpa using hstate
      split
      · refine State.goes.modRx ((hs.freeWith ?_ _ _).goes (.freeWith _ _)) _
        rcases hstate with he | he <;> simp [he]
      · exact (hs.repeatMessage hsent).modRx _

theorem State.trafficOk.recognise (hs : s.trafficOk) (p : Parser) : s.goes (s.recognise c p) := by
  unfold State.recognise
  split
  · exact hs.holdCall _ _
  · exact hs.deliverCall _ _ _
  · unfold State.capture
    split
    · exact (hs.goes (.refl s)).modRx _
    · exact State.goes.emit (State.trafficOk.goes (hs.modChan) (.modChan)) _ _ _

theorem State.trafficOk.takeSymbol (hs : s.trafficOk) (y : Nat) (mutilated : Bool) : s.goes (s.takeSymbol c y mutilated) := by
  have hcounted (f : RxCounts → RxCounts) (p : Parser) : ((s.modRx c f).modParser c fun _ => p).trafficOk
      ∧ s.SameAir ((s.modRx c f).modParser c fun _ => p) :=
    ⟨(hs.modRx f).modChan (f := fun ch => { ch with parser := p }),
      (State.SameAir.modRx f).trans (.modChan (f := fun ch => { ch with parser := p }))⟩
  have hgoes (f : RxCounts → RxCounts) (p : Parser) := (hcounted f p).1.goes (hcounted f p).2
  unfold State.takeSymbol
  dsimp only
  split
  · exact (hs.goes (.refl s)).modRx _
  · split
    · exact hgoes _ _
    · exact (hgoes _ _).modRx _
    · exact (hgoes _ _).modRx _
    · exact (hcounted _ _).2.goes ((hcounted _ _).1.recognise _)

end

end Sys2Proof.Machine
end

section
/-! Each pool block and each message stay in one place, whatever a step does (O59). -/

namespace Sys2Proof.Machine

section
variable {s t : State}

/-! ### The pool -/

theorem State.blocksOk_iff : s.blocksOk ↔ s.poolList.Perm (poolBlocks s.store.split) ∧ s.store.split ≤ 1024 := Iff.rfl

theorem State.SameParts.blocksOk (h : s.SameParts t) (hs : s.blocksOk) : t.blocksOk := by
  unfold State.blocksOk
  rw [h.store, h.descs]
  exact hs

/-- What keeps the pool's blocks and the split keeps their law. -/
theorem State.Sound.blocksOk (h : s.Sound t) (hsplit : t.store.split = s.store.split) (hs : s.blocksOk) : t.blocksOk := by
  rw [State.blocksOk_iff] at hs ⊢
  rw [hsplit]
  exact ⟨h.blocks.trans hs.1, hs.2⟩

theorem State.chains_of_anyChain (h : s.anyChain = false) : s.descs.toList.flatMap (·.chain) = [] := by
  refine List.flatMap_eq_nil_iff.2 fun d hd => ?_
  have hno := List.any_eq_false.1 h d hd
  simpa using hno

/-- R27. A new split has every block of the pool free. -/
theorem State.blocksOk_applySplit {nb : Nat} (hnb : nb ≤ 512) (hchain : s.anyChain = false) : (s.applySplit nb).blocksOk := by
  refine ⟨?_, hnb.trans (by decide)⟩
  show (poolBlocks nb ++ s.descs.toList.flatMap (·.chain)).Perm (poolBlocks nb)
  rw [State.chains_of_anyChain hchain, List.append_nil]

theorem State.Obeys.blocksOk (h : s.Obeys t) (hs : s.blocksOk) : t.blocksOk := by
  rcases h.sound with hsound | ⟨nb, rfl, hnb, hchain, -⟩
  · obtain ⟨u, hu, hquiet, hsplit | rfl⟩ := h.quiet
    · exact hsound.blocksOk (hquiet.split.trans hsplit) hs
    · cases hu with
      | split nb hnb hchain => exact State.blocksOk_applySplit hnb hchain
      | clock => exact hsound.blocksOk (by unfold State.stopAtEnd; split <;> rfl) hs
      | text l body => exact hsound.blocksOk (by unfold State.takeText State.followLoad; dsimp only; split <;> rfl) hs
      | _ => exact hsound.blocksOk rfl hs
  · exact State.blocksOk_applySplit hnb hchain

theorem State.Happens.blocksOk (h : s.Happens t) (hs : s.blocksOk) : t.blocksOk := by
  obtain ⟨u, hu, hquiet⟩ := h.quiet
  refine h.sound.blocksOk (hquiet.split.trans ?_) hs
  cases hu with
  | advance =>
    unfold State.advance
    split
    · rfl
    · split <;> rfl
  | stop => unfold State.stopAtEnd; split <;> rfl
  | _ => rfl

/-- R37. The uses of all channels are the lengths of all chains. -/
theorem State.sum_use (s : State) : (allChannels.map fun c => s.use c).sum = (s.descs.toList.flatMap (·.chain)).length := by
  have hsum (ds : List Descriptor) : (allChannels.map fun c =>
      (ds.map fun d => if d.channel = c then d.chain.length else 0).sum).sum = (ds.flatMap (·.chain)).length := by
    induction ds with
    | nil => decide
    | cons d ds ih =>
      have hone : (allChannels.map fun c => if d.channel = c then d.chain.length else 0).sum = d.chain.length := by
        rw [allChannels, ← Fin.sum_univ_def, Finset.sum_ite_eq, if_pos (Finset.mem_univ _)]
      simp only [List.map_cons, List.sum_cons, List.flatMap_cons, List.length_append]
      rw [← ih, ← hone, ← List.sum_map_add]
      rw [hone]
  exact hsum _

/-! ### The traffic -/

theorem State.SameParts.trafficOk (h : s.SameParts t) (hs : s.trafficOk) : t.trafficOk :=
  hs.of_parts h.descs h.channels (congrArg Store.areas h.store) (congrArg LoadUnit.current h.loadUnit)

theorem State.SameAir.setSlot (i : SlotNo) (e : Slot) : s.SameAir (s.setSlot i e) := .of_channels rfl

/-- Every accepted command keeps the laws of the traffic, and what it begins is timely. -/
theorem State.Obeys.goes (h : s.Obeys t) (hs : s.trafficOk) : s.goes t := by
  have hparts {t : State} (hdescs : t.descs = s.descs) (hchannels : t.channels = s.channels)
      (hareas : t.store.areas = s.store.areas) (hload : t.loadUnit.current = s.loadUnit.current) : s.goes t :=
    (hs.of_parts hdescs hchannels hareas hload).goes (.of_channels hchannels)
  cases h with
  | reports => exact hs.goes (.refl s)
  | clearCounts => exact hparts rfl rfl rfl rfl
  | masks => exact hparts rfl rfl rfl rfl
  | setClock day ms => exact hs.applyClock day ms
  | setSplit nb =>
    have hair : s.SameAir (s.applySplit nb) := fun c => by
      rw [State.chan_applySplit]
      exact ⟨rfl, rfl⟩
    refine State.trafficOk.goes (hs.same (t := s.applySplit nb) ⟨fun _ => rfl, fun c => ?_, fun _ => rfl, rfl⟩ hair) hair
    rw [State.chan_applySplit]
    rfl
  | defineArea a first last hbusy => exact hs.keep_goes (fun ht => ht.setArea hbusy rfl nofun) (.of_channels rfl)
  | clearArea a hbusy => exact hs.keep_goes (fun ht => ht.setArea hbusy rfl nofun) (.of_channels rfl)
  | setAllowance c reserve cap =>
    exact (State.trafficOk.rejudgeGrant (hs.modChan (f := fun ch => { ch with reserve := reserve, cap := cap }))).goes
      (State.SameAir.trans (t := s.modChan c fun ch => { ch with reserve := reserve, cap := cap }) .modChan
        (.of_channels State.channels_rejudgeGrant))
  | setGrain g =>
    exact (State.trafficOk.rejudgeGrant (hs.of_parts (t := { s with loadUnit := { s.loadUnit with grain := g } })
      rfl rfl rfl rfl)).goes (.of_channels State.channels_rejudgeGrant)
  | declare d h c hload hdup hfree =>
    exact hs.keep_goes (fun ht => ht.applyDeclare d hload hdup hfree) (.of_channels (State.channels_judgeGrant false))
  | openBulletin a n hload hdef hair => exact hs.keep_goes (fun ht => ht.applyOpen n hload hair) (.of_channels rfl)
  | text l body hload hcredit => exact hs.text hload hcredit
  | abandon l hload => exact hs.abandon hload
  | cancelNow h hstate =>
    refine State.goes.judgeKeyUp ((hs.freeSilent fun hno => ?_).goes .freeSilent) _
    simp only [List.mem_cons, List.not_mem_nil, or_false] at hstate hno
    rcases hno with hno | hno <;> simp [hno] at hstate
  | cancelLater h hstate => exact hs.cancelLater
  | discard h hstate =>
    refine (hs.freeSilent fun hno => ?_).goes .freeSilent
    simp only [List.mem_cons, List.not_mem_nil, or_false] at hstate hno
    rcases hno with hno | hno <;> simp [hno] at hstate
  | requeue h hstate => exact ((hs.requeueSent hstate).goes (.requeueReady _ _)).judgeKeyUp _
  | changeSlot i e =>
    refine State.goes.judgeKeyUp ?_ _
    have hset : (s.setSlot i e).trafficOk := hs.of_parts rfl rfl rfl rfl
    split
    · exact (hset.takeOccurrence i).goes ((State.SameAir.setSlot i e).trans (.takeOccurrence i))
    · exact hset.goes (.setSlot i e)
  | setChannel c x => exact (hs.modChan (f := fun ch => { ch with settings := x })).goes .modChan
  | openPort c hoff =>
    refine State.goes.judgeKeyUp ⟨hs.modChan_off rfl rfl ?_ rfl, (State.leadsTo_modChan (Item.leadsTo_refl _)).begun⟩ _
    rw [hoff]
    rfl
  | restorePort c hfault =>
    refine State.goes.judgeKeyUp ⟨hs.modChan_off rfl rfl ?_ rfl, (State.leadsTo_modChan (Item.leadsTo_refl _)).begun⟩ _
    rw [hfault]
    rfl
  | closePort c => exact hs.closePort
  | resetPort c => exact hs.resetPort
  | clearStats c => exact (hs.modChan (f := fun ch => { ch with stats := Stats.reset })).goes .modChan
  | setWatch w p => exact hparts rfl rfl rfl rfl
  | releaseLatch c => exact (hs.modChan (f := fun ch => { ch with latch := none })).goes .modChan
  | clearHold c ship => exact ((hs.dropHold ship).goes (.dropHold ship)).judgeKeyUp _
  | clearRx c => exact (hs.goes (.refl s)).modRx _

theorem State.trafficOk.setReady (hs : s.trafficOk) (c : ChannelNo) (ready : Bool) : (s.setReady c ready).trafficOk :=
  hs.modChan (f := fun ch => { ch with ready := ready })

theorem State.SameAir.setReady (c : ChannelNo) (ready : Bool) : s.SameAir (s.setReady c ready) := .modChan

theorem State.setReady_self (s : State) (c : ChannelNo) : s.setReady c (s.chan c).ready = s :=
  congrArg (fun v => { s with channels := v }) (vput_vget s.channels c)

/-- Every event keeps the laws of the traffic, and what it begins is timely. -/
theorem State.Happens.goes (h : s.Happens t) (hs : s.trafficOk) : s.goes t := by
  have hparts {t : State} (hdescs : t.descs = s.descs) (hchannels : t.channels = s.channels)
      (hareas : t.store.areas = s.store.areas) (hload : t.loadUnit.current = s.loadUnit.current) : s.goes t :=
    (hs.of_parts hdescs hchannels hareas hload).goes (.of_channels hchannels)
  cases h with
  | nothing => exact hs.goes (.refl s)
  | advance =>
    unfold State.advance
    split
    · exact hparts rfl rfl rfl rfl
    · split
      · exact hparts rfl rfl rfl rfl
      · exact hparts rfl rfl rfl rfl
  | rollover => exact hparts rfl rfl rfl rfl
  | stop =>
    unfold State.stopAtEnd
    split
    · exact hparts rfl rfl rfl rfl
    · exact hs.goes (.refl s)
  | occurrence i => exact ((hs.takeOccurrence i).goes (.takeOccurrence i)).judgeKeyUp _
  | deadline c q hq hpassed =>
    exact ((hs.endBroken hq (State.deadlinePassed_iff.1 hpassed).2.1 false).goes (.endRequest _ _ _)).judgeKeyUp _
  | expiry h he => exact ((hs.expire he).goes (.freeWith _ _)).judgeKeyUp _
  | ackTimer h hdue =>
    have hawait : (s.desc h).state = .awaitAck := by
      unfold State.ackOverdue at hdue
      split at hdue
      · simp only [Bool.and_eq_true, decide_eq_true_iff] at hdue
        exact hdue.1
      · cases hdue
    exact hs.keep_goes (fun ht => ht.timeOut hawait) (.of_channels rfl)
  | holdExpiry c ship => exact State.goes.judgeKeyUp (((hs.dropHold ship).goes (.dropHold ship)).emit _ _ _) _
  | keyUpLimit c =>
    have hfault := hs.faultChannel (c := c) (s.chan c).ready .keyUpFailed
    rwa [State.setReady_self] at hfault
  | keyUp cs => exact (hs.goes (.refl s)).judgeKeyUp cs
  | level c ready => exact (hs.setReady c ready).goes (.setReady c ready)
  | ready c hready =>
    have hoff : ((s.setReady c true).chan c).state.keyed = false := by
      unfold State.readyInTime at hready
      simp only [Bool.and_eq_true, decide_eq_true_iff] at hready
      rw [hready.1]
      rfl
    exact State.goes.judgeKeyUp ((State.SameAir.setReady c true).goes ((hs.setReady c true).enterOnAir hoff)) _
  | drop c => exact hs.faultChannel false .transmitterDropped
  | symbol c hdue =>
    have hkeyed : (s.chan c).state.keyed = true := by
      unfold State.symbolDue at hdue
      simp only [Bool.and_eq_true] at hdue
      exact hdue.1.1
    exact (hs.symbolCompletes hkeyed).judgeKeyUp _
  | received c y mutilated => exact hs.takeSymbol y mutilated

theorem step_keeps_blocksOk (h : step s = .next t) (hs : s.blocksOk) : t.blocksOk :=
  step_keeps (law := fun s => s.blocksOk) State.SameParts.blocksOk State.Obeys.blocksOk State.Happens.blocksOk
    (fun s _ => s.powerOn_blank.blocksOk) (fun s _ => s.restarted_blank.blocksOk) h hs

theorem step_keeps_trafficOk (h : step s = .next t) (hs : s.trafficOk) : t.trafficOk :=
  step_keeps (law := fun s => s.trafficOk) State.SameParts.trafficOk (fun h hs => (h.goes hs).1)
    (fun h hs => (h.goes hs).1)
    (fun s _ => s.powerOn_blank.trafficOk) (fun s _ => s.restarted_blank.trafficOk) h hs

/-- R36. A chain of enough blocks holds every symbol. -/
theorem le_mul_ceilDiv_blockCells (n : Nat) : n ≤ 64 * ceilDiv n 64 := by
  have hblocks : ceilDiv n 64 = (n + 63) / 64 := ceilDiv_blockCells n
  omega

end

end Sys2Proof.Machine

namespace Sys2Proof.Proofs

open Sys2Proof.Machine

/-- Settles O59: the blocks by the permutation of the pool that each command and event leaves, the traffic by the rules of
the messages, the load and the bulletins. -/
theorem stepKeepsTheBlocks : Obligations.StepKeepsTheBlocks := by
  unfold Obligations.StepKeepsTheBlocks
  refine ⟨fun s t hs h => step_keeps_blocksOk h hs, fun s hs => ?_, fun s t hs h => step_keeps_trafficOk h hs,
    fun s l hs hl => ?_⟩
  · obtain ⟨hperm, hsplit⟩ := hs
    have hlen := hperm.length_eq
    rw [List.length_append, poolBlocks_length] at hlen
    rw [State.sum_use]
    omega
  · obtain ⟨hwithin, -, htelex, -⟩ := hs.traffic.loads.credit l hl
    refine ⟨by omega, fun h c ht => ?_⟩
    obtain ⟨-, -, hchain, -⟩ := htelex h c ht
    rw [hchain]
    exact le_mul_ceilDiv_blockCells _

end Sys2Proof.Proofs
end

section
/-! Every step keeps the pending lists ordered and the hold tables bounded, and what it begins is timely (R91, R112, R119,
R161, R163). -/

namespace Sys2Proof.Machine

section
variable {s t u : State}

theorem State.SameParts.begun (h : t.SameParts u) (hs : s.begun t) : s.begun u := fun d =>
  (hs d).imp (fun hled => by rwa [h.chan]) fun hok =>
    hok.keep (.of_same h.clock (congrArg Store.cells h.store) h.slots (by rw [h.chan]; exact ⟨rfl, rfl, rfl, rfl⟩))
      (by rw [h.chan]) fun g _ => congrArg (vget · g) h.descs

/-- A channel that is reset begins nothing. -/
theorem State.begun_of_reset (ht : ∀ d, t.chan d = Channel.reset (s.chan d).ready) : s.begun t := fun d =>
  .inl (by rw [ht]; trivial)

theorem State.Acts.begun (h : s.Acts t) (hs : s.trafficOk) : s.begun t := by
  cases h with
  | nothing => exact (State.SameAir.refl s).leadsTo.begun
  | obeys h => exact (h.goes hs).2
  | happens h => exact (h.goes hs).2
  | powerOn => exact State.begun_of_reset s.chan_powerOn
  | restarted => exact State.begun_of_reset s.chan_restarted

/-- Every segment that begins in a step is timely. -/
theorem step_begun (h : step s = .next t) (hs : s.trafficOk) : s.begun t := by
  obtain ⟨u, v, hu, ha, hv⟩ := step_acts h
  have hacts : u.begun v := ha.begun (hu.trafficOk hs)
  exact hv.begun fun d => by rw [← hu.chan]; exact hacts d

end

end Sys2Proof.Machine

namespace Sys2Proof.Proofs

open Sys2Proof.Machine

/-- Settles O58: the lists and tables by the sound changes of a channel, and the segments by what each decision point
plans and what each other command and event leaves on the air. -/
theorem stepKeepsListsInOrder : Obligations.StepKeepsListsInOrder := by
  unfold Obligations.StepKeepsListsInOrder
  exact fun s t h => ⟨step_keeps_requestsOk h, step_keeps_holdsOk h, fun hs c m header e hb =>
    (step_begun h hs).timely hb⟩

end Sys2Proof.Proofs
end
